-- ==== Sys2Proof/Word.lean ====
section
/-! DEFINITION. The word of the climate RAM (spec 0.2, R159): sixteen data bits and one parity bit. -/

namespace Sys2Proof

/-- The sixteen data bits of one word of the climate RAM (0.2), and every 16-bit quantity packed in one. -/
abbrev Word := BitVec 16

/-- A word as it stands in the climate RAM or on a bus: its data and its parity bit (R159). -/
structure RamWord where
  data : Word
  parity : Bool
deriving DecidableEq, Repr

end Sys2Proof
end

