-- ==== Sys2Proof/Syntax.lean ====
section
/-! DEFINITION. The commands of the block: one constructor of `Instr` for each row of spec/opcode_table.json. The
table gives the rows no operands; each operand is the one the row's own rule speaks of. -/

namespace Sys2Proof

/-- The three lanes (R2), by their zone. -/
inductive LaneId where
  | front | crew | screen
deriving DecidableEq, Repr

/-- The two fresh-air inlets (0.6). -/
inductive Inlet where
  | roof | bumper
deriving DecidableEq, Repr

/-- The seven switch inputs (R119). -/
inductive SwitchId where
  | doorFL | doorFR | doorCL | doorCR | hatch | engineRun | purgeButton
deriving DecidableEq, Repr

/-- A command: one occurrence of the spec's table of operations and events. -/
inductive Instr where
  /-- RESET (R168): the RESET input goes low. -/
  | reset
  /-- RESET_RELEASED (R168). -/
  | resetReleased
  /-- LAYOUT_READ_COMPLETE (R169). -/
  | layoutReadComplete
  /-- THRESHOLD_READ_COMPLETE (R110). -/
  | thresholdReadComplete
  /-- RUNNING_ENTRY (R170). -/
  | runningEntry
  /-- DRAINING_COMPLETE (R167). -/
  | drainingComplete
  /-- TAG_CLOCK_TICK (R173). -/
  | tagClockTick
  /-- PRODUCER_WRITE (R5): a host write, with good parity, of `value` to the lane's producer word. -/
  | producerWrite (lane : LaneId) (value : Word)
  /-- START (R7): a host write, with good parity, of START to the lane's command word. -/
  | start (lane : LaneId)
  /-- STOP_AFTER (R8), in the same way. -/
  | stopAfter (lane : LaneId)
  /-- ABORT (R9), in the same way. -/
  | abort (lane : LaneId)
  /-- FLUSH (R10), in the same way. -/
  | flush (lane : LaneId)
  /-- LANE_COMMAND_UNKNOWN (R6): a host write, with good parity, of an unknown code to the lane's command word. -/
  | laneCommandUnknown (lane : LaneId) (code : Word)
  /-- FETCH_READ_DONE (R163). -/
  | fetchReadDone
  /-- ORDER_FETCH_COMPLETE (R13). -/
  | orderFetchComplete (lane : LaneId)
  /-- SETTLE_TIMER_EXPIRY (R17). -/
  | settleTimerExpiry (lane : LaneId)
  /-- DWELL_TIMER_EXPIRY (R18). -/
  | dwellTimerExpiry (lane : LaneId)
  /-- INLET_HOLD_DOWN_EXPIRY (R58). -/
  | inletHoldDownExpiry (inlet : Inlet)
  /-- PURGE_REQUEST (R74): a host write, with good parity, of code 5 to 0x0040. -/
  | purgeRequest
  /-- PURGE_TIMER_EXPIRY (R80). -/
  | purgeTimerExpiry
  /-- CONVERSION_COMPLETE (R92): the conversion under way ends with the count `result` (0 to 4095, R89). -/
  | conversionComplete (result : BitVec 12)
  /-- SCAN_PERIOD_ELAPSED (R96). -/
  | scanPeriodElapsed
  /-- SCAN_STOP (R101): a host write, with good parity, of code 3 to 0x0040. -/
  | scanStop
  /-- SCAN_START (R102): code 2. -/
  | scanStart
  /-- SPOT_READ (R103): code 4. -/
  | spotRead
  /-- THRESHOLD_WRITE (R111): a host write, with good parity, of `value` to word `index` of the threshold table. -/
  | thresholdWrite (index : Fin 24) (value : Word)
  /-- RAW_LEVEL_CHANGE (R120): the contact takes the level `active` (OPEN, ON or PRESSED) or the other one. -/
  | rawLevelChange (input : SwitchId) (active : Bool)
  /-- DEBOUNCE_TIMER_EXPIRY (R120). -/
  | debounceTimerExpiry (input : SwitchId)
  /-- PRESS_TIMER_EXPIRY (R127). -/
  | pressTimerExpiry
  /-- MOVING_PLANNED_END (R135). -/
  | movingPlannedEnd (damper : Fin 8)
  /-- SEATING_TIME_OUT (R135). -/
  | seatingTimeOut (damper : Fin 8)
  /-- STALL (R137). -/
  | stall (damper : Fin 8)
  /-- HOMING_LIMIT (R140). -/
  | homingLimit (damper : Fin 8)
  /-- CLEAR_JAM (R139): a host write, with good parity, of code 6 to 0x0040. -/
  | clearJam
  /-- TACH_PULSE (R144). -/
  | tachPulse
  /-- TACH_TIMEOUT (R144). -/
  | tachTimeout
  /-- BLOWER_WATCH_EXPIRY (R145). -/
  | blowerWatchExpiry
  /-- CLEAR_BLOWER_FAIL (R146): code 7. -/
  | clearBlowerFail
  /-- STAGE_UP_TIMER_EXPIRY (R149). -/
  | stageUpTimerExpiry
  /-- RESTORE_TIMER_EXPIRY (R151). -/
  | restoreTimerExpiry
  /-- HOST_WRITE (R155): a host write of `word`, with the parity it came with, to `addr`. -/
  | hostWrite (addr : Word) (word : RamWord)
  /-- TRESPASS (R158): a host write of `word` to the guarded word `addr`. -/
  | trespass (addr : Word) (word : RamWord)
  /-- SERVICE_ARGUMENT_WRITE (R171): a host write, with good parity, of `value` to 0x0041. -/
  | serviceArgumentWrite (value : Word)
  /-- SERVICE_CODE_UNKNOWN (R171): a host write, with good parity, of an unknown code to 0x0040. -/
  | serviceCodeUnknown (code : Word)
  /-- RESTART (R172): code 1. -/
  | restart
  /-- EVENT_CONSUMER_WRITE (R176): a host write, with good parity, of `value` to the event consumer word. -/
  | eventConsumerWrite (value : Word)
  /-- RECORD_QUEUE_WRITE (R164). -/
  | recordQueueWrite
  /-- WAITING_WRITE_ENTERS_QUEUE (R164). -/
  | waitingWriteEntersQueue
  /-- IMAGE_SET_WRITE (R165). -/
  | imageSetWrite
  /-- HOST_READ_HELD (R166): a host read of `addr`, which has a pending part write. -/
  | hostReadHeld (addr : Word)
  /-- READ_FLUSH_WRITE (R166). -/
  | readFlushWrite
  /-- HELD_READ_GRANTED (R166). -/
  | heldReadGranted
  /-- HOST_READ (R159): a host read of `addr`. -/
  | hostRead (addr : Word)
deriving DecidableEq, Repr

end Sys2Proof
end

