-- ==== Sys2Proof/Config.lean ====
section
/-! DEFINITION. What one part fixes and the spec leaves open, and the fixed sizes the spec names. -/

namespace Sys2Proof

/-- FREE VALUE (log 9). R117, step 6: the Hold Table and the Mix Governor are both given a grade notice, "and either
may be taken first". `true` at index n: at the n-th grade notice the Hold Table is given it first. Nothing
constrains it. -/
opaque Config.gradeNoticeTableFirst : Nat → Bool

/-- R164: the Record Queue holds at most 32 entries. -/
def Config.recordQueueSize : Nat := 32

end Sys2Proof
end

