-- ==== Sys2Proof/Machine/State.lean ====
section
/-! DEFINITION. The state of the part: every piece of state the spec names, as plain data, and the part right after
RESET. The chapters' records keep the chapters' names. -/

namespace Sys2Proof.Machine

/-! ### Names of the chapters -/

/-- R168: the part states. -/
inductive PartState where
  | reset | loading | running | fault | draining
deriving DecidableEq, Repr

/-- R169: the fault reasons. -/
inductive FaultReason where
  | parity | version | sum | region | range | scanList | ranks
deriving DecidableEq, Repr

/-- R2, 13.9: the lane states. -/
inductive LaneState where
  | disabled | stopped | idle | fetch | settle | dwell | check
deriving DecidableEq, Repr

/-- R13: an order's source request. -/
inductive SourceReq where
  | recirc | freshRoof | freshBumper | freshAny
deriving DecidableEq, Repr

/-- R13: an order's filter request. -/
inductive FilterReq where
  | auto | through | bypass
deriving DecidableEq, Repr

/-- R22, 13.9: the completion codes. -/
inductive Completion where
  | none | inProgress | done | checkFailed | rejectedField | rejectedParity | aborted | holdEnded
deriving DecidableEq, Repr

/-- R28: the chosen source. -/
inductive ChosenSource where
  | recirc | freshRoof | freshBumper
deriving DecidableEq, Repr

/-- R28: the source owner. -/
inductive Owner where
  | lane (l : LaneId) | purge | doors | default
deriving DecidableEq, Repr

/-- R28: the filter setting. -/
inductive FilterSetting where
  | bypass | through
deriving DecidableEq, Repr

/-- R106: the bodies of air. -/
inductive Body where
  | roof | bumper | cab
deriving DecidableEq, Repr

/-- R106: the grade of a body. -/
inductive Grade where
  | clean | suspect | foul | blind
deriving DecidableEq, Repr

/-- R106: the level of a graded channel; R112 gives its first three names to the classes of a reading. -/
inductive Level where
  | ok | high | severe | blind
deriving DecidableEq, Repr

/-- R108: why a threshold entry is refused. -/
inductive ThresholdReason where
  | parity | limits | margin | counts
deriving DecidableEq, Repr

/-- R51: the subjects of DOOR_OPEN. -/
inductive Door where
  | fl | fr | cl | cr | hatch
deriving DecidableEq, Repr

/-- R51: a hold's kind with its subject: the twenty pairs. -/
inductive HoldKey where
  | inletBarred (i : Inlet)
  | cabFoul
  | doorOpen (d : Door)
  | purge
  | heatShed
  | engineOff
  | damperJam (d : Fin 8)
  | blowerFail
deriving DecidableEq, Repr

/-- R51: the causes of holds. -/
inductive HoldCause where
  | start | gradeFoul | gradeBlind | input | doors | cabFoul | button | service | budget | stall | homing | watch
deriving DecidableEq, Repr

/-- R70: the purge states, and the phases of the PURGE hold (R51). -/
inductive PurgeState where
  | idle | waitClose | run | scrub | verify
deriving DecidableEq, Repr

/-- R74: the triggers, and the purge's cause. -/
inductive PurgeCause where
  | doors | cabFoul | button | service
deriving DecidableEq, Repr

/-- R128: the damper states. -/
inductive DamperState where
  | atRest | waiting | moving | seating | homing | jammed
deriving DecidableEq, Repr

/-- R128: the jam causes. -/
inductive JamCause where
  | stall | homing
deriving DecidableEq, Repr

/-- R134: the direction of travel. -/
inductive Direction where
  | opening | closing
deriving DecidableEq, Repr

/-- R89: the open-wire methods. -/
inductive OpenWire where
  | none | precharge | discharge
deriving DecidableEq, Repr

/-- R88: where a result came from. -/
inductive Origin where
  | scan | spot
deriving DecidableEq, Repr

/-- R94: the scanner states. -/
inductive ScanState where
  | stopped | scanning | waiting | spot
deriving DecidableEq, Repr

/-- R94: the resume point; `restart` is position 0 with a pass start still to be set (R102). -/
inductive Resume where
  | absent | at (position : Nat) | endOfPass | restart
deriving DecidableEq, Repr

/-- R97: who may ask for a spot. -/
inductive Requester where
  | lane (l : LaneId) | purge | heat | service
deriving DecidableEq, Repr

/-- R142: one heater stage. -/
inductive StageState where
  | off | on | dead
deriving DecidableEq, Repr

/-- R142: the blower watch. `timing d`: it runs out at the moment `d` ms. -/
inductive Watch where
  | idle | timing (deadline : Nat) | spent
deriving DecidableEq, Repr

/-- R179: the lamp modes. -/
inductive LampMode where
  | off | steady | slowFlash | fastFlash
deriving DecidableEq, Repr

/-- R177: the event kinds. -/
inductive EventKind where
  | startDone | trespass | busParity | serviceRefused | laneWriteRefused | orderStarted | orderEnded | laneStopped
  | channelOpen | channelRestored | thresholdRefused | gradeChanged | holdRaised | holdReleased | doorOpened | doorClosed
  | buttonShort | purgeStarted | purgeInterrupted | purgeScrub | purgeDone | purgeUnverified | purgeUnresolved
  | damperJammed | damperHomed | stageDead | tagRollover | overrun | eventConsumerRefused | spotDone
deriving DecidableEq, Repr

/-- R162: the three sources of part cycles. -/
inductive Source where
  | fetch | record | image
deriving DecidableEq, Repr

/-! ### One value for each lane, each body -/

/-- One value for each of the three lanes. -/
structure PerLane (α : Type) where
  front : α
  crew : α
  screen : α
deriving DecidableEq, Repr

/-- One value for each of the three bodies of air. -/
structure PerBody (α : Type) where
  roof : α
  bumper : α
  cab : α
deriving DecidableEq, Repr

/-! ### The latched layout (13.1) -/

/-- The place of one lane's ring (R2). -/
structure Ring where
  base : Nat
  size : Nat
deriving DecidableEq, Repr

/-- The layout as latched at start-up (R169, 13.1): every setting of the layout block. -/
structure Layout where
  version : Nat
  memoryUnits : Nat
  laneBase : Nat
  rings : PerLane Ring
  ranks : PerLane Nat
  eventBase : Nat
  eventSize : Nat
  senseBase : Nat
  statusBase : Nat
  thresholdBase : Nat
  scanLength : Nat
  scanPeriod : Nat
  scanList : Vector (Fin 16) 16
  methods : Vector OpenWire 16
  doorDebounce : Nat
  buttonDebounce : Nat
  engineDebounce : Nat
  longPress : Nat
  exposureThreshold : Nat
  preferred : Inlet
  purgeTime : Nat
  extensionTime : Nat
  extensionLimit : Nat
  scrubTime : Nat
  purgeBlower : Nat
  curtainBlower : Nat
  idleBlower : Nat
  engineOffCap : Nat
  purgeRelief : Nat
  reliefStep : Nat
  dpSetpoint : Nat
  dpBand : Nat
  holdDown : Nat
  defaultSource : SourceReq
  rest : PerLane Nat
  minFresh : Nat
  heatGain : Nat
  coolantLevel : Nat
  voltA : Nat
  voltB : Nat
  restoreTime : Nat
  stageInterval : Nat
  stageStep : Nat
  motionGrants : Nat
  travel : Vector Nat 8
  stallSpeed : Nat
  signalLow : Word
  signalHigh : Word
deriving DecidableEq, Repr

/-! ### Layout Loader -/

/-- What a start-up under way waits for (R169, R170, R172). -/
inductive LoaderPhase where
  /-- no start-up is under way -/
  | none
  /-- the reads left from an abandoned start-up (R172) -/
  | abandoned
  /-- the 64 layout reads (R169) -/
  | layout
  /-- the 24 threshold reads (R169) -/
  | thresholds
  /-- the initial writes (R170) -/
  | writes
deriving DecidableEq, Repr

/-- The Layout Loader's progress: its phase and the words returned so far. -/
structure Loader where
  phase : LoaderPhase
  words : List RamWord
deriving DecidableEq, Repr

/-! ### Pass-Through Unit -/

/-- A word of memory at its address. -/
abbrev RamCell := Nat × RamWord

/-- The climate RAM in its canonical form (log 4). -/
abbrev Memory := List RamCell

/-- What a Record Queue entry's write brings about beside the write itself. The model's own bookkeeping: the spec
tells these writes apart by their meaning (R155 the end tag, R178 a record's value word, R170 the last initial write). -/
inductive EntryRole where
  | plain
  | endTag (l : LaneId) (slot : Nat)
  | eventValue (index : Nat) (signalled : Bool)
  | lastInitial
deriving DecidableEq, Repr

/-- R164: an entry of the Record Queue, in it or waiting for room. -/
structure RecordEntry where
  addr : Nat
  data : Word
  role : EntryRole
deriving DecidableEq, Repr

/-- R165: an entry of the Image Set. -/
structure ImageEntry where
  addr : Nat
  data : Word
deriving DecidableEq, Repr

/-- R163: who placed a read; `abandoned`, the loader in a start-up that RESTART abandoned (R172). -/
inductive Placer where
  | lane (l : LaneId) | loader | abandoned
deriving DecidableEq, Repr

/-- R163: a read request of the fetch source. -/
structure ReadRequest where
  addr : Nat
  placer : Placer
deriving DecidableEq, Repr

/-- R166: a host read held on WAIT, with the flushes still owed to it. -/
structure HeldRead where
  addr : Nat
  imageOwed : Bool
  recordsOwed : Nat
deriving DecidableEq, Repr

/-- The Pass-Through Unit and the climate RAM behind it (R155 to R167). -/
structure Port where
  ram : Memory
  records : List RecordEntry
  waiting : List RecordEntry
  images : List ImageEntry
  reads : List ReadRequest
  hostPassed : Bool
  pointer : Source
  held : Option HeldRead
  guards : List (LaneId × Nat)
  lastRead : Option RamCell
deriving DecidableEq, Repr

/-! ### Order Lanes -/

/-- The fields of an order that a lane latches (R14, 13.4). -/
structure OrderFields where
  source : SourceReq
  filter : FilterReq
  retryLimit : Nat
  swapInlet : Bool
  checkQuality : Bool
  stopOnFail : Bool
  stopOnHold : Bool
  reportStart : Bool
  reportEnd : Bool
  targetPresent : Bool
  zone : Nat
  blower : Nat
  target : Nat
  tolerance : Nat
  settleLimit : Nat
  dwell : Nat
deriving DecidableEq, Repr

/-- The sticky flags (13.4). -/
structure StickyFlags where
  slowSettle : Bool
  damperJammed : Bool
  overridden : Bool
  sourceDenied : Bool
  retried : Bool
  sensorOpen : Bool
deriving DecidableEq, Repr

/-- R25: what a lane puts before the Governor. -/
structure Demand where
  source : Option SourceReq
  filter : Option FilterReq
  zone : Nat
  blower : Option Nat
  target : Option Nat
deriving DecidableEq, Repr

/-- R19, R83: a spot result kept by a requester: the channel, the raw result, the OPEN flag with it. -/
structure SpotResult where
  channel : Fin 16
  value : Nat
  isOpen : Bool
deriving DecidableEq, Repr

/-- R2: the active order record. `words` are the fetch reads returned so far (R12); `fields` are present from the
start of the order (R14). -/
structure ActiveOrder where
  slot : Nat
  words : List RamWord
  fields : Option OrderFields
  retries : Nat
  flags : StickyFlags
  settleTimer : Nat
  dwellTimer : Nat
  abortPending : Bool
  awaited : List (Fin 16)
  results : List SpotResult
deriving DecidableEq, Repr

/-- R2: a lane. Its ring and rank are the latched layout's. -/
structure Lane where
  state : LaneState
  mirror : Nat
  consumer : Nat
  stopPending : Bool
  order : Option ActiveOrder
  carried : Demand
deriving DecidableEq, Repr

/-! ### Mix Governor -/

/-- R28: the Mix Record. -/
structure Mix where
  roof : Nat
  bumper : Nat
  recirc : Nat
  filter : FilterSetting
  blower : Nat
  relief : Nat
  zones : PerLane Nat
  heat : Nat
  owner : Owner
  denied : PerLane Bool
deriving DecidableEq, Repr

/-- The Governor's latest view of one inlet damper (R35, R43 test 5). -/
structure InletView where
  jammed : Bool
  estimate : Option Nat
  cleared : Bool
deriving DecidableEq, Repr

/-- R30: the Governor's latest view of the inputs that reach it by a notice of their own. Its other inputs (the holds,
the lanes, the channels) it is told of at once at each change, before anything else reads them. -/
structure GovernorView where
  grades : PerBody Grade
  purge : PurgeState
  purgeInlet : Option Inlet
  purgeOrigin : Option PurgeState
  roofDamper : InletView
  bumperDamper : InletView
deriving DecidableEq, Repr

/-- The Mix Governor: the Mix Record, the chosen source, its view. -/
structure Governor where
  mix : Mix
  chosen : ChosenSource
  view : GovernorView
deriving DecidableEq, Repr

/-! ### Hold Table -/

/-- R51: a hold record. The release-not-before tag is present exactly while the inlet's hold-down timer runs. -/
structure HoldRecord where
  key : HoldKey
  cause : HoldCause
  raised : Word
  notBefore : Option Word
  phase : Option PurgeState
deriving DecidableEq, Repr

/-! ### Purge Controller -/

/-- R70: the purge record. -/
structure Purge where
  state : PurgeState
  cause : Option PurgeCause
  remaining : Option Nat
  extensions : Nat
  inlet : Option Inlet
  origin : Option PurgeState
  awaited : List (Fin 16)
  results : List SpotResult
  doorOpen : Bool
deriving DecidableEq, Repr

/-! ### Sense Scanner -/

/-- R88: a channel record; the filtered value is computed from the window (R91). -/
structure Channel where
  last : Option (Nat × Origin)
  window : List Nat
  railRun : Nat
  clearRun : Nat
  isOpen : Bool
deriving DecidableEq, Repr

/-- A set of requesters, each present at most once (R97). -/
structure RequesterSet where
  lanes : PerLane Bool
  purge : Bool
  heat : Bool
  service : Bool
deriving DecidableEq, Repr

/-- R97: an entry of the Spot Queue. -/
structure SpotEntry where
  channel : Fin 16
  requesters : RequesterSet
  served : Option RequesterSet
deriving DecidableEq, Repr

/-- R89: the conversion under way: its channel and the moment its preparation began. -/
structure Conversion where
  channel : Fin 16
  began : Nat
deriving DecidableEq, Repr

/-- R99: a pass that ended as the step after a completed scan conversion and was followed by the next at once: the
moment of that end and the pass start as it stood before. A spot request of that very moment finds the pass still to
end. -/
structure PassEnd where
  moment : Nat
  start : Option Nat
deriving DecidableEq, Repr

/-- R94: the scanner record, with the pass end of R99, the conversion under way and the channel records. -/
structure Scanner where
  state : ScanState
  position : Nat
  passStart : Option Nat
  ended : Option PassEnd
  resume : Resume
  queue : List SpotEntry
  conversion : Option Conversion
  channels : Vector Channel 16
deriving DecidableEq, Repr

/-! ### Air Grader -/

/-- R106: the latched limits. -/
structure Limits where
  high : Nat
  severe : Nat
  margin : Nat
  raiseCount : Nat
  lowerCount : Nat
deriving DecidableEq, Repr

/-- R106: a channel grading record. -/
structure Grading where
  copy : Option (Vector RamWord 4)
  limits : Option Limits
  level : Level
  raiseRun : Nat
  lowerRun : Nat
  suspended : Bool
  openView : Bool
deriving DecidableEq, Repr

/-- The Air Grader: six grading records and three grades. -/
structure Grader where
  channels : Vector Grading 6
  grades : PerBody Grade
deriving DecidableEq, Repr

/-! ### Switch Input Unit -/

/-- R119: one switch input; `true` is OPEN, ON or PRESSED. The debounce timer is the moment it expires. -/
structure Switch where
  raw : Bool
  accepted : Bool
  debounce : Option Nat
deriving DecidableEq, Repr

/-- R119, R123, R127: the Switch Input Unit. The open set is by `Door` in the order FL, FR, CL, CR, HATCH. -/
structure Switches where
  inputs : Vector Switch 7
  openSet : Vector Bool 5
  episodeStart : Option Nat
  pressDeadline : Option Nat
  pressBegan : Option Nat
  longPressed : Bool
deriving DecidableEq, Repr

/-! ### Damper Drive -/

/-- R128: a travel plan. `start` is unknown in HOMING (R140). -/
structure Plan where
  direction : Direction
  start : Option Nat
  distance : Nat
  began : Nat
  ends : Nat
deriving DecidableEq, Repr

/-- R128: a damper record. `cleared`: it has left JAMMED at a CLEAR_JAM in this RUNNING period and has not homed since
(R43, test 5). -/
structure Damper where
  state : DamperState
  estimate : Option Nat
  target : Nat
  plan : Option Plan
  jam : Option JamCause
  cleared : Bool
deriving DecidableEq, Repr

/-- R132: an entry of the Motion Queue. -/
structure MotionEntry where
  damper : Fin 8
  homing : Bool
deriving DecidableEq, Repr

/-- The Damper Drive: eight damper records and the Motion Queue. -/
structure Drive where
  dampers : Vector Damper 8
  queue : List MotionEntry
deriving DecidableEq, Repr

/-! ### Blower and Heat Unit -/

/-- R142: a verify in flight. Stages are numbered 1 to 4 in the spec, 0 to 3 here. -/
structure StageVerify where
  stage : Fin 4
  baseline : Nat
deriving DecidableEq, Repr

/-- R142: a running restore timer: its candidate class and the moment it expires. -/
structure RestoreTimer where
  candidate : Nat
  deadline : Nat
deriving DecidableEq, Repr

/-- R142: the Blower and Heat Unit's record. Running timers are held as the moment they expire. -/
structure HeatUnit where
  blower : Nat
  speed : Nat
  lastPulse : Option Nat
  watch : Watch
  demand : Nat
  coolant : Option Nat
  coolantOpen : Bool
  seesShed : Bool
  seesEngineOff : Bool
  seesBlowerFail : Bool
  valve : Nat
  stages : Vector StageState 4
  stageUpTimer : Option Nat
  verify : Option StageVerify
  lastAmps : Option Nat
  allowed : Nat
  firstReading : Bool
  lowerRun : Nat
  lowerHighest : Nat
  restore : Option RestoreTimer
deriving DecidableEq, Repr

/-! ### Event Writer -/

/-- R174: the writer record, with the lamp view and the lamp mode (R179). -/
structure EventWriter where
  producer : Nat
  consumer : Nat
  overrun : Nat
  lastSignalled : Option Nat
  jams : Nat
  blowerFail : Bool
  cabFoul : Bool
  scrub : Bool
  lamp : LampMode
  lampSince : Nat
deriving DecidableEq, Repr

/-! ### The state of the part -/

/-- The whole state of the part, the climate RAM behind it and the commands that wait. -/
structure State where
  pending : List Instr
  now : Nat
  freeIndex : Nat
  part : PartState
  faultReason : Option FaultReason
  layout : Option Layout
  loader : Loader
  serviceArg : Word
  tagClock : Word
  lastTick : Nat
  port : Port
  lanes : PerLane Lane
  governor : Governor
  holds : List HoldRecord
  purge : Purge
  scanner : Scanner
  grader : Grader
  switches : Switches
  drive : Drive
  heat : HeatUnit
  events : EventWriter
deriving DecidableEq, Repr

/-- The ways the part stops with a fault: none. The spec gives the part no behaviour that stops it; its part state
FAULT (R169) goes on and is a part state. -/
inductive Fault where
deriving DecidableEq, Repr

/-- The refusals of the model. -/
inductive Refusal where
  /-- Raised by `exec` alone, for a command whose meaning is not written yet; safe. No arm raises it. -/
  | notModelled (mnemonic : String)
deriving DecidableEq, Repr

/-! ### Right after RESET -/

/-- R25: rest demand, with the given rest opening. -/
def Demand.rest (zone : Nat) : Demand :=
  { source := none, filter := none, zone := zone, blower := none, target := none }

/-- R3: a lane that holds no state. -/
def Lane.reset : Lane :=
  { state := .disabled, mirror := 0, consumer := 0, stopPending := false, order := none, carried := .rest 0 }

/-- R29: the reset values of the Mix Record, with the given rest openings. -/
def Mix.reset (zones : PerLane Nat) : Mix :=
  { roof := 0, bumper := 0, recirc := 100, filter := .bypass, blower := 0, relief := 0, zones := zones, heat := 0
    owner := .default, denied := ⟨false, false, false⟩ }

/-- The Governor's view of an unhomed inlet damper (R129). -/
def InletView.reset : InletView := { jammed := false, estimate := none, cleared := false }

/-- R70, R107, R129: the inputs as the blocks hold them after RESET. -/
def GovernorView.reset : GovernorView :=
  { grades := ⟨.blind, .blind, .blind⟩, purge := .idle, purgeInlet := none, purgeOrigin := none
    roofDamper := .reset, bumperDamper := .reset }

/-- R29: the Governor with its reset values. -/
def Governor.reset (zones : PerLane Nat) : Governor :=
  { mix := .reset zones, chosen := .recirc, view := .reset }

/-- R70: the purge record in RESET. -/
def Purge.reset : Purge :=
  { state := .idle, cause := none, remaining := none, extensions := 0, inlet := none, origin := none, awaited := []
    results := [], doorOpen := false }

/-- R88: the starting state of a channel record. -/
def Channel.reset : Channel := { last := none, window := [], railRun := 0, clearRun := 0, isOpen := false }

/-- R94: the scanner record in RESET. -/
def Scanner.reset : Scanner :=
  { state := .stopped, position := 0, passStart := none, ended := none, resume := .absent, queue := []
    conversion := none, channels := Vector.replicate 16 .reset }

/-- R107: a grading record in RESET. -/
def Grading.reset : Grading :=
  { copy := none, limits := none, level := .blind, raiseRun := 0, lowerRun := 0, suspended := false, openView := false }

/-- R107: the Air Grader in RESET. -/
def Grader.reset : Grader := { channels := Vector.replicate 6 .reset, grades := ⟨.blind, .blind, .blind⟩ }

/-- R119, R121: the Switch Input Unit in RESET, with every contact at rest (log 6). -/
def Switches.reset : Switches :=
  { inputs := Vector.replicate 7 { raw := false, accepted := false, debounce := none }
    openSet := Vector.replicate 5 false, episodeStart := none, pressDeadline := none, pressBegan := none
    longPressed := false }

/-- R129, log 7: a damper in RESET. -/
def Damper.reset : Damper :=
  { state := .waiting, estimate := none, target := 0, plan := none, jam := none, cleared := false }

/-- R129: the Damper Drive in RESET. -/
def Drive.reset : Drive := { dampers := Vector.replicate 8 .reset, queue := [] }

/-- R142: the Blower and Heat Unit's starting record. -/
def HeatUnit.reset : HeatUnit :=
  { blower := 0, speed := 0, lastPulse := none, watch := .idle, demand := 0, coolant := none, coolantOpen := false
    seesShed := false, seesEngineOff := false, seesBlowerFail := false, valve := 0
    stages := Vector.replicate 4 .off, stageUpTimer := none, verify := none, lastAmps := none, allowed := 0
    firstReading := true, lowerRun := 0, lowerHighest := 0, restore := none }

/-- R174: the writer record in RESET. -/
def EventWriter.reset : EventWriter :=
  { producer := 0, consumer := 0, overrun := 0, lastSignalled := none, jams := 0, blowerFail := false
    cabFoul := false, scrub := false, lamp := .off, lampSince := 0 }

/-- R161 to R167: the Pass-Through Unit after RESET, over the given RAM. -/
def Port.reset (ram : Memory) (lastRead : Option RamCell) : Port :=
  { ram := ram, records := [], waiting := [], images := [], reads := [], hostPassed := false, pointer := .fetch
    held := none, guards := [], lastRead := lastRead }

/-- The part right after power-on RESET (R168), with an empty command queue. What the chapters do not give is the model's
choice (logs 4 and 6 to 8; log 8 names the latched service argument). -/
def State.reset : State :=
  { pending := [], now := 0, freeIndex := 0, part := .reset, faultReason := none, layout := none
    loader := { phase := .none, words := [] }, serviceArg := 0, tagClock := 0, lastTick := 0
    port := .reset [] none, lanes := ⟨.reset, .reset, .reset⟩, governor := .reset ⟨0, 0, 0⟩, holds := []
    purge := .reset, scanner := .reset, grader := .reset, switches := .reset, drive := .reset, heat := .reset
    events := .reset }

end Sys2Proof.Machine
end

