-- ==== Sys2Proof/Machine/Ops.lean ====
section
/-! DEFINITION. The named operations over memory, the three sources of part cycles, the records of the blocks and the
event ring. Every part write is offered through `State.offer` or `State.putImage`, every event through `emit`. -/

namespace Sys2Proof

/-! ### Words and parity (R159) -/

/-- A word of the given count; counts are below 65536 wherever a rule writes one. -/
def w16 (n : Nat) : Word := BitVec.ofNat 16 n

/-- How many of the sixteen data bits are ones. -/
def onesCount (w : Word) : Nat := (List.range 16).countP (fun i => w.getLsbD i)

/-- R159: the parity bit with which a word and its bit together hold an odd number of ones. -/
def oddParity (w : Word) : Bool := onesCount w % 2 == 0

/-- R160: a word with good parity, as the part writes it. -/
def RamWord.good (d : Word) : RamWord := ⟨d, oddParity d⟩

/-- R159: whether a word and its parity bit together hold an odd number of ones. -/
def RamWord.parityOk (w : RamWord) : Bool := w.parity == oddParity w.data

/-- Bits `lo` to `lo + width - 1` of a word, as a count (chapter 13). -/
def field (w : Word) (lo width : Nat) : Nat := w.toNat / 2 ^ lo % 2 ^ width

/-- One bit of a word. -/
def bit (w : Word) (i : Nat) : Bool := w.getLsbD i

/-- R2: the lane index. -/
def LaneId.index : LaneId → Nat
  | .front => 0
  | .crew => 1
  | .screen => 2

/-- R2: the lane's zone damper. -/
def LaneId.damper : LaneId → Fin 8
  | .front => 4
  | .crew => 5
  | .screen => 6

/-- R2: the lane's temperature channel. -/
def LaneId.channel : LaneId → Fin 16
  | .front => 8
  | .crew => 9
  | .screen => 10

/-- R119: the place of a switch input. -/
def SwitchId.index : SwitchId → Fin 7
  | .doorFL => 0
  | .doorFR => 1
  | .doorCL => 2
  | .doorCR => 3
  | .hatch => 4
  | .engineRun => 5
  | .purgeButton => 6

/-- R35: the damper of an inlet. -/
def Inlet.damper : Inlet → Fin 8
  | .roof => 0
  | .bumper => 1

/-- 13.9: the code of an inlet. -/
def Inlet.code : Inlet → Nat
  | .roof => 0
  | .bumper => 1

/-- The other inlet. -/
def Inlet.other : Inlet → Inlet
  | .roof => .bumper
  | .bumper => .roof

/-- The count 1 or 0 of a flag. -/
def flag (b : Bool) : Nat := if b then 1 else 0

end Sys2Proof

namespace Sys2Proof.Machine

/-! ### The climate RAM -/

/-- What a word of the RAM that nothing has written reads as: 0 with good parity (log 4). -/
def unlisted : RamWord := ⟨0, true⟩

/-- The word at an address. -/
def Memory.read : Memory → Nat → RamWord
  | [], _ => unlisted
  | (b, w) :: m, a => if b = a then w else Memory.read m a

/-- The RAM with one word written, in canonical form. -/
def Memory.write : Memory → Nat → RamWord → Memory
  | [], a, w => if w = unlisted then [] else [(a, w)]
  | (b, x) :: m, a, w =>
    if a < b then (if w = unlisted then (b, x) :: m else (a, w) :: (b, x) :: m)
    else if a = b then (if w = unlisted then m else (a, w) :: m)
    else (b, x) :: Memory.write m a w

/-- The canonical form: addresses strictly rising, no entry equal to what an unlisted word reads as. -/
def Memory.wf : Memory → Bool
  | [] => true
  | (a, w) :: m => decide (w ≠ unlisted) && m.all (fun c => decide (a < c.1)) && Memory.wf m

/-! ### One value for each lane, body, damper, channel -/

/-- The three lanes in index order (R2). -/
def allLanes : List LaneId := [.front, .crew, .screen]

/-- The eight dampers in number order (R128). -/
def allDampers : List (Fin 8) := [0, 1, 2, 3, 4, 5, 6, 7]

def PerLane.get {α : Type} (p : PerLane α) : LaneId → α
  | .front => p.front
  | .crew => p.crew
  | .screen => p.screen

def PerLane.set {α : Type} (p : PerLane α) (l : LaneId) (x : α) : PerLane α :=
  match l with
  | .front => { p with front := x }
  | .crew => { p with crew := x }
  | .screen => { p with screen := x }

def PerBody.get {α : Type} (p : PerBody α) : Body → α
  | .roof => p.roof
  | .bumper => p.bumper
  | .cab => p.cab

def PerBody.set {α : Type} (p : PerBody α) (b : Body) (x : α) : PerBody α :=
  match b with
  | .roof => { p with roof := x }
  | .bumper => { p with bumper := x }
  | .cab => { p with cab := x }

/-- A vector with one entry replaced. -/
def vset {α : Type} {n : Nat} (v : Vector α n) (i : Fin n) (x : α) : Vector α n := v.set i.val x i.isLt

/-- 13.9: the code of a door input, and its place in the open set. -/
def Door.index : Door → Fin 5
  | .fl => 0
  | .fr => 1
  | .cl => 2
  | .cr => 3
  | .hatch => 4

/-- The zero layout: what the operations read where no layout is latched, which no run reaches in RUNNING (log 30). -/
def Layout.absent : Layout :=
  { version := 0, memoryUnits := 0, laneBase := 0, rings := ⟨⟨0, 0⟩, ⟨0, 0⟩, ⟨0, 0⟩⟩, ranks := ⟨0, 0, 0⟩, eventBase := 0
    eventSize := 0, senseBase := 0, statusBase := 0, thresholdBase := 0, scanLength := 0, scanPeriod := 0
    scanList := Vector.replicate 16 0, methods := Vector.replicate 16 .none, doorDebounce := 0, buttonDebounce := 0
    engineDebounce := 0, longPress := 0, exposureThreshold := 0, preferred := .roof, purgeTime := 0, extensionTime := 0
    extensionLimit := 0, scrubTime := 0, purgeBlower := 0, curtainBlower := 0, idleBlower := 0, engineOffCap := 0
    purgeRelief := 0, reliefStep := 0, dpSetpoint := 0, dpBand := 0, holdDown := 0, defaultSource := .recirc
    rest := ⟨0, 0, 0⟩, minFresh := 0, heatGain := 0, coolantLevel := 0, voltA := 0, voltB := 0, restoreTime := 0
    stageInterval := 0, stageStep := 0, motionGrants := 0, travel := Vector.replicate 8 0, stallSpeed := 0
    signalLow := 0, signalHigh := 0 }

/-- The latched layout. -/
def State.lay (s : State) : Layout := s.layout.getD .absent

/-- Replace one lane. -/
def State.setLane (s : State) (l : LaneId) (x : Lane) : State := { s with lanes := s.lanes.set l x }

/-- Replace a lane's active order. -/
def State.setOrder (s : State) (l : LaneId) (o : ActiveOrder) : State :=
  s.setLane l { s.lanes.get l with order := some o }

/-- Replace one damper record. -/
def State.setDamper (s : State) (d : Fin 8) (x : Damper) : State :=
  { s with drive := { s.drive with dampers := vset s.drive.dampers d x } }

/-- One damper record. -/
def State.damper (s : State) (d : Fin 8) : Damper := s.drive.dampers.get d

/-- Replace one channel record. -/
def State.setChannel (s : State) (c : Fin 16) (x : Channel) : State :=
  { s with scanner := { s.scanner with channels := vset s.scanner.channels c x } }

/-- One channel record. -/
def State.channel (s : State) (c : Fin 16) : Channel := s.scanner.channels.get c

/-- R91: a channel's filtered value, absent while its window is empty. -/
def Channel.filtered (c : Channel) : Option Nat :=
  if c.window.isEmpty then none else some (c.window.foldl (· + ·) 0 / c.window.length)

/-! ### The three sources of part cycles -/

/-- R164: offer a write to the Record Queue; it waits when the queue is full or others wait before it. -/
def Port.offer (p : Port) (e : RecordEntry) : Port :=
  if p.waiting.isEmpty && decide (p.records.length < Config.recordQueueSize) then { p with records := p.records ++ [e] }
  else { p with waiting := p.waiting ++ [e] }

/-- R164: offer a write with its role. -/
def State.offerAs (s : State) (role : EntryRole) (addr : Nat) (data : Word) : State :=
  { s with port := s.port.offer { addr := addr, data := data, role := role } }

/-- R164: offer a plain write. -/
def State.offer (s : State) (addr : Nat) (data : Word) : State := s.offerAs .plain addr data

/-- R165: the Image Set with a write offered: the word's entry takes the data and keeps its place, or a new entry is
placed last. -/
def putImageEntry : List ImageEntry → Nat → Word → List ImageEntry
  | [], a, d => [{ addr := a, data := d }]
  | e :: es, a, d => if e.addr = a then { addr := a, data := d } :: es else e :: putImageEntry es a d

/-- R165: offer a write of an image word at an address. -/
def State.putImage (s : State) (addr : Nat) (data : Word) : State :=
  { s with port := { s.port with images := putImageEntry s.port.images addr data } }

/-- R165: offer a write of word `offset` of the status block (13.7). -/
def State.putStatus (s : State) (offset : Nat) (data : Word) : State := s.putImage (s.lay.statusBase + offset) data

/-- R163: place read requests with the fetch source. -/
def State.placeReads (s : State) (placer : Placer) (addrs : List Nat) : State :=
  { s with port := { s.port with reads := s.port.reads ++ addrs.map (fun a => { addr := a, placer := placer }) } }

/-- Whether some part cycle waits for the memory port (R161). -/
def Port.partWaiting (p : Port) : Bool := !p.reads.isEmpty || !p.records.isEmpty || !p.images.isEmpty

/-! ### Lane memory (R2, 13.3, 13.4) -/

/-- The address of word `offset` of a lane's four control words. -/
def State.laneWord (s : State) (l : LaneId) (offset : Nat) : Nat := s.lay.laneBase + 4 * l.index + offset

/-- The address of word `offset` of a slot of a lane's ring. -/
def State.slotWord (s : State) (l : LaneId) (slot offset : Nat) : Nat := (s.lay.rings.get l).base + 8 * slot + offset

/-- The ring size of a lane. -/
def State.ringSize (s : State) (l : LaneId) : Nat := (s.lay.rings.get l).size

/-! ### The event ring (R174, R175) -/

/-- R177: the kind numbers. -/
def EventKind.number : EventKind → Nat
  | .startDone => 1
  | .trespass => 2
  | .busParity => 3
  | .serviceRefused => 4
  | .laneWriteRefused => 5
  | .orderStarted => 6
  | .orderEnded => 7
  | .laneStopped => 8
  | .channelOpen => 9
  | .channelRestored => 10
  | .thresholdRefused => 11
  | .gradeChanged => 12
  | .holdRaised => 13
  | .holdReleased => 14
  | .doorOpened => 15
  | .doorClosed => 16
  | .buttonShort => 17
  | .purgeStarted => 18
  | .purgeInterrupted => 19
  | .purgeScrub => 20
  | .purgeDone => 21
  | .purgeUnverified => 22
  | .purgeUnresolved => 23
  | .damperJammed => 24
  | .damperHomed => 25
  | .stageDead => 26
  | .tagRollover => 27
  | .overrun => 28
  | .eventConsumerRefused => 29
  | .spotDone => 30

/-- R178, 13.1: whether the signal mask flags a kind: bit n of word 53 for kinds 1 to 15, bit n - 16 of word 54 for
the others. -/
def Layout.signals (L : Layout) (k : EventKind) : Bool :=
  if k.number < 16 then bit L.signalLow k.number else bit L.signalHigh (k.number - 16)

/-- R174: the unread count. -/
def State.unread (s : State) : Nat :=
  (s.events.producer + s.lay.eventSize - s.events.consumer) % s.lay.eventSize

/-- An event as a block gives it to the Event Writer (R177). -/
structure Event where
  kind : EventKind
  qualifier : Nat := 0
  subject : Word
  value : Word
deriving DecidableEq, Repr

/-- R175: append a record at the producer index and advance it. -/
def State.appendRecord (s : State) (e : Event) : State :=
  let p := s.events.producer
  let base := s.lay.eventBase + 2 + 4 * p
  let next := (p + 1) % s.lay.eventSize
  let s := s.offer base (w16 (e.kind.number + 256 * e.qualifier))
  let s := s.offer (base + 1) e.subject
  let s := s.offer (base + 2) s.tagClock
  let s := s.offerAs (.eventValue p (s.lay.signals e.kind)) (base + 3) e.value
  let s := { s with events := { s.events with producer := next } }
  s.offer s.lay.eventBase (w16 next)

/-- R174, R175: give an event to the Event Writer: in RUNNING it is appended, or counted when the ring is full; in the
other part states it is neither written nor counted. -/
def State.emit (s : State) (e : Event) : State :=
  if s.part = .running then
    if s.unread + 1 < s.lay.eventSize then s.appendRecord e
    else { s with events := { s.events with overrun := min (s.events.overrun + 1) 65535 } }
  else s

/-! ### Holds -/

/-- R51: whether a pair stands in the Hold Table. -/
def State.hasHold (s : State) (k : HoldKey) : Bool := s.holds.any (fun r => decide (r.key = k))

/-- Whether any DOOR_OPEN hold stands. -/
def State.doorHold (s : State) : Bool :=
  s.holds.any (fun r => match r.key with | .doorOpen _ => true | _ => false)

/-! ### The lamp (R179) -/

/-- R179: the mode that the part state and the lamp view give. -/
def lampMode (part : PartState) (e : EventWriter) : LampMode :=
  if part = .fault then .fastFlash
  else if 0 < e.jams ∨ e.blowerFail then .slowFlash
  else if e.cabFoul ∨ e.scrub then .steady
  else .off

/-- R179: re-judge the lamp mode; a new mode begins at this moment. -/
def State.relamp (s : State) : State :=
  let m := lampMode s.part s.events
  if m = s.events.lamp then s else { s with events := { s.events with lamp := m, lampSince := s.now } }

/-- Fold a state operation over a list, first to last. -/
def State.each {α : Type} (s : State) (xs : List α) (f : α → State → State) : State := xs.foldl (fun t x => f x t) s

end Sys2Proof.Machine
end

