-- ==== Sys2Proof/Machine/Operands.lean ====
section
/-! DEFINITION. Reading the words that the host writes (chapter 13, R180): the layout block and its tests (R169), an
order slot (R13), a threshold entry (R108). -/

namespace Sys2Proof.Machine

/-- Word `i` of a block of words read. -/
def wordAt (ws : List RamWord) (i : Nat) : Word := (ws.getD i unlisted).data

/-- Word `i`, as a whole number. -/
def numAt (ws : List RamWord) (i : Nat) : Nat := (wordAt ws i).toNat

/-- A field of word `i`: `width` bits from bit `lo`. -/
def fieldAt (ws : List RamWord) (i lo width : Nat) : Nat := field (wordAt ws i) lo width

/-! ### Codes (13.9) -/

def SourceReq.ofCode (n : Nat) : SourceReq :=
  if n = 0 then .recirc else if n = 1 then .freshRoof else if n = 2 then .freshBumper else .freshAny

def FilterReq.ofCode (n : Nat) : FilterReq := if n = 0 then .auto else if n = 1 then .through else .bypass

def OpenWire.ofCode (n : Nat) : OpenWire := if n = 0 then .none else if n = 1 then .precharge else .discharge

/-! ### The layout block (13.1) -/

/-- Scan list position `p`: bits 4k to 4k + 3 of word 16 + w, with p = 4w + k. -/
def scanListAt (ws : List RamWord) (p : Nat) : Fin 16 := Fin.ofNat 16 (fieldAt ws (16 + p / 4) (4 * (p % 4)) 4)

/-- The open-wire method code of channel `c`: bits 2k, 2k + 1 of word 20 + w, with c = 8w + k. -/
def methodCodeAt (ws : List RamWord) (c : Nat) : Nat := fieldAt ws (20 + c / 8) (2 * (c % 8)) 2

/-- The scan list, all sixteen positions. -/
def scanListOf (ws : List RamWord) : Vector (Fin 16) 16 :=
  let p := scanListAt ws
  #v[p 0, p 1, p 2, p 3, p 4, p 5, p 6, p 7, p 8, p 9, p 10, p 11, p 12, p 13, p 14, p 15]

/-- The open-wire methods of the sixteen channels. -/
def methodsOf (ws : List RamWord) : Vector OpenWire 16 :=
  let m := fun c => OpenWire.ofCode (methodCodeAt ws c)
  #v[m 0, m 1, m 2, m 3, m 4, m 5, m 6, m 7, m 8, m 9, m 10, m 11, m 12, m 13, m 14, m 15]

/-- The full travel times of the eight dampers. -/
def travelOf (ws : List RamWord) : Vector Nat 8 :=
  #v[numAt ws 44, numAt ws 45, numAt ws 46, numAt ws 47, numAt ws 48, numAt ws 49, numAt ws 50, numAt ws 51]

/-- 13.1: the settings that the 64 words of the layout block give. -/
def parseLayout (ws : List RamWord) : Layout :=
  { version := numAt ws 0
    memoryUnits := numAt ws 1
    laneBase := numAt ws 2
    rings := ⟨⟨numAt ws 3, numAt ws 4⟩, ⟨numAt ws 5, numAt ws 6⟩, ⟨numAt ws 7, numAt ws 8⟩⟩
    ranks := ⟨fieldAt ws 9 0 2, fieldAt ws 9 2 2, fieldAt ws 9 4 2⟩
    eventBase := numAt ws 10
    eventSize := numAt ws 11
    senseBase := numAt ws 12
    statusBase := numAt ws 13
    thresholdBase := numAt ws 14
    scanLength := fieldAt ws 15 0 5
    scanPeriod := fieldAt ws 15 8 6
    scanList := scanListOf ws
    methods := methodsOf ws
    doorDebounce := fieldAt ws 22 0 8
    buttonDebounce := fieldAt ws 22 8 8
    engineDebounce := fieldAt ws 23 0 12
    longPress := fieldAt ws 23 12 4
    exposureThreshold := fieldAt ws 24 0 9
    preferred := if bit (wordAt ws 24) 15 then .bumper else .roof
    purgeTime := numAt ws 25
    extensionTime := fieldAt ws 26 0 9
    extensionLimit := fieldAt ws 26 12 2
    scrubTime := numAt ws 27
    purgeBlower := fieldAt ws 28 0 7
    curtainBlower := fieldAt ws 28 8 7
    idleBlower := fieldAt ws 29 0 7
    engineOffCap := fieldAt ws 29 8 7
    purgeRelief := fieldAt ws 30 0 7
    reliefStep := fieldAt ws 30 8 5
    dpSetpoint := numAt ws 31
    dpBand := numAt ws 32
    holdDown := numAt ws 33
    defaultSource := .ofCode (fieldAt ws 34 0 2)
    rest := ⟨fieldAt ws 35 0 7, fieldAt ws 35 8 7, fieldAt ws 36 0 7⟩
    minFresh := fieldAt ws 36 8 7
    heatGain := numAt ws 37
    coolantLevel := numAt ws 38
    voltA := numAt ws 39
    voltB := numAt ws 40
    restoreTime := numAt ws 41
    stageInterval := fieldAt ws 42 0 5
    stageStep := fieldAt ws 42 8 8
    motionGrants := numAt ws 43
    travel := travelOf ws
    stallSpeed := numAt ws 52
    signalLow := wordAt ws 53
    signalHigh := wordAt ws 54 }

/-- Whether a count lies in a stated range. -/
def within (lo n hi : Nat) : Bool := decide (lo ≤ n) && decide (n ≤ hi)

/-- A region placed by the layout: its base and its size in words. -/
abbrev Region := Nat × Nat

/-- R169, test 4: the region of an order ring, none where the lane is absent. -/
def Ring.region (r : Ring) : List Region := if r.size = 0 then [] else [(r.base, r.size * 8)]

/-- R169, test 4: the regions tested. -/
def Layout.regions (L : Layout) : List Region :=
  [(L.laneBase, 12)] ++ L.rings.front.region ++ L.rings.crew.region ++ L.rings.screen.region ++
    [(L.eventBase, 2 + L.eventSize * 4), (L.senseBase, 32), (L.statusBase, 96), (L.thresholdBase, 24)]

/-- Two regions that share no word. -/
def apart (a b : Region) : Bool := decide (a.1 + a.2 ≤ b.1) || decide (b.1 + b.2 ≤ a.1)

/-- No two of the regions share a word. -/
def regionsApart : List Region → Bool
  | [] => true
  | r :: rs => rs.all (apart r) && regionsApart rs

/-- R169, test 4. -/
def Layout.regionsOk (L : Layout) : Bool :=
  let ringOk := fun (r : Ring) => r.size == 0 || within 4 r.size 64
  within 4 L.memoryUnits 64 && ringOk L.rings.front && ringOk L.rings.crew && ringOk L.rings.screen &&
    within 8 L.eventSize 256 &&
    L.regions.all (fun r => decide (0x4F < r.1) && decide (r.1 + r.2 ≤ L.memoryUnits * 1024)) && regionsApart L.regions

/-- R169, test 5, but for the codes that the latched layout holds as names: the ranges of 13.1. -/
def Layout.rangesOk (L : Layout) : Bool :=
  within 1 L.scanPeriod 50 && within 10 L.doorDebounce 250 && within 10 L.buttonDebounce 250 &&
    within 100 L.engineDebounce 2000 && within 1 L.longPress 10 && within 5 L.exposureThreshold 300 &&
    within 10 L.purgeTime 600 && within 10 L.extensionTime 300 && within 0 L.extensionLimit 3 &&
    within 10 L.scrubTime 600 && within 0 L.purgeBlower 100 && within 0 L.curtainBlower 100 &&
    within 0 L.idleBlower 100 && within 0 L.engineOffCap 100 && within 0 L.purgeRelief 100 && within 1 L.reliefStep 25 &&
    within 0 L.dpSetpoint 4095 && within 0 L.dpBand 2047 && within 1 L.holdDown 600 && within 0 L.rest.front 100 &&
    within 0 L.rest.crew 100 && within 0 L.rest.screen 100 && within 0 L.minFresh 100 && within 1 L.heatGain 64 &&
    within 0 L.coolantLevel 4095 && within 1 L.voltA 4095 && within 0 L.voltB 4094 && decide (L.voltB < L.voltA) &&
    within 5 L.restoreTime 120 && within 1 L.stageInterval 30 && within 1 L.stageStep 255 && within 1 L.motionGrants 4 &&
    allDampers.all (fun d => within 20 (L.travel.get d) 600) && within 30 L.stallSpeed 300

/-- R169, test 5: the codes of the layout block: open-wire methods, and a default source RECIRC or FRESH_ANY. -/
def layoutCodesOk (ws : List RamWord) : Bool :=
  (List.range 16).all (fun c => decide (methodCodeAt ws c < 3)) && (fieldAt ws 34 0 2 == 0 || fieldAt ws 34 0 2 == 3)

/-- The channels the scan list names, position 0 first: the fields beyond the scan length are ignored (13.1). -/
def Layout.scanned (L : Layout) : List (Fin 16) := L.scanList.toList.take L.scanLength

/-- R169, test 6. (A 4-bit field cannot name a channel above 15.) -/
def Layout.scanListOk (L : Layout) : Bool := within 1 L.scanLength 16 && decide L.scanned.Nodup

/-- R169, test 7: the ranks are 1, 2 and 3 in some order. -/
def Layout.ranksOk (L : Layout) : Bool :=
  [1, 2, 3].all (fun r => L.ranks.front == r || L.ranks.crew == r || L.ranks.screen == r)

/-- R169, test 3: the words' sum modulo 65536. -/
def sumOf (ws : List RamWord) : Word := ws.foldl (fun n w => n + w.data) 0

/-- R169: the first failing test decides the reason; none when the layout passes. -/
def layoutFault (ws : List RamWord) : Option FaultReason :=
  let L := parseLayout ws
  if !ws.all RamWord.parityOk then some .parity
  else if L.version ≠ 1 then some .version
  else if sumOf ws ≠ 0 then some .sum
  else if !L.regionsOk then some .region
  else if !(L.rangesOk && layoutCodesOk ws) then some .range
  else if !L.scanListOk then some .scanList
  else if !L.ranksOk then some .ranks
  else none

/-! ### An order slot (13.4) -/

/-- R14, 13.4: the fields of an order slot. -/
def parseOrder (ws : List RamWord) : OrderFields :=
  let flags := wordAt ws 0
  { source := .ofCode (fieldAt ws 0 0 2)
    filter := .ofCode (fieldAt ws 0 2 2)
    retryLimit := fieldAt ws 0 4 2
    swapInlet := bit flags 8
    checkQuality := bit flags 9
    stopOnFail := bit flags 10
    stopOnHold := bit flags 11
    reportStart := bit flags 12
    reportEnd := bit flags 13
    targetPresent := bit flags 14
    zone := fieldAt ws 1 0 8
    blower := fieldAt ws 1 8 8
    target := numAt ws 2
    tolerance := fieldAt ws 3 0 8
    settleLimit := fieldAt ws 3 8 8
    dwell := numAt ws 4 }

/-- R13: every field in the table's accepted values. (The 2-bit and 8-bit fields bound the source request, the retry
limit and the tolerance.) -/
def orderFieldsOk (ws : List RamWord) : Bool :=
  let f := parseOrder ws
  decide (fieldAt ws 0 2 2 < 3) && within 0 f.zone 100 && within 0 f.blower 100 &&
    (!f.targetPresent || within 0 f.target 4095) && within 1 f.settleLimit 255 && within 1 f.dwell 65535

/-- R13: the code with which an order is rejected, none when it is valid. -/
def orderRejected (ws : List RamWord) : Option Completion :=
  if !ws.all RamWord.parityOk then some .rejectedParity
  else if !orderFieldsOk ws then some .rejectedField
  else none

/-- R13: the stop-on-fail flag of a rejected order: from the flags word as read, and taken as set when that word was
read with bad parity. -/
def rejectedStopOnFail (ws : List RamWord) : Bool :=
  !(ws.getD 0 unlisted).parityOk || (parseOrder ws).stopOnFail

/-! ### A threshold entry (13.8) -/

/-- R108: the five values of an entry copy. -/
def parseEntry (copy : Vector RamWord 4) : Limits :=
  let n := fun (i : Fin 4) => (copy.get i).data.toNat
  { high := n 0, severe := n 1, margin := n 2, raiseCount := field (copy.get 3).data 0 8
    lowerCount := field (copy.get 3).data 8 8 }

/-- R108: the first failing test's reason, none for a consistent entry. -/
def entryFault (copy : Vector RamWord 4) : Option ThresholdReason :=
  let e := parseEntry copy
  if !copy.toList.all RamWord.parityOk then some .parity
  else if 4095 < e.high ∨ 4095 < e.severe ∨ e.severe ≤ e.high then some .limits
  else if e.high ≤ e.margin then some .margin
  else if !(within 1 e.raiseCount 15 && within 1 e.lowerCount 15) then some .counts
  else none

end Sys2Proof.Machine
end

