-- ==== Sys2Proof/Machine/Flags.lean ====
section
/-! DEFINITION. The words that the part writes (chapter 13, R181) packed from its records, and the lines it drives. -/

namespace Sys2Proof.Machine

/-! ### Codes (13.9) -/

def PartState.code : PartState → Nat
  | .reset => 0
  | .loading => 1
  | .running => 2
  | .fault => 3
  | .draining => 4

def FaultReason.code : FaultReason → Nat
  | .parity => 1
  | .version => 2
  | .sum => 3
  | .region => 4
  | .range => 5
  | .scanList => 6
  | .ranks => 7

def LaneState.code : LaneState → Nat
  | .disabled => 0
  | .stopped => 1
  | .idle => 2
  | .fetch => 3
  | .settle => 4
  | .dwell => 5
  | .check => 6

def Completion.code : Completion → Nat
  | .none => 0
  | .inProgress => 1
  | .done => 2
  | .checkFailed => 3
  | .rejectedField => 4
  | .rejectedParity => 5
  | .aborted => 6
  | .holdEnded => 7

def Body.code : Body → Nat
  | .roof => 0
  | .bumper => 1
  | .cab => 2

def Grade.code : Grade → Nat
  | .clean => 0
  | .suspect => 1
  | .foul => 2
  | .blind => 3

def Level.code : Level → Nat
  | .ok => 0
  | .high => 1
  | .severe => 2
  | .blind => 3

def ThresholdReason.code : ThresholdReason → Nat
  | .parity => 1
  | .limits => 2
  | .margin => 3
  | .counts => 4

def HoldCause.code : HoldCause → Nat
  | .start => 1
  | .gradeFoul => 2
  | .gradeBlind => 3
  | .input => 4
  | .doors => 5
  | .cabFoul => 6
  | .button => 7
  | .service => 8
  | .budget => 9
  | .stall => 10
  | .homing => 11
  | .watch => 12

def PurgeCause.code : PurgeCause → Nat
  | .doors => 5
  | .cabFoul => 6
  | .button => 7
  | .service => 8

def PurgeState.code : PurgeState → Nat
  | .idle => 0
  | .waitClose => 1
  | .run => 2
  | .scrub => 3
  | .verify => 4

def Owner.code : Owner → Nat
  | .lane l => l.index
  | .purge => 3
  | .doors => 4
  | .default => 5

def DamperState.code : DamperState → Nat
  | .atRest => 0
  | .waiting => 1
  | .moving => 2
  | .seating => 3
  | .homing => 4
  | .jammed => 5

def StageState.code : StageState → Nat
  | .off => 0
  | .on => 1
  | .dead => 2

def FilterSetting.code : FilterSetting → Nat
  | .bypass => 0
  | .through => 1

/-- R32: the target of damper 3: BYPASS 0, THROUGH 100. -/
def FilterSetting.target : FilterSetting → Nat
  | .bypass => 0
  | .through => 100

/-! ### Packed words -/

/-- 13.3: the lane status word. -/
def Lane.statusWord (l : Lane) : Word :=
  let slot := match l.order with
    | some o => 128 + 256 * o.slot
    | none => 0
  w16 (l.state.code + 8 * flag l.stopPending + slot)

/-- 13.4, word +5: the status word of an order slot. -/
def slotStatusWord (code : Completion) (f : StickyFlags) (retries : Nat) : Word :=
  w16 (code.code + 16 * flag f.slowSettle + 32 * flag f.damperJammed + 64 * flag f.overridden +
    128 * flag f.sourceDenied + 256 * flag f.retried + 512 * flag f.sensorOpen + 4096 * retries)

/-- 13.6: the raw word of a channel. Before the first conversion every flag is clear (R93). -/
def Channel.rawWord (c : Channel) : Word :=
  match c.last with
  | none => 0
  | some (raw, origin) =>
    w16 (raw + 4096 * flag c.isOpen + 8192 * (match origin with | .scan => 1 | .spot => 2) +
      32768 * flag c.window.isEmpty)

/-- 13.6: the filtered word of a channel. -/
def Channel.filteredWord (c : Channel) : Word := w16 (c.filtered.getD 0)

/-- 13.7: a level word. -/
def Grading.levelWord (g : Grading) : Word := w16 (g.level.code + 32768 * flag g.suspended)

/-- 13.7: the denied lanes word. -/
def deniedWord (d : PerLane Bool) : Word := w16 (flag d.front + 2 * flag d.crew + 4 * flag d.screen)

/-- 13.7: the purge state word. -/
def Purge.stateWord (p : Purge) : Word :=
  let cause := match p.cause with
    | some c => c.code
    | none => 0
  let inlet := match p.inlet with
    | some i => i.code + 1
    | none => 0
  let origin := match p.origin with
    | some o => o.code
    | none => 0
  w16 (p.state.code + 16 * cause + 256 * p.extensions + 1024 * inlet + 4096 * origin)

/-- R71: the remaining time in whole seconds, rounded up. -/
def Purge.secondsWord (p : Purge) : Word := w16 ((p.remaining.getD 0 + 9) / 10)

/-- R142: the energised count. -/
def HeatUnit.energised (h : HeatUnit) : Nat := h.stages.toList.countP (fun x => x == .on)

/-- R142: the live count. -/
def HeatUnit.live (h : HeatUnit) : Nat := h.stages.toList.countP (fun x => x != .dead)

/-- 13.7: the heat word. -/
def HeatUnit.word (h : HeatUnit) : Word :=
  w16 (h.allowed + 16 * h.energised + 256 * (h.stages.get 0).code + 1024 * (h.stages.get 1).code +
    4096 * (h.stages.get 2).code + 16384 * (h.stages.get 3).code)

/-- R130: what a damper word reports as the opening: the plan start in MOVING, SEATING and HOMING, else the estimate. -/
def Damper.reported (d : Damper) : Option Nat :=
  match d.plan with
  | some p => p.start
  | none => d.estimate

/-- 13.7: a damper word; 255 for unknown. -/
def Damper.word (d : Damper) : Word := w16 (d.reported.getD 255 + 256 * d.state.code)

/-- 13.9: the hold kind code. -/
def HoldKey.kindCode : HoldKey → Nat
  | .inletBarred _ => 1
  | .cabFoul => 2
  | .doorOpen _ => 3
  | .purge => 4
  | .heatShed => 5
  | .engineOff => 6
  | .damperJam _ => 7
  | .blowerFail => 8

/-- 13.7: the kind-and-subject word of a hold record; the phase stands in the subject part for PURGE. -/
def HoldRecord.word (r : HoldRecord) : Word :=
  let subject := match r.key with
    | .inletBarred i => i.code
    | .doorOpen d => d.index.val
    | .damperJam d => d.val
    | .purge => (r.phase.getD .idle).code
    | _ => 0
  w16 (r.key.kindCode + 256 * subject)

/-! ### Lines and outputs -/

/-- R166: the WAIT line is asserted while a host read is held. -/
def State.waitLine (s : State) : Bool := s.port.held.isSome

/-- R178: the interrupt line: a last-signalled record is present and unread. It is negated in RESET, LOADING and FAULT. -/
def State.interruptLine (s : State) : Bool :=
  match s.events.lastSignalled with
  | none => false
  | some i =>
    (s.part == .running || s.part == .draining) &&
      decide ((i + s.lay.eventSize - s.events.consumer) % s.lay.eventSize < s.unread)

/-- R179: whether the ALERT lamp is lit: a flash mode lights it for half of each period, starting lit. -/
def State.lampLit (s : State) : Bool :=
  let t := s.now - s.events.lampSince
  match s.events.lamp with
  | .off => false
  | .steady => true
  | .slowFlash => decide (t % 1000 < 500)
  | .fastFlash => decide (t % 250 < 125)

/-- R134, R135, R140: the direction in which a damper's drive pair is driven, if it is. -/
def State.driven (s : State) (d : Fin 8) : Option Direction :=
  match (s.damper d).state with
  | .moving | .seating | .homing => (s.damper d).plan.map Plan.direction
  | _ => none

/-- R142, R143: the blower PWM duty: the unit's blower value in RUNNING, 0 in the other part states. -/
def State.blowerDuty (s : State) : Nat := if s.part = .running then s.heat.blower else 0

/-- R142, R147: the coolant valve duty. -/
def State.valveDuty (s : State) : Nat := if s.part = .running then s.heat.valve else 0

/-- R142: whether the output of stage `i` is on. -/
def State.stageOutput (s : State) (i : Fin 4) : Bool := decide (s.part = .running) && (s.heat.stages.get i == .on)

/-- R89: the pull applied to a channel's input: by its open-wire method during the 1 ms of preparation. -/
def State.pull (s : State) (c : Fin 16) : OpenWire :=
  match s.scanner.conversion with
  | some v => if v.channel = c ∧ s.now < v.began + 1 then s.lay.methods.get c else .none
  | none => .none

end Sys2Proof.Machine
end

