-- ==== Sys2Proof/Machine/Spots.lean ====
section
/-! DEFINITION. The scanner's converter and the Spot Queue as other blocks use them: beginning and cancelling a
conversion (R89), the scan's positions (R94 to R96), requests and withdrawals (R97 to R99). -/

namespace Sys2Proof.Machine

/-! ### Requester sets (R97) -/

def RequesterSet.none : RequesterSet := { lanes := ⟨false, false, false⟩, purge := false, heat := false, service := false }

def RequesterSet.has (q : RequesterSet) : Requester → Bool
  | .lane l => q.lanes.get l
  | .purge => q.purge
  | .heat => q.heat
  | .service => q.service

def RequesterSet.put (q : RequesterSet) (r : Requester) (b : Bool) : RequesterSet :=
  match r with
  | .lane l => { q with lanes := q.lanes.set l b }
  | .purge => { q with purge := b }
  | .heat => { q with heat := b }
  | .service => { q with service := b }

def RequesterSet.isEmpty (q : RequesterSet) : Bool :=
  !(q.lanes.front || q.lanes.crew || q.lanes.screen || q.purge || q.heat || q.service)

/-! ### The converter (R89) -/

/-- Replace the scanner record. -/
def State.setScanner (s : State) (x : Scanner) : State := { s with scanner := x }

/-- R94, R95: the scan converts the channel at position `p`. -/
def State.scanAt (s : State) (p : Nat) : State :=
  s.setScanner { s.scanner with
    state := .scanning, position := p, resume := .absent
    conversion := some { channel := s.lay.scanned.getD p 0, began := s.now } }

/-- R96: a pass begins now, at position 0. -/
def State.beginPass (s : State) : State :=
  (s.setScanner { s.scanner with passStart := some s.now, ended := none }).scanAt 0

/-- R96: a pass has ended: the next begins at once, or the scanner waits for the scan period. -/
def State.endPass (s : State) : State :=
  let elapsed := s.now - s.scanner.passStart.getD s.now
  if elapsed < 100 * s.lay.scanPeriod then
    s.setScanner { s.scanner with state := .waiting, position := 0, resume := .absent, conversion := none }
  else s.beginPass

/-- R95, R96: the pass ends after its last scan conversion. A next pass that begins at once notes the end, for a spot
request of the same moment (R99). -/
def State.endScan (s : State) : State :=
  let t := s.endPass
  if t.scanner.state = .scanning then
    t.setScanner { t.scanner with ended := some { moment := s.now, start := s.scanner.passStart } }
  else t

/-- R99, R100: the head of the Spot Queue is converted; its served set is formed from its requester set. -/
def State.serveHead (s : State) : State :=
  match s.scanner.queue with
  | [] => s
  | e :: es =>
    s.setScanner { s.scanner with
      state := .spot, position := 0, queue := { e with served := some e.requesters } :: es
      conversion := some { channel := e.channel, began := s.now } }

/-- R99: the scanner enters SPOT with the given resume point; a scan conversion under way is cancelled. -/
def State.enterSpot (s : State) (r : Resume) : State :=
  (s.setScanner { s.scanner with resume := r, conversion := none }).serveHead

/-! ### Requests and withdrawals -/

/-- R97: the Spot Queue with a request placed. -/
def joinSpot (r : Requester) (c : Fin 16) : List SpotEntry → List SpotEntry
  | [] => [{ channel := c, requesters := RequesterSet.none.put r true, served := none }]
  | e :: es => if e.channel = c then { e with requesters := e.requesters.put r true } :: es else e :: joinSpot r c es

/-- R99: a spot request reaches the scan. The conversion under way is cancelled and the scan resumes at its position;
where the request follows, at the same moment, the completion that ended a pass, the scan resumes at END_OF_PASS with
the pass start of that pass kept. -/
def State.preemptScan (s : State) : State :=
  match s.scanner.ended with
  | some e =>
    if e.moment = s.now then (s.setScanner { s.scanner with passStart := e.start, ended := none }).enterSpot .endOfPass
    else s.enterSpot (.at s.scanner.position)
  | none => s.enterSpot (.at s.scanner.position)

/-- R97, R99: a spot request, taken in RUNNING. Outside SPOT it pre-empts the scanner, except while a completed scan
conversion is being handled: R95 then finds the queue not empty. -/
def State.requestSpot (s : State) (r : Requester) (c : Fin 16) : State :=
  if s.part = .running then
    let s := s.setScanner { s.scanner with queue := joinSpot r c s.scanner.queue }
    match s.scanner.state with
    | .spot => s
    | .scanning => if s.scanner.conversion.isSome then s.preemptScan else s
    | .waiting => s.enterSpot .endOfPass
    | .stopped => s.enterSpot .absent
  else s

/-- R98: one entry after a withdrawal; none when it is not under conversion and no requester is left. -/
def withdrawEntry (r : Requester) (c : Fin 16) (e : SpotEntry) : Option SpotEntry :=
  if e.channel = c then
    let e := { e with requesters := e.requesters.put r false, served := e.served.map (fun q => q.put r false) }
    if e.served.isNone && e.requesters.isEmpty then none else some e
  else some e

/-- R98: a withdrawal of a requester from a channel. -/
def State.withdrawSpot (s : State) (r : Requester) (c : Fin 16) : State :=
  s.setScanner { s.scanner with queue := s.scanner.queue.filterMap (withdrawEntry r c) }

end Sys2Proof.Machine
end

