-- ==== Sys2Proof/Machine/Heat.lean ====
section
/-! DEFINITION. The Blower and Heat Unit (chapter 9) as the Governor and the scanner drive it: the blower watch, the
valve, the stages. What gives notices to the Hold Table stands in Budget.lean. -/

namespace Sys2Proof.Machine

/-- Replace the unit's record. -/
def State.setHeat (s : State) (h : HeatUnit) : State := { s with heat := h }

/-- R153: queue the heat word. -/
def State.putHeatWord (s : State) : State := s.putStatus 23 s.heat.word

/-! ### Blower (R143 to R146) -/

/-- R145: whether the watch's condition holds. -/
def State.watchCondition (s : State) : Bool :=
  decide (20 ≤ s.heat.blower) && decide (s.heat.speed < 10 * s.lay.stallSpeed)

/-- R145: the watch re-judged. -/
def State.rejudgeWatch (s : State) : State :=
  match s.heat.watch, s.watchCondition with
  | .idle, true => s.setHeat { s.heat with watch := .timing (s.now + 5000) }
  | .timing _, false => s.setHeat { s.heat with watch := .idle }
  | _, _ => s

/-- R143: the Governor hands a blower value. -/
def State.handBlower (s : State) (v : Nat) : State := (s.setHeat { s.heat with blower := v }).rejudgeWatch

/-- R144: a new measured speed; a change queues the speed word and re-judges the watch. -/
def State.setSpeed (s : State) (v : Nat) : State :=
  if v = s.heat.speed then s
  else ((s.setHeat { s.heat with speed := v }).putStatus 24 (w16 v)).rejudgeWatch

/-! ### Coolant (R147) -/

/-- R147: whether coolant heat is usable. -/
def State.coolantUsable (s : State) : Bool :=
  match s.heat.coolant with
  | some v => decide (s.lay.coolantLevel ≤ v) && !s.heat.coolantOpen && !s.heat.seesEngineOff
  | none => false

/-! ### Stages (R148 to R150) -/

/-- R148: the wanted stage count for a heat demand. -/
def wantedStages (demand : Nat) (usable : Bool) : Nat :=
  if demand < 25 then 0
  else if usable then min ((demand - 50) / 25) 2
  else min ((demand + 24) / 25) 4

/-- R148: the stage limit. -/
def State.stageLimit (s : State) : Nat :=
  if s.heat.seesShed || s.heat.seesEngineOff || s.heat.seesBlowerFail then 0
  else min (wantedStages s.heat.demand s.coolantUsable) (min s.heat.allowed s.heat.live)

/-- R148: the stages with the highest-numbered ON one switched off. -/
def stageFall (v : Vector StageState 4) : Vector StageState 4 :=
  if v.get 3 = .on then vset v 3 .off
  else if v.get 2 = .on then vset v 2 .off
  else if v.get 1 = .on then vset v 1 .off
  else if v.get 0 = .on then vset v 0 .off
  else v

/-- The first `n` of the falls of R148. -/
def stageFalls : Nat → Vector StageState 4 → Vector StageState 4
  | 0, v => v
  | n + 1, v => stageFalls n (stageFall v)

/-- R149: the lowest-numbered stage that is OFF. -/
def lowestOff (v : Vector StageState 4) : Option (Fin 4) :=
  if v.get 0 = .off then some 0
  else if v.get 1 = .off then some 1
  else if v.get 2 = .off then some 2
  else if v.get 3 = .off then some 3
  else none

/-- R149: energise a stage: switch it ON, start the timer, record the verify, ask for HEATER_AMPS, queue the heat
word. -/
def State.energise (s : State) (i : Fin 4) : State :=
  let s := s.setHeat { s.heat with
    stages := vset s.heat.stages i .on
    stageUpTimer := some (s.now + 1000 * s.lay.stageInterval)
    verify := some { stage := i, baseline := s.heat.lastAmps.getD 0 } }
  (s.requestSpot .heat 15).putHeatWord

/-- R149: the test for a stage-up. -/
def State.testStageUp (s : State) : State :=
  if s.heat.energised < s.stageLimit ∧ s.heat.stageUpTimer = none ∧ s.heat.verify = none then
    match lowestOff s.heat.stages with
    | some i => s.energise i
    | none => s
  else s

/-- R147, R148: a re-judgement: the valve duty, then the stages against the limit. -/
def State.rejudgeHeat (s : State) : State :=
  let s := s.setHeat { s.heat with valve := if s.coolantUsable then s.heat.demand else 0 }
  if s.stageLimit < s.heat.energised then
    (s.setHeat { s.heat with stages := stageFalls (s.heat.energised - s.stageLimit) s.heat.stages }).putHeatWord
  else s.testStageUp

/-- R147: the Governor hands a heat demand. -/
def State.handHeat (s : State) (demand : Nat) : State := (s.setHeat { s.heat with demand := demand }).rejudgeHeat

/-- R147: the Hold Table tells the unit of a raise or release of HEAT_SHED, ENGINE_OFF or BLOWER_FAIL. -/
def State.tellHeat (s : State) (k : HoldKey) (present : Bool) : State :=
  match k with
  | .heatShed => (s.setHeat { s.heat with seesShed := present }).rejudgeHeat
  | .engineOff => (s.setHeat { s.heat with seesEngineOff := present }).rejudgeHeat
  | .blowerFail => (s.setHeat { s.heat with seesBlowerFail := present }).rejudgeHeat
  | _ => s

end Sys2Proof.Machine
end

