-- ==== Sys2Proof/Machine/Governor.lean ====
section
/-! DEFINITION. The Mix Governor's computation of the whole Mix Record from its latest view of its inputs (R28, R31,
R35 to R48). Handing the record on stands in Recompute.lean. -/

namespace Sys2Proof.Machine

/-! ### Lanes as the Governor sees them (R25) -/

/-- Whether a lane's active order is in SETTLE, DWELL or CHECK. -/
def Lane.engaged (l : Lane) : Bool := l.state == .settle || l.state == .dwell || l.state == .check

/-- The latched fields of a lane's active order in SETTLE, DWELL or CHECK. -/
def Lane.inForce (l : Lane) : Option OrderFields :=
  if l.engaged then l.order.bind ActiveOrder.fields else none

/-- R25: the demand of an order. -/
def OrderFields.demand (f : OrderFields) : Demand :=
  { source := some f.source, filter := some f.filter, zone := f.zone, blower := some f.blower
    target := if f.targetPresent then some f.target else none }

/-- R25: the demand a lane presents. -/
def State.demand (s : State) (l : LaneId) : Demand :=
  let x := s.lanes.get l
  match x.inForce with
  | some f => f.demand
  | none => if x.state = .fetch then x.carried else .rest (s.lay.rest.get l)

/-- The orders in force, in the order of the lanes' ranks, rank 1 first (R39). -/
def State.ranked (s : State) : List (LaneId × OrderFields) :=
  [1, 2, 3].flatMap (fun r =>
    allLanes.filterMap (fun l =>
      if s.lay.ranks.get l = r then (s.lanes.get l).inForce.map (fun f => (l, f)) else none))

/-! ### Allowed inlets (R35) -/

/-- The Governor's view of an inlet's damper. -/
def GovernorView.inlet (v : GovernorView) : Inlet → InletView
  | .roof => v.roofDamper
  | .bumper => v.bumperDamper

/-- The Governor's view of an inlet's grade. -/
def GovernorView.inletGrade (v : GovernorView) : Inlet → Grade
  | .roof => v.grades.roof
  | .bumper => v.grades.bumper

/-- R35: whether the Governor counts an inlet as allowed. -/
def State.allowed (s : State) (i : Inlet) : Bool :=
  !s.hasHold (.inletBarred i) && !(s.governor.view.inlet i).jammed && (s.governor.view.inlet i).estimate.isSome

/-- The first inlet if allowed, else the other if allowed. -/
def State.allowedOf (s : State) (first : Inlet) : Option Inlet :=
  if s.allowed first then some first else if s.allowed first.other then some first.other else none

/-! ### Source (R36 to R41) -/

/-- The source that opens an inlet, RECIRC where there is none. -/
def ChosenSource.ofInlet : Option Inlet → ChosenSource
  | some .roof => .freshRoof
  | some .bumper => .freshBumper
  | none => .recirc

/-- R39: the chosen source of a satisfiable request; none when it is not satisfiable. -/
def State.satisfy (s : State) : SourceReq → Option ChosenSource
  | .recirc => some .recirc
  | .freshRoof => if s.allowed .roof then some .freshRoof else none
  | .freshBumper => if s.allowed .bumper then some .freshBumper else none
  | .freshAny => (s.allowedOf s.lay.preferred).map (fun i => .ofInlet (some i))

/-- R36, R37, R43 to R47: the PURGE hold is present with the purge in RUN, SCRUB or VERIFY, in the Governor's view. -/
def State.purging (s : State) : Bool :=
  s.hasHold .purge &&
    (s.governor.view.purge == .run || s.governor.view.purge == .scrub || s.governor.view.purge == .verify)

/-- R36: case 1: the purge in RUN, or in VERIFY having come from RUN. -/
def State.flushing (s : State) : Bool :=
  s.hasHold .purge &&
    (s.governor.view.purge == .run || (s.governor.view.purge == .verify && s.governor.view.purgeOrigin == some .run))

/-- R37: case 2: the purge in SCRUB, or in VERIFY having come from SCRUB. -/
def State.scrubbing (s : State) : Bool :=
  s.hasHold .purge &&
    (s.governor.view.purge == .scrub ||
      (s.governor.view.purge == .verify && s.governor.view.purgeOrigin == some .scrub))

/-- What the source rules settle: the source, its owner, the owner's order in case 4, and whether the blend of R41
may apply (cases 4 and 5). -/
structure SourceChoice where
  source : ChosenSource
  owner : Owner
  order : Option OrderFields
  blends : Bool
deriving DecidableEq, Repr

/-- R39: the first lane in rank whose request is satisfiable. -/
def State.firstSatisfied (s : State) : List (LaneId × OrderFields) → Option SourceChoice
  | [] => none
  | (l, f) :: rest =>
    match s.satisfy f.source with
    | some c => some { source := c, owner := .lane l, order := some f, blends := true }
    | none => s.firstSatisfied rest

/-- R36 to R40: the five cases, the first that applies. -/
def State.sourceChoice (s : State) : SourceChoice :=
  if s.flushing then
    { source := .ofInlet (s.governor.view.purgeInlet.bind s.allowedOf), owner := .purge, order := none, blends := false }
  else if s.scrubbing then { source := .recirc, owner := .purge, order := none, blends := false }
  else if s.doorHold then
    { source := .ofInlet (s.allowedOf s.lay.preferred), owner := .doors, order := none, blends := false }
  else
    match s.firstSatisfied s.ranked with
    | some c => c
    | none =>
      { source := (s.satisfy s.lay.defaultSource).getD .recirc, owner := .default, order := none, blends := true }

/-- R41: the fresh opening of a chosen inlet: 100, or the minimum fresh percent under the blend. -/
def State.freshOpening (s : State) (c : SourceChoice) : Nat :=
  if c.blends && (s.hasHold .heatShed || s.hasHold .engineOff) then s.lay.minFresh else 100

/-- R28, R36 to R41: the ROOF, BUMPER and RECIRC openings. -/
def openings (source : ChosenSource) (fresh : Nat) : Nat × Nat × Nat :=
  match source with
  | .recirc => (0, 0, 100)
  | .freshRoof => (fresh, 0, 100 - fresh)
  | .freshBumper => (0, fresh, 100 - fresh)

/-- R42: whether a request is met by the chosen source. -/
def SourceReq.metBy (r : SourceReq) (c : ChosenSource) : Bool :=
  match r with
  | .recirc => c == .recirc
  | .freshRoof => c == .freshRoof
  | .freshBumper => c == .freshBumper
  | .freshAny => c == .freshRoof || c == .freshBumper

/-- R42: whether a lane is denied. -/
def State.deniedLane (s : State) (c : ChosenSource) (l : LaneId) : Bool :=
  match (s.lanes.get l).inForce with
  | some f => !f.source.metBy c
  | none => false

/-! ### Filter (R43) -/

/-- R43, test 5, for one inlet damper: stuck open or not homed since a clearing. -/
def InletView.mayLeak (v : InletView) : Bool := (v.jammed && (v.estimate.getD 1 != 0)) || v.cleared

/-- R43: the filter setting. -/
def State.nextFilter (s : State) (c : SourceChoice) (roof bumper : Nat) : FilterSetting :=
  let v := s.governor.view
  let fouledOpen := (decide (0 < roof) && v.grades.roof != .clean) || (decide (0 < bumper) && v.grades.bumper != .clean)
  let asked :=
    match c.order with
    | some f =>
      f.filter == .through ||
        (f.filter == .auto && (c.source != .recirc || v.grades.cab == .suspect))
    | none => false
  if s.purging || s.doorHold || s.hasHold .cabFoul || fouledOpen || v.roofDamper.mayLeak || v.bumperDamper.mayLeak || asked
  then .through else .bypass

/-! ### Blower (R44) -/

/-- The orders in force, in lane order. -/
def State.ordersInForce (s : State) : List OrderFields := allLanes.filterMap (fun l => (s.lanes.get l).inForce)

/-- The largest of a list of counts, 0 for none. -/
def largest (xs : List Nat) : Nat := xs.foldl max 0

/-- R44: base, floors, cap. -/
def State.nextBlower (s : State) : Nat :=
  let base := if s.ordersInForce.isEmpty then s.lay.idleBlower else largest (s.ordersInForce.map OrderFields.blower)
  let curtain := if s.doorHold then max base s.lay.curtainBlower else base
  let floor := if s.purging then max curtain s.lay.purgeBlower else curtain
  if s.hasHold .engineOff then min floor s.lay.engineOffCap else floor

/-! ### Relief (R45, R46) -/

/-- R46: one step of the relief against the setpoint and the band. -/
def State.reliefStep (s : State) (present filtered : Nat) : Nat :=
  if s.lay.dpSetpoint + s.lay.dpBand < filtered then min (present + s.lay.reliefStep) 100
  else if filtered + s.lay.dpBand < s.lay.dpSetpoint then present - s.lay.reliefStep
  else present

/-- R45, R46: the relief. `dp` is the new filtered value of CAB_DP at a recompute caused by a conversion of channel 6
that updates it. -/
def State.nextRelief (s : State) (source : ChosenSource) (dp : Option Nat) : Nat :=
  if s.doorHold then 0
  else if s.purging then s.lay.purgeRelief
  else if source = .recirc then 0
  else
    match dp with
    | some f => s.reliefStep s.governor.mix.relief f
    | none => s.governor.mix.relief

/-! ### Zones and heat (R47, R48) -/

/-- R47: the zone opening of a lane. -/
def State.nextZone (s : State) (l : LaneId) : Nat := if s.purging then 100 else (s.demand l).zone

/-- R48: the heat demand of a lane. -/
def State.laneHeat (s : State) (l : LaneId) : Nat :=
  match (s.lanes.get l).inForce with
  | none => 0
  | some f =>
    let ch := s.channel l.channel
    match ch.filtered with
    | none => 0
    | some v => if f.targetPresent && !ch.isOpen then min ((f.target - v) * s.lay.heatGain / 4) 100 else 0

/-- R31: the whole Mix Record, with the chosen source. -/
def State.nextMix (s : State) (dp : Option Nat) : Mix × ChosenSource :=
  let c := s.sourceChoice
  let o := openings c.source (s.freshOpening c)
  ({ roof := o.1
     bumper := o.2.1
     recirc := o.2.2
     filter := s.nextFilter c o.1 o.2.1
     blower := s.nextBlower
     relief := s.nextRelief c.source dp
     zones := ⟨s.nextZone .front, s.nextZone .crew, s.nextZone .screen⟩
     heat := largest (allLanes.map s.laneHeat)
     owner := c.owner
     denied := ⟨s.deniedLane c.source .front, s.deniedLane c.source .crew, s.deniedLane c.source .screen⟩ },
   c.source)

/-- R32: the target that a Mix Record gives a damper. -/
def Mix.target (m : Mix) (d : Fin 8) : Nat :=
  match d with
  | 0 => m.roof
  | 1 => m.bumper
  | 2 => m.recirc
  | 3 => m.filter.target
  | 4 => m.zones.front
  | 5 => m.zones.crew
  | 6 => m.zones.screen
  | 7 => m.relief

/-- 13.7: the Mix Record's words with their offsets in the status block, in ascending address. -/
def Mix.words (m : Mix) : List (Nat × Word) :=
  [(9, w16 m.roof), (10, w16 m.bumper), (11, w16 m.recirc), (12, w16 m.filter.code), (13, w16 m.blower),
   (14, w16 m.relief), (15, w16 m.zones.front), (16, w16 m.zones.crew), (17, w16 m.zones.screen), (18, w16 m.heat),
   (19, w16 m.owner.code), (20, deniedWord m.denied)]

end Sys2Proof.Machine
end

