-- ==== Sys2Proof/Machine/Recompute.lean ====
section
/-! DEFINITION. A recompute of the Mix Governor with all that it brings about (R30 to R33): the damper targets
(R131 to R136), the blower and heat handed on, the denied set, and the lanes whose settle condition the dampers'
changes meet (R17), each of which recomputes in its turn (R26). Every operation takes that nested recompute as the
argument `again`, and the lane whose entry to SETTLE causes the recompute, if one does, as `entering`: R14 and R17
test that lane's condition after the recompute, not within it. A lane passes from SETTLE to DWELL and none enters
SETTLE inside a recompute, so recomputes nest at most three deep: `recomputeAt` takes that depth. -/

namespace Sys2Proof.Machine

/-! ### Lanes told of a damper (R17, R130 step 4) -/

/-- R4: queue a lane's status word. -/
def State.putLaneStatus (s : State) (l : LaneId) : State := s.offer (s.laneWord l 3) (s.lanes.get l).statusWord

/-- R17: the dampers that a lane watches. -/
def watched (l : LaneId) : List (Fin 8) := [l.damper, 0, 1, 2, 3, 7]

/-- R17: whether a damper meets the settle condition. -/
def Damper.settled (d : Damper) : Bool := d.state == .atRest || d.state == .jammed

/-- R17: the settle condition of a lane. -/
def State.settleCondition (s : State) (l : LaneId) : Bool := (watched l).all (fun d => (s.damper d).settled)

/-- R17: whether a watched damper is JAMMED. -/
def State.watchesJam (s : State) (l : LaneId) : Bool := (watched l).any (fun d => (s.damper d).state == .jammed)

/-- R17, R18: SETTLE passes to DWELL. The lane status word is queued before the recompute of R26 (the model's choice,
log 14). -/
def State.leaveSettle (again : State → State) (slow : Bool) (l : LaneId) (s : State) : State :=
  match (s.lanes.get l).order with
  | none => s
  | some o =>
    let o' := { o with
      settleTimer := 0
      dwellTimer := (o.fields.map OrderFields.dwell).getD 0
      flags := { o.flags with
        slowSettle := o.flags.slowSettle || slow, damperJammed := o.flags.damperJammed || s.watchesJam l } }
    again ((s.setLane l { s.lanes.get l with state := .dwell, order := some o' }).putLaneStatus l)

/-- R17, R130: a lane sets DAMPER_JAMMED in its active order where the damper it is told of is JAMMED. -/
def State.noteJam (d : Fin 8) (l : LaneId) (s : State) : State :=
  match (s.lanes.get l).order with
  | some o =>
    if (s.damper d).state = .jammed then s.setOrder l { o with flags := { o.flags with damperJammed := true } } else s
  | none => s

/-- R17: the settle condition of a lane in SETTLE is tested. -/
def State.testSettle (again : State → State) (entering : Option LaneId) (l : LaneId) (s : State) : State :=
  if entering ≠ some l ∧ s.settleCondition l then s.leaveSettle again false l else s

/-- R17: a lane is told of a change of a damper's state. In SETTLE the jam of its own zone damper is noted at once
(R130), that of another watched damper when SETTLE ends. -/
def State.tellLane (again : State → State) (entering : Option LaneId) (d : Fin 8) (l : LaneId) (s : State) : State :=
  if d ∈ watched l then
    match (s.lanes.get l).state with
    | .settle => (if d = l.damper then s.noteJam d l else s).testSettle again entering l
    | .dwell | .check => s.noteJam d l
    | _ => s
  else s

/-- R130, steps 2 and 4, for a change that gives no event and no notice: the damper's word, then the lanes. -/
def State.handOnDamper (again : State → State) (entering : Option LaneId) (d : Fin 8) (s : State) : State :=
  (s.putStatus (25 + d.val) (s.damper d).word).each allLanes (State.tellLane again entering d)

/-! ### Travel (R134, R135) -/

/-- R134: the percent a plan has travelled by now. The target is reached only at the planned end: until that is taken
the last percent is not counted (R137, log 40). -/
def Plan.travelled (p : Plan) (travel now : Nat) : Nat := min ((now - p.began) / travel) (p.distance - 1)

/-- R134: the reckoned estimate of a damper under a plan that started from `start`. -/
def Plan.reckoned (p : Plan) (travel now start : Nat) : Nat :=
  match p.direction with
  | .opening => start + p.travelled travel now
  | .closing => start - p.travelled travel now

/-- R134: the reckoned estimate of a damper now: its estimate when it is not MOVING. -/
def State.reckoned (s : State) (d : Fin 8) : Nat :=
  let x := s.damper d
  match x.state, x.plan with
  | .moving, some p => p.reckoned (s.lay.travel.get d) s.now (p.start.getD 0)
  | _, _ => x.estimate.getD 0

/-- R134: the plan from a known estimate toward a target. One from 100 to 100 is OPENING, as it presses the flap against
its open stop (R135, R136). -/
def State.planFrom (s : State) (d : Fin 8) (start target : Nat) : Plan :=
  let distance := if start < target then target - start else start - target
  { direction := if start < target ∨ target = 100 then .opening else .closing
    start := some start, distance := distance, began := s.now, ends := s.now + distance * s.lay.travel.get d }

/-- R135: whether a target is a stop, which is seated against. -/
def isStop (target : Nat) : Bool := target == 0 || target == 100

/-- R135: the planned end of MOVING: the estimate takes the target; a stop is seated against, any other target is
rested at. The freed grant is given by the caller. -/
def State.reachTarget (again : State → State) (entering : Option LaneId) (d : Fin 8) (p : Plan) (s : State) : State :=
  let x := s.damper d
  let x' :=
    if isStop x.target then
      { x with
        state := .seating, estimate := some x.target, plan := some { p with ends := s.now + 10 * s.lay.travel.get d } }
    else { x with state := .atRest, estimate := some x.target, plan := none }
  (s.setDamper d x').handOnDamper again entering d

/-- R134, R136: the damper moves under a new plan from `start` toward its target; a plan of distance 0 ends at once. -/
def State.moveFrom (again : State → State) (entering : Option LaneId) (d : Fin 8) (start : Nat) (s : State) : State :=
  let x := s.damper d
  let p := s.planFrom d start x.target
  if start = x.target then s.reachTarget again entering d p
  else
    (s.setDamper d { x with state := .moving, estimate := some start, plan := some p }).handOnDamper again entering d

/-! ### The Motion Queue and the grants (R132, R133) -/

/-- R133: a damper that holds a grant. -/
def Damper.granted (d : Damper) : Bool := d.state == .moving || d.state == .seating || d.state == .homing

/-- R133: the grants in use. -/
def State.grantsInUse (s : State) : Nat := s.drive.dampers.toList.countP Damper.granted

/-- R140: a damper enters HOMING. -/
def State.startHoming (again : State → State) (entering : Option LaneId) (d : Fin 8) (s : State) : State :=
  let p : Plan :=
    { direction := .closing, start := none, distance := 0, began := s.now
      ends := s.now + 120 * s.lay.travel.get d }
  (s.setDamper d { s.damper d with state := .homing, plan := some p }).handOnDamper again entering d

/-- R133: one grant to the head of the queue. -/
def State.grantHead (again : State → State) (entering : Option LaneId) (s : State) : State :=
  match s.drive.queue with
  | [] => s
  | e :: rest =>
    let s := { s with drive := { s.drive with queue := rest } }
    if e.homing then s.startHoming again entering e.damper
    else s.moveFrom again entering e.damper ((s.damper e.damper).estimate.getD 0)

/-- R133: grants for as long as the grants in use are below the limit and the queue is not empty; at most `n`. -/
def State.giveGrants (again : State → State) (entering : Option LaneId) : Nat → State → State
  | 0, s => s
  | n + 1, s =>
    if s.grantsInUse < s.lay.motionGrants then giveGrants again entering n (s.grantHead again entering) else s

/-- R133: grants at a freeing or a join: no more than the entries of the queue. -/
def State.grant (again : State → State) (entering : Option LaneId) (s : State) : State :=
  State.giveGrants again entering s.drive.queue.length s

/-- R132: a damper joins the queue at its back as WAITING, and grants are given. -/
def State.joinMotion (again : State → State) (entering : Option LaneId) (d : Fin 8) (s : State) : State :=
  let s := s.setDamper d { s.damper d with state := .waiting, plan := none }
  let s := { s with drive := { s.drive with queue := s.drive.queue ++ [MotionEntry.mk d false] } }
  (s.handOnDamper again entering d).grant again entering

/-- R132: a damper leaves the queue from any place. -/
def State.leaveMotion (s : State) (d : Fin 8) : State :=
  { s with drive := { s.drive with queue := s.drive.queue.filter (fun e => e.damper ≠ d) } }

/-- R136: a damper in motion is re-planned from `start` toward its target. It keeps its grant, but for a plan of distance
0 away from the stops, which brings it to rest and frees the grant (R133, R135). -/
def State.replan (again : State → State) (entering : Option LaneId) (d : Fin 8) (start : Nat) (s : State) : State :=
  let t := s.moveFrom again entering d start
  if start = (s.damper d).target ∧ !isStop start then t.grant again entering else t

/-- R131: a new target for a damper. -/
def State.takeTarget (again : State → State) (entering : Option LaneId) (d : Fin 8) (g : Nat) (s : State) : State :=
  let s := s.setDamper d { s.damper d with target := g }
  let x := s.damper d
  match x.state, x.estimate with
  | .atRest, some e => if e = g then s else s.joinMotion again entering d
  | .waiting, some e =>
    if e = g then ((s.leaveMotion d).setDamper d { x with state := .atRest }).handOnDamper again entering d else s
  | .moving, _ => s.replan again entering d (s.reckoned d)
  | .seating, some e => s.replan again entering d e
  | _, _ => s

/-! ### The recompute (R30 to R33) -/

/-- R33: queue the Mix Record's words that have changed. -/
def State.putMixWords (s : State) (old new : Mix) : State :=
  s.each (old.words.zip new.words) (fun w t => if w.1.2 = w.2.2 then t else t.putStatus w.2.1 w.2.2)

/-- R26: a lane listed in the denied set sets SOURCE_DENIED in its active order. -/
def State.tellDenied (m : Mix) (l : LaneId) (s : State) : State :=
  if m.denied.get l then
    match (s.lanes.get l).order with
    | some o => s.setOrder l { o with flags := { o.flags with sourceDenied := true } }
    | none => s
  else s

/-- R32: hand a damper its target, if it has changed or at the entry to RUNNING. -/
def State.handTarget (again : State → State) (entering : Option LaneId) (atEntry : Bool) (old new : Mix) (d : Fin 8)
    (s : State) : State :=
  if atEntry || new.target d != old.target d then s.takeTarget again entering d (new.target d) else s

/-- R31 to R33: one recompute, its record computed from the Governor's latest view. `atEntry`: the recompute made at the
entry to RUNNING, which hands every target and the blower value (R32, R143). -/
def State.recomputeOnce (again : State → State) (entering : Option LaneId) (atEntry : Bool) (dp : Option Nat)
    (s : State) : State :=
  let old := s.governor.mix
  let new := s.nextMix dp
  let s := { s with governor := { s.governor with mix := new.1, chosen := new.2 } }
  let s := s.putMixWords old new.1
  let s := s.each allDampers (State.handTarget again entering atEntry old new.1)
  let s := if atEntry || new.1.blower != old.blower then s.handBlower new.1.blower else s
  let s := s.handHeat new.1.heat
  s.each allLanes (State.tellDenied new.1)

/-- A recompute inside which recomputes nest at most `n` deep. -/
def State.recomputeAt (entering : Option LaneId) : Nat → Bool → Option Nat → State → State
  | 0, atEntry, dp, s => s.recomputeOnce id entering atEntry dp
  | n + 1, atEntry, dp, s => s.recomputeOnce (State.recomputeAt entering n false none) entering atEntry dp

/-- R30, R34: a recompute, in RUNNING alone. `entering`: the lane whose entry to SETTLE causes it. -/
def State.recomputeFor (entering : Option LaneId) (s : State) : State :=
  if s.part = .running then State.recomputeAt entering 3 false none s else s

/-- R30: a recompute. -/
def State.recompute (s : State) : State := s.recomputeFor none

/-- R30, R46: the recompute that a conversion causes; `dp` is the new filtered value of CAB_DP where the conversion is
of channel 6 and updates it. -/
def State.recomputeConversion (s : State) (dp : Option Nat) : State :=
  if s.part = .running then State.recomputeAt none 3 false dp s else s

/-- R30, R32, R49: the recompute of the entry to RUNNING. -/
def State.recomputeEntry (s : State) : State := if s.part = .running then State.recomputeAt none 3 true none s else s

end Sys2Proof.Machine
end

