-- ==== Sys2Proof/Machine/Classes.lean ====
section
/-! DEFINITION. The Air Grader's classes of a reading (R112) and its reading of graded channels. -/

namespace Sys2Proof.Machine

/-- R112: the high class of a reading. -/
def Limits.highClass (m : Limits) (r : Nat) : Level :=
  if m.severe ≤ r then .severe else if m.high ≤ r then .high else .ok

/-- R112: the low class of a reading. -/
def Limits.lowClass (m : Limits) (r : Nat) : Level :=
  if m.severe - m.margin ≤ r then .severe else if m.high - m.margin ≤ r then .high else .ok

/-- R106: the order of the levels OK, HIGH, SEVERE. -/
def Level.rank : Level → Nat
  | .ok => 0
  | .high => 1
  | .severe => 2
  | .blind => 3

/-- R106: the graded channel of a channel number, for channels 0 to 5. -/
def graded (c : Fin 16) : Option (Fin 6) := if h : c.val < 6 then some ⟨c.val, h⟩ else none

/-- R106: the body of a graded channel. -/
def bodyOf (c : Fin 6) : Body := if c.val < 2 then .roof else if c.val < 4 then .bumper else .cab

/-- R106: the channels of a body. -/
def bodyChannels : Body → Fin 6 × Fin 6
  | .roof => (0, 1)
  | .bumper => (2, 3)
  | .cab => (4, 5)

/-- One grading record. -/
def State.grading (s : State) (c : Fin 6) : Grading := s.grader.channels.get c

/-- R112: the high class that the Grader gives a spot result of a channel: against the limits latched when the requester
judges, SEVERE for a channel with none. -/
def State.spotClass (s : State) (c : Fin 16) (r : Nat) : Level :=
  match graded c with
  | some g =>
    match (s.grading g).limits with
    | some m => m.highClass r
    | none => .severe
  | none => .ok

end Sys2Proof.Machine
end

