-- ==== Sys2Proof/Machine/Lanes.lean ====
section
/-! DEFINITION. The Order Lanes (chapter 1): fetch, validation, start, settle, dwell, check, retry, end, the lane
commands, and what holds and the host do to an order. -/

namespace Sys2Proof.Machine

/-! ### Changes of lane state (R4, R11, R22, R23) -/

/-- An active order as its fetch begins (R11). -/
def ActiveOrder.fresh (slot : Nat) : ActiveOrder :=
  { slot := slot, words := [], fields := none, retries := 0
    flags := { slowSettle := false, damperJammed := false, overridden := false, sourceDenied := false, retried := false
               sensorOpen := false }
    settleTimer := 0, dwellTimer := 0, abortPending := false, awaited := [], results := [] }

/-- R11: the addresses of a slot's eight words. -/
def State.slotWords (s : State) (l : LaneId) (slot : Nat) : List Nat := (List.range 8).map (s.slotWord l slot)

/-- R11: the lane begins the fetch of the slot at its consumer index. The lane status word is queued before the recompute of
R26 (the model's choice, log 14). -/
def State.beginFetch (l : LaneId) (s : State) : State :=
  let x := s.lanes.get l
  let s := s.setLane l { x with state := .fetch, order := some (.fresh x.consumer) }
  let s := { s with port := { s.port with guards := s.port.guards ++ [(l, x.consumer)] } }
  ((s.putLaneStatus l).placeReads (.lane l) (s.slotWords l x.consumer)).recompute

/-- R23: the lane enters IDLE with rest demand (R25). The lane status word is queued before the recompute of R26 (the model's
choice, log 14). -/
def State.goIdle (l : LaneId) (s : State) : State :=
  let s := s.setLane l { s.lanes.get l with state := .idle, order := none, carried := .rest (s.lay.rest.get l) }
  (s.putLaneStatus l).recompute

/-- R23: the lane enters STOPPED from another state: rest demand, no stop-pending mark, LANE_STOPPED with the completion
code, or none. That the lane status word comes first, then LANE_STOPPED and then the recompute of R26 is the model's choice
(log 14). -/
def State.goStopped (l : LaneId) (code : Completion) (s : State) : State :=
  let s := s.setLane l { s.lanes.get l with
    state := .stopped, stopPending := false, order := none, carried := .rest (s.lay.rest.get l) }
  ((s.putLaneStatus l).emit
    { kind := .laneStopped, subject := w16 l.index, value := w16 code.code }).recompute

/-- R7, R23: FETCH if the consumer index differs from the producer mirror, else IDLE. -/
def State.fetchOrIdle (l : LaneId) (s : State) : State :=
  if (s.lanes.get l).consumer ≠ (s.lanes.get l).mirror then s.beginFetch l else s.goIdle l

/-- R23: whether an order end sends the lane to STOPPED. -/
def stopsAfter (stopPending stopOnFail : Bool) (code : Completion) : Bool :=
  stopPending ||
    match code with
    | .aborted | .holdEnded => true
    | .checkFailed | .rejectedField | .rejectedParity => stopOnFail
    | _ => false

/-- R13.4: the lane and slot of an order event. -/
def laneSlotWord (l : LaneId) (slot : Nat) : Word := w16 (l.index + 256 * slot)

/-- R22, steps 2 and 3: the end record and the consumer word are queued. -/
def State.queueEnd (l : LaneId) (o : ActiveOrder) (code : Completion) (s : State) : State :=
  let s := s.offer (s.slotWord l o.slot 5) (slotStatusWord code o.flags o.retries)
  let s := s.offerAs (.endTag l o.slot) (s.slotWord l o.slot 7) s.tagClock
  let next := ((s.lanes.get l).consumer + 1) % s.ringSize l
  let s := s.setLane l { s.lanes.get l with consumer := next }
  s.offer (s.laneWord l 2) (w16 next)

/-- R22, R23: an order ends with a code; `stopOnFail` is the flag as taken. -/
def State.endOrder (l : LaneId) (code : Completion) (stopOnFail : Bool) (s : State) : State :=
  match (s.lanes.get l).order with
  | none => s
  | some o =>
    let s := s.queueEnd l o code
    let report := (o.fields.map OrderFields.reportEnd).getD false || code != .done
    let s :=
      if report then s.emit { kind := .orderEnded, subject := laneSlotWord l o.slot, value := w16 code.code } else s
    if stopsAfter (s.lanes.get l).stopPending stopOnFail code then s.goStopped l code else s.fetchOrIdle l

/-- R9, R16: the lane withdraws its requester from every spot whose result it still awaits. -/
def State.withdrawLane (l : LaneId) (s : State) : State :=
  match (s.lanes.get l).order with
  | none => s
  | some o => s.each o.awaited (fun c t => t.withdrawSpot (.lane l) c)

/-- R9, R16: an order in SETTLE, DWELL or CHECK is cut short. -/
def State.cutOrder (l : LaneId) (code : Completion) (s : State) : State :=
  (s.withdrawLane l).endOrder l code false

/-! ### Settle (R14, R17, R21) -/

/-- R14, R17, R21: the lane enters SETTLE with a fresh settle timer; the Governor recomputes, and then the settle
condition is tested. The lane status word is queued before the recompute of R26 (the model's choice, log 14). -/
def State.enterSettle (l : LaneId) (s : State) : State :=
  match (s.lanes.get l).order with
  | none => s
  | some o =>
    let o' := { o with
      settleTimer := 10 * (o.fields.map OrderFields.settleLimit).getD 0, dwellTimer := 0, awaited := [], results := [] }
    let s := (s.setLane l { s.lanes.get l with state := .settle, order := some o' }).putLaneStatus l
    let s := s.recomputeFor (some l)
    if (s.lanes.get l).state = .settle ∧ s.settleCondition l then s.leaveSettle State.recompute false l else s

/-! ### Holds and the order (R15, R16) -/

/-- R15: whether a hold affects a lane's zone; `target`: its active order has temperature-target-present set. -/
def HoldKey.affects (k : HoldKey) (l : LaneId) (target : Bool) : Bool :=
  match k with
  | .purge => true
  | .doorOpen d =>
    match d with
    | .fl | .fr => l == .front
    | .cl | .cr | .hatch => l == .crew
  | .damperJam d => d == l.damper
  | .heatShed | .engineOff => target
  | _ => false

/-- R15, R16: a raise is offered to a lane. -/
def State.offerHold (k : HoldKey) (l : LaneId) (s : State) : State :=
  let x := s.lanes.get l
  match x.inForce, x.order with
  | some f, some o =>
    if k.affects l f.targetPresent then
      if f.stopOnHold then s.cutOrder l .holdEnded
      else s.setOrder l { o with flags := { o.flags with overridden := true } }
    else s
  | _, _ => s

/-! ### Start (R13, R14) -/

/-- R14: a valid order starts. -/
def State.startOrder (l : LaneId) (f : OrderFields) (s : State) : State :=
  match (s.lanes.get l).order with
  | none => s
  | some o =>
    let overridden := s.holds.any (fun r => r.key.affects l f.targetPresent)
    let o' := { o with fields := some f, flags := { o.flags with overridden := overridden } }
    let s := s.offer (s.slotWord l o.slot 5) (slotStatusWord .inProgress o'.flags 0)
    let s := s.offer (s.slotWord l o.slot 6) s.tagClock
    let s :=
      if f.reportStart then s.emit { kind := .orderStarted, subject := laneSlotWord l o.slot, value := 0 } else s
    (s.setLane l { s.lanes.get l with order := some o', carried := f.demand }).enterSettle l

/-- R9, R13: the fetch of a lane's order completes. -/
def State.completeFetch (l : LaneId) (o : ActiveOrder) (s : State) : State :=
  if o.abortPending then s.endOrder l .aborted false
  else
    match orderRejected o.words with
    | some code => s.endOrder l code (rejectedStopOnFail o.words)
    | none => s.startOrder l (parseOrder o.words)

/-- R13: whether a lane's eight fetch reads have returned. -/
def Lane.fetchReturned (x : Lane) : Bool :=
  x.state == .fetch && (match x.order with | some o => decide (8 ≤ o.words.length) | none => false)

/-- R12, R13: a lane whose eight fetch reads have returned completes its fetch. -/
def State.finishFetch (l : LaneId) (s : State) : State :=
  match (s.lanes.get l).order with
  | some o => if s.part = .running ∧ (s.lanes.get l).fetchReturned then s.completeFetch l o else s
  | none => s

/-- ORDER_FETCH_COMPLETE (R12, R13). -/
def execOrderFetchComplete (l : LaneId) (s : State) : Host.Outcome State Fault Refusal := .next (s.finishFetch l)

/-! ### Settle and dwell timers (R17, R18) -/

/-- R17: whether a lane's settle timer has reached 0. -/
def Lane.settleDue (x : Lane) : Bool :=
  x.state == .settle && (match x.order with | some o => o.settleTimer == 0 | none => false)

/-- SETTLE_TIMER_EXPIRY (R17). -/
def execSettleTimerExpiry (l : LaneId) (s : State) : Host.Outcome State Fault Refusal :=
  .next (if s.part = .running ∧ (s.lanes.get l).settleDue then s.leaveSettle State.recompute true l else s)

/-- R18: whether a lane's dwell timer has reached 0. -/
def Lane.dwellDue (x : Lane) : Bool :=
  x.state == .dwell && (match x.order with | some o => o.dwellTimer == 0 | none => false)

/-- R18, R19: the channels a check asks for: none where no check applies. -/
def checkChannels (l : LaneId) (f : OrderFields) : List (Fin 16) :=
  (if f.targetPresent && decide (0 < f.tolerance) then [l.channel] else []) ++ (if f.checkQuality then [4, 5] else [])

/-- R19: the lane enters CHECK and asks for its spots. -/
def State.enterCheck (l : LaneId) (o : ActiveOrder) (channels : List (Fin 16)) (s : State) : State :=
  let s := s.setLane l { s.lanes.get l with
    state := .check, order := some { o with awaited := channels, results := [], dwellTimer := 0 } }
  ((s.putLaneStatus l).recompute).each channels (fun c t => t.requestSpot (.lane l) c)

/-- R18: the dwell timer expires. -/
def State.dwellExpires (l : LaneId) (s : State) : State :=
  match (s.lanes.get l).order with
  | none => s
  | some o =>
    match o.fields with
    | none => s
    | some f =>
      if (checkChannels l f).isEmpty then s.endOrder l .done f.stopOnFail else s.enterCheck l o (checkChannels l f)

/-- DWELL_TIMER_EXPIRY (R18). -/
def execDwellTimerExpiry (l : LaneId) (s : State) : Host.Outcome State Fault Refusal :=
  .next (if s.part = .running ∧ (s.lanes.get l).dwellDue then s.dwellExpires l else s)

/-! ### Check and retry (R20, R21) -/

/-- R20: the absolute difference of two counts. -/
def difference (a b : Nat) : Nat := (a - b) + (b - a)

/-- R20: whether one result passes its test. -/
def State.passes (l : LaneId) (f : OrderFields) (r : SpotResult) (s : State) : Bool :=
  if r.channel = l.channel then decide (difference r.value f.target ≤ f.tolerance)
  else s.spotClass r.channel r.value == .ok

/-- R21: the exchange of the source request on retry. -/
def SourceReq.swapped : SourceReq → SourceReq
  | .freshRoof => .freshBumper
  | .freshBumper => .freshRoof
  | r => r

/-- R21: swap-inlet-on-retry exchanges the latched request, and the Governor recomputes. -/
def State.swapOnRetry (l : LaneId) (o : ActiveOrder) (f : OrderFields) (s : State) : State :=
  if f.swapInlet ∧ f.source.swapped ≠ f.source then
    let f' := { f with source := f.source.swapped }
    (s.setLane l { s.lanes.get l with order := some { o with fields := some f' }, carried := f'.demand }).recompute
  else s.setOrder l o

/-- R21: a retry. -/
def State.retry (l : LaneId) (o : ActiveOrder) (f : OrderFields) (s : State) : State :=
  let s := s.swapOnRetry l { o with retries := o.retries + 1, flags := { o.flags with retried := true } } f
  match (s.lanes.get l).order with
  | none => s
  | some o' => (s.offer (s.slotWord l o'.slot 5) (slotStatusWord .inProgress o'.flags o'.retries)).enterSettle l

/-- R20: the check is judged. -/
def State.judgeCheck (l : LaneId) (o : ActiveOrder) (f : OrderFields) (s : State) : State :=
  if o.results.any SpotResult.isOpen then
    (s.setOrder l { o with flags := { o.flags with sensorOpen := true } }).endOrder l .checkFailed f.stopOnFail
  else if o.results.all (fun r => s.passes l f r) then s.endOrder l .done f.stopOnFail
  else if o.retries < f.retryLimit then s.retry l o f
  else s.endOrder l .checkFailed f.stopOnFail

/-- R19, R20: a spot result is delivered to a lane. -/
def State.deliverLane (l : LaneId) (r : SpotResult) (s : State) : State :=
  match (s.lanes.get l).order with
  | none => s
  | some o =>
    if (s.lanes.get l).state = .check ∧ r.channel ∈ o.awaited then
      let o := { o with awaited := o.awaited.filter (fun c => c ≠ r.channel), results := o.results ++ [r] }
      let s := s.setOrder l o
      match o.fields with
      | some f => if o.awaited.isEmpty then s.judgeCheck l o f else s
      | none => s
    else s

/-! ### Lane commands (R6 to R10) -/

/-- R7: START; none when refused. -/
def State.commandStart (l : LaneId) (s : State) : Option State :=
  match (s.lanes.get l).state with
  | .stopped => some (s.fetchOrIdle l)
  | _ => none

/-- R8: the stop-pending mark is set; a change is written to the lane status word. -/
def State.markStop (l : LaneId) (s : State) : State :=
  let x := s.lanes.get l
  let aborting := match x.order with
    | some o => o.abortPending
    | none => false
  if x.stopPending || aborting then s else (s.setLane l { x with stopPending := true }).putLaneStatus l

/-- R8: STOP_AFTER; none when refused. -/
def State.commandStopAfter (l : LaneId) (s : State) : Option State :=
  match (s.lanes.get l).state with
  | .disabled => none
  | .stopped => some s
  | .idle => some (s.goStopped l .none)
  | .fetch | .settle | .dwell | .check => some (s.markStop l)

/-- R9: ABORT; none when refused. -/
def State.commandAbort (l : LaneId) (s : State) : Option State :=
  match (s.lanes.get l).state with
  | .disabled => none
  | .stopped => some s
  | .idle => some (s.goStopped l .none)
  | .fetch =>
    match (s.lanes.get l).order with
    | some o => some (s.setOrder l { o with abortPending := true })
    | none => some s
  | .settle | .dwell | .check => some (s.cutOrder l .aborted)

/-- R10: FLUSH; none when refused. -/
def State.commandFlush (l : LaneId) (s : State) : Option State :=
  match (s.lanes.get l).state with
  | .stopped =>
    let x := s.lanes.get l
    if x.consumer = x.mirror then some s
    else some ((s.setLane l { x with consumer := x.mirror }).offer (s.laneWord l 2) (w16 x.mirror))
  | _ => none

/-- R6: the four lane commands by code; none when refused. -/
def State.laneCommand (l : LaneId) (code : Nat) (s : State) : Option State :=
  match code with
  | 1 => s.commandStart l
  | 2 => s.commandStopAfter l
  | 3 => s.commandAbort l
  | 4 => s.commandFlush l
  | _ => none

/-! ### The producer word (R5) -/

/-- R5: whether a producer write is accepted. -/
def State.producerAccepted (l : LaneId) (v : Nat) (s : State) : Bool :=
  decide (v < s.ringSize l) &&
    (match (s.lanes.get l).order with | some o => decide (v ≠ o.slot) | none => true)

/-- R5: an accepted producer value. -/
def State.takeProducer (l : LaneId) (v : Nat) (s : State) : State :=
  let s := s.setLane l { s.lanes.get l with mirror := v }
  if (s.lanes.get l).state = .idle ∧ v ≠ (s.lanes.get l).consumer then s.beginFetch l else s

end Sys2Proof.Machine
end

