-- ==== Sys2Proof/Machine/Holds.lean ====
section
/-! DEFINITION. The Hold Table's set of records, its image, its events and what each change gives the Governor and the
lanes (R51 to R56, R67 to R69). What a change gives the further blocks stands in Notices.lean. -/

namespace Sys2Proof.Machine

/-- R67: queue the two words of hold image entry `j`; both 0 where no record stands. -/
def State.putHoldEntry (j : Nat) (r : Option HoldRecord) (s : State) : State :=
  (s.putStatus (34 + 2 * j) ((r.map HoldRecord.word).getD 0)).putStatus (35 + 2 * j) ((r.map HoldRecord.raised).getD 0)

/-- R67: queue the hold count. -/
def State.putHoldCount (s : State) : State := s.putStatus 33 (w16 s.holds.length)

/-- R51: the position of a pair. -/
def holdIndex (k : HoldKey) (rs : List HoldRecord) : Nat := rs.findIdx (fun r => decide (r.key = k))

/-- R54, R56 steps 1 to 5: the record of an absent pair is created and the change proceeds to the lanes. -/
def State.createHold (k : HoldKey) (cause : HoldCause) (phase : Option PurgeState) (s : State) : State :=
  let r : HoldRecord := { key := k, cause := cause, raised := s.tagClock, notBefore := none, phase := phase }
  let n := s.holds.length
  let s := { s with holds := s.holds ++ [r] }
  let s := s.putHoldCount.putHoldEntry n (some r)
  let s := s.emit { kind := .holdRaised, subject := r.word, value := w16 cause.code }
  s.recompute.each allLanes (State.offerHold k)

/-- R68: queue the image writes of a release at position `k` that has left the records `rs`, in ascending address
(R165): the hold count first. -/
def State.closeGap (k : Nat) (rs : List HoldRecord) (s : State) : State :=
  s.putHoldCount.each (List.range' k (rs.length + 1 - k)) (fun j t => t.putHoldEntry j rs[j]?)

/-- R55, R56 steps 1 to 5: the record of a present pair is removed. A release is offered to the lanes, which it leaves
as they stand (R15). -/
def State.removeHold (r : HoldRecord) (s : State) : State :=
  let k := holdIndex r.key s.holds
  let rs := s.holds.eraseIdx k
  let s := { s with holds := rs }
  let s := s.closeGap k rs
  let s := s.emit { kind := .holdReleased, subject := r.word, value := s.tagClock - r.raised }
  s.recompute

/-- The record of a pair, if it stands. -/
def State.holdRecord (s : State) (k : HoldKey) : Option HoldRecord := s.holds.find? (fun r => decide (r.key = k))

/-- Replace the record of a pair in its place. -/
def State.editHold (k : HoldKey) (f : HoldRecord → HoldRecord) (s : State) : State :=
  { s with holds := s.holds.map (fun r => if r.key = k then f r else r) }

/-- R61, R67: a phase change of PURGE: the record's phase and its first image word. -/
def State.changePhase (phase : PurgeState) (s : State) : State :=
  let s := s.editHold .purge (fun r => { r with phase := some phase })
  match s.holdRecord .purge with
  | some r => s.putStatus (34 + 2 * holdIndex .purge s.holds) r.word
  | none => s

/-- R56, step 6, R179: the lamp view follows a raise or a release. -/
def State.tellLamp (k : HoldKey) (present : Bool) (s : State) : State :=
  match k with
  | .damperJam _ =>
    ({ s with events := { s.events with jams := if present then s.events.jams + 1 else s.events.jams - 1 } }).relamp
  | .blowerFail => ({ s with events := { s.events with blowerFail := present } }).relamp
  | .cabFoul => ({ s with events := { s.events with cabFoul := present } }).relamp
  | _ => s

end Sys2Proof.Machine
end

