-- ==== Sys2Proof/Machine/Purge.lean ====
section
/-! DEFINITION. The Purge Controller (chapter 4). -/

namespace Sys2Proof.Machine

/-- Replace the purge record. -/
def State.setPurge (p : Purge) (s : State) : State := { s with purge := p }

/-- The cause of the PURGE hold that a purge's cause gives (R61). -/
def PurgeCause.hold : PurgeCause → HoldCause
  | .doors => .doors
  | .cabFoul => .cabFoul
  | .button => .button
  | .service => .service

/-! ### Inlets (R73) -/

/-- R73: whether the controller counts an inlet as allowed. Its notices bring it the very facts that the Hold Table and
the damper records hold. -/
def State.purgeAllows (s : State) (i : Inlet) : Bool :=
  !s.hasHold (.inletBarred i) && (s.damper i.damper).state != .jammed && (s.damper i.damper).estimate.isSome

/-- R73: the inlet picked on entry to RUN, preferred first; none for SCRUB. -/
def State.purgePick (s : State) : Option Inlet :=
  if s.purgeAllows s.lay.preferred then some s.lay.preferred
  else if s.purgeAllows s.lay.preferred.other then some s.lay.preferred.other
  else none

/-- R73: a record that enters RUN or SCRUB as allowed, with the given times in seconds. -/
def State.flow (s : State) (run scrub : Nat) (p : Purge) : Purge :=
  match s.purgePick with
  | some i =>
    { p with state := .run, inlet := some i, remaining := some (10 * run), origin := none, awaited := [], results := [] }
  | none =>
    { p with
      state := .scrub, inlet := none, remaining := some (10 * scrub), origin := none, awaited := [], results := [] }

/-- R70: RUN or SCRUB as allowed, with the full time. -/
def State.fullFlow (s : State) (p : Purge) : Purge := s.flow s.lay.purgeTime s.lay.scrubTime p

/-! ### Handing on (R71, R75) -/

/-- R71: queue the purge words that have changed. -/
def State.putPurgeWords (old : Purge) (s : State) : State :=
  let s := if s.purge.stateWord = old.stateWord then s else s.putStatus 21 s.purge.stateWord
  if s.purge.secondsWord = old.secondsWord then s else s.putStatus 22 s.purge.secondsWord

/-- R75, step 5: the Governor is told and recomputes. -/
def State.tellGovernorPurge (s : State) : State :=
  ({ s with governor := { s.governor with view := { s.governor.view with
      purge := s.purge.state, purgeInlet := s.purge.inlet, purgeOrigin := s.purge.origin } } }).recompute

/-- R75, step 2: the spots withdrawn on leaving VERIFY and requested on entering it (R83). -/
def State.purgeSpots (old new : Purge) (s : State) : State :=
  let s := if old.state = .verify then s.each old.awaited (fun c t => t.withdrawSpot .purge c) else s
  if new.state = .verify then s.each new.awaited (fun c t => t.requestSpot .purge c) else s

/-- R75, step 4, R61: the notice to the Hold Table. -/
def State.purgeHold (old new : Purge) (s : State) : State :=
  if old.state = .idle then
    if s.hasHold .purge then s
    else s.createHold .purge ((new.cause.map PurgeCause.hold).getD .service) (some new.state)
  else if new.state = .idle then
    match s.holdRecord .purge with
    | some r => s.removeHold r
    | none => s
  else s.changePhase new.state

/-- R75, step 7: entering or leaving SCRUB is told to the Event Writer. -/
def State.purgeLamp (old new : Purge) (s : State) : State :=
  if (old.state == PurgeState.scrub) != (new.state == PurgeState.scrub) then
    ({ s with events := { s.events with scrub := new.state == PurgeState.scrub } }).relamp
  else s

/-- R75: a change of the purge state is handed on. -/
def State.purgeGo (new : Purge) (event : Option Event) (s : State) : State :=
  let old := s.purge
  let s := (s.setPurge new).purgeSpots old new
  let s := match event with
    | some e => s.emit e
    | none => s
  ((s.purgeHold old new).tellGovernorPurge.putPurgeWords old).purgeLamp old new

/-- R75: a change of the record without a change of state or of chosen inlet: step 6 alone. -/
def State.purgeKeep (new : Purge) (s : State) : State :=
  let old := s.purge
  (s.setPurge new).putPurgeWords old

/-- R85: a purge event of a record, with its value. -/
def Purge.event (p : Purge) (kind : EventKind) (value : Word) : Event :=
  { kind := kind, subject := w16 ((p.cause.map PurgeCause.code).getD 0), value := value }

/-- R85: the PURGE_SCRUB that accompanies an entry to SCRUB. -/
def Purge.scrubEvent (p : Purge) : Option Event :=
  if p.state = .scrub then some (p.event .purgeScrub (w16 p.extensions)) else none

/-! ### Triggers (R74, R76, R77) -/

/-- A trigger is taken. -/
def State.purgeTrigger (c : PurgeCause) (s : State) : State :=
  let p := s.purge
  let fresh := { p with cause := some c, extensions := 0 }
  match p.state with
  | .idle =>
    let new := if p.doorOpen then { fresh with state := .waitClose } else s.fullFlow fresh
    s.purgeGo new (some (new.event .purgeStarted (w16 new.state.code)))
  | .waitClose => s.purgeKeep { p with cause := some c }
  | .run => s.purgeKeep { fresh with remaining := some (10 * s.lay.purgeTime) }
  | .scrub => s.purgeKeep { fresh with remaining := some (10 * s.lay.scrubTime) }
  | .verify =>
    let new := s.fullFlow fresh
    s.purgeGo new new.scrubEvent

/-! ### Doors (R72, R78, R79) -/

/-- R78: a door-opened notice. -/
def State.purgeDoorOpened (s : State) : State :=
  let p := { s.purge with doorOpen := true }
  match p.state with
  | .idle | .waitClose => s.setPurge p
  | .run | .scrub | .verify =>
    s.purgeGo
      { p with state := .waitClose, remaining := none, inlet := none, origin := none, awaited := [], results := [] }
      (some (p.event .purgeInterrupted (w16 p.state.code)))

/-- R79: an episode-ended notice in WAIT_CLOSE. -/
def State.purgeResume (s : State) : State :=
  let p := { s.purge with doorOpen := false }
  if p.state = .waitClose then
    let new := s.fullFlow { p with extensions := 0 }
    s.purgeGo new new.scrubEvent
  else s.setPurge p

/-- R72: an episode-ended notice, with or without the DOORS trigger. -/
def State.purgeEpisodeEnded (trigger : Bool) (s : State) : State :=
  if trigger then s.purgeResume.purgeTrigger .doors else s.purgeResume

/-! ### Running and scrubbing (R80 to R82) -/

/-- R81: the chosen inlet is exchanged: steps 5 and 6 of R75 alone. -/
def State.purgeSwitch (i : Inlet) (s : State) : State :=
  let old := s.purge
  (s.setPurge { old with inlet := some i }).tellGovernorPurge.putPurgeWords old

/-- R73, R81, R82: the controller re-judges the inlets. -/
def State.purgeRejudge (s : State) : State :=
  let p := s.purge
  match p.state, p.inlet with
  | .run, some i =>
    if s.purgeAllows i then s
    else if s.purgeAllows i.other then s.purgeSwitch i.other
    else
      let new := { p with state := .scrub, inlet := none, remaining := some (10 * s.lay.scrubTime) }
      s.purgeGo new new.scrubEvent
  | .scrub, _ =>
    match s.purgePick with
    | some i => s.purgeGo { p with state := .run, inlet := some i, remaining := some (10 * s.lay.purgeTime) } none
    | none => s
  | _, _ => s

/-- R80: whether the purge timer has reached 0. -/
def Purge.timerDue (p : Purge) : Bool := (p.state == .run || p.state == .scrub) && p.remaining == some 0

/-- R80, R83: the timer expires and the purge enters VERIFY. -/
def State.purgeVerify (s : State) : State :=
  let p := s.purge
  s.purgeGo { p with state := .verify, remaining := none, origin := some p.state, awaited := [4, 5], results := [] } none

/-- PURGE_TIMER_EXPIRY (R80). -/
def execPurgeTimerExpiry (s : State) : Host.Outcome State Fault Refusal :=
  .next (if s.part = .running ∧ s.purge.timerDue then s.purgeVerify else s)

/-! ### Verification (R83, R84) -/

/-- R84: the return to IDLE; the event carries the record as it stood. -/
def State.purgeEnd (kind : EventKind) (value : Word) (s : State) : State :=
  let p := s.purge
  s.purgeGo { Purge.reset with doorOpen := p.doorOpen } (some (p.event kind value))

/-- R85: the channels whose OPEN flag was set with their result: bit 0 CAB_CO, bit 1 CAB_PM. -/
def Purge.openChannels (p : Purge) : Word :=
  let isOpen := fun (c : Fin 16) => p.results.any (fun r => r.channel == c && r.isOpen)
  w16 (flag (isOpen 4) + 2 * flag (isOpen 5))

/-- R84: an extension. -/
def State.purgeExtend (s : State) : State :=
  let p := s.purge
  let new := s.flow s.lay.extensionTime s.lay.extensionTime { p with extensions := p.extensions + 1 }
  s.purgeGo new new.scrubEvent

/-- R84: the two results are judged. -/
def State.purgeJudge (s : State) : State :=
  let p := s.purge
  if p.results.any SpotResult.isOpen then s.purgeEnd .purgeUnverified p.openChannels
  else if p.results.all (fun r => s.spotClass r.channel r.value == .ok) then s.purgeEnd .purgeDone (w16 p.extensions)
  else if p.extensions < s.lay.extensionLimit then s.purgeExtend
  else s.purgeEnd .purgeUnresolved (w16 p.extensions)

/-- R83: a spot result is delivered to the purge. -/
def State.deliverPurge (r : SpotResult) (s : State) : State :=
  let p := s.purge
  if p.state = .verify ∧ r.channel ∈ p.awaited then
    let p := { p with awaited := p.awaited.filter (fun c => c ≠ r.channel), results := p.results ++ [r] }
    if p.awaited.isEmpty then (s.setPurge p).purgeJudge else s.setPurge p
  else s

end Sys2Proof.Machine
end

