-- ==== Sys2Proof/Machine/Notices.lean ====
section
/-! DEFINITION. Raise and release notices as the Hold Table takes them, each whole under R54 to R56, and the notices
that the table forms itself from grades and from the inlet hold-down (R57 to R59). -/

namespace Sys2Proof.Machine

/-- R56, step 6: the further blocks that follow a kind are told of a raise or a release. -/
def State.tellFollowers (k : HoldKey) (present : Bool) (s : State) : State :=
  let s := match k with
    | .inletBarred _ => s.purgeRejudge
    | .cabFoul => if present then s.purgeTrigger .cabFoul else s
    | _ => s
  (s.tellHeat k present).tellLamp k present

/-- R54: the record of a present pair loses its release-not-before tag. -/
def State.dropNotBefore (k : HoldKey) (s : State) : State := s.editHold k (fun r => { r with notBefore := none })

/-- R54: a raise notice, taken in RUNNING. -/
def State.takeRaise (k : HoldKey) (cause : HoldCause) (s : State) : State :=
  if s.part = .running then
    if s.hasHold k then s.dropNotBefore k else (s.createHold k cause none).tellFollowers k true
  else s

/-- R55: a release notice, taken in RUNNING. -/
def State.takeRelease (k : HoldKey) (s : State) : State :=
  if s.part = .running then
    match s.holdRecord k with
    | some r => (s.removeHold r).tellFollowers k false
    | none => s
  else s

/-- R57, R58: a ROOF or BUMPER grade notice. -/
def State.inletGradeNotice (i : Inlet) (g : Grade) (s : State) : State :=
  match g with
  | .foul => s.takeRaise (.inletBarred i) .gradeFoul
  | .blind => s.takeRaise (.inletBarred i) .gradeBlind
  | .clean | .suspect =>
    s.editHold (.inletBarred i) (fun r =>
      if r.notBefore.isSome then r else { r with notBefore := some (s.tagClock + w16 (10 * s.lay.holdDown)) })

/-- R57 to R59: the Hold Table takes a grade notice. -/
def State.tableGradeNotice (b : Body) (g : Grade) (s : State) : State :=
  match b with
  | .roof => s.inletGradeNotice .roof g
  | .bumper => s.inletGradeNotice .bumper g
  | .cab => if g = .foul then s.takeRaise .cabFoul .gradeFoul else s.takeRelease .cabFoul

/-- R58: whether an inlet's hold-down has run out: the tag clock stands at the release-not-before tag. -/
def State.holdDownDue (s : State) (i : Inlet) : Bool :=
  match s.holdRecord (.inletBarred i) with
  | some r => r.notBefore == some s.tagClock
  | none => false

/-- INLET_HOLD_DOWN_EXPIRY (R58). -/
def execInletHoldDownExpiry (i : Inlet) (s : State) : Host.Outcome State Fault Refusal :=
  .next (if s.part = .running ∧ s.holdDownDue i then s.takeRelease (.inletBarred i) else s)

end Sys2Proof.Machine
end

