-- ==== Sys2Proof/Machine/Dampers.lean ====
section
/-! DEFINITION. The Damper Drive's own occurrences (R135, R137 to R140): planned ends, seatings, stalls, jams, homing
and CLEAR_JAM. Targets, plans and grants stand in Recompute.lean. -/

namespace Sys2Proof.Machine

/-! ### Handing on (R130) -/

/-- R130, steps 2 to 4: the damper's word, the event, the lanes. -/
def State.handOnEvent (d : Fin 8) (event : Option Event) (s : State) : State :=
  let s := s.putStatus (25 + d.val) (s.damper d).word
  let s := match event with
    | some e => s.emit e
    | none => s
  s.each allLanes (State.tellLane State.recompute none d)

/-- What the Governor sees of a damper (R35, R43). -/
def Damper.inletView (x : Damper) : InletView :=
  { jammed := x.state == .jammed, estimate := x.estimate, cleared := x.cleared }

/-- R130, step 6: the Governor is told and recomputes. -/
def State.tellGovernorDamper (d : Fin 8) (s : State) : State :=
  let v := (s.damper d).inletView
  let view := s.governor.view
  let view :=
    if d = 0 then { view with roofDamper := v } else if d = 1 then { view with bumperDamper := v } else view
  ({ s with governor := { s.governor with view := view } }).recompute

/-- R130, step 7: for dampers 0 and 1 the Purge Controller is told. -/
def State.tellPurgeDamper (d : Fin 8) (s : State) : State := if d = 0 ∨ d = 1 then s.purgeRejudge else s

/-- R130, step 8: grants after a freeing. -/
def State.freeGrant (s : State) : State := s.grant State.recompute none

/-! ### Rest (R135, R137) -/

/-- A damper comes to rest at its estimate, and its grant is freed. -/
def State.comeToRest (d : Fin 8) (estimate : Option Nat) (s : State) : State :=
  ((s.setDamper d { s.damper d with state := .atRest, estimate := estimate, plan := none }).handOnEvent d none).freeGrant

/-- R137: a stall within 3 of the stop toward which the damper travels; a target other than the stop is queued for. -/
def State.reachStop (d : Fin 8) (stop : Nat) (s : State) : State :=
  let s := s.comeToRest d (some stop)
  if (s.damper d).state = .atRest ∧ (s.damper d).estimate ≠ some (s.damper d).target then
    s.joinMotion State.recompute none d
  else s

/-! ### Jams and homing (R138, R140) -/

/-- 13.9, 13.5: the value word of DAMPER_JAMMED. -/
def jamWord (cause : JamCause) (estimate : Option Nat) : Word :=
  w16 (estimate.getD 255 + (match cause with | .stall => 0 | .homing => 32768))

/-- R64: the cause of the DAMPER_JAM hold. -/
def JamCause.hold : JamCause → HoldCause
  | .stall => .stall
  | .homing => .homing

/-- R138: a damper enters JAMMED. -/
def State.jamDamper (d : Fin 8) (cause : JamCause) (estimate : Option Nat) (s : State) : State :=
  let s := s.setDamper d { s.damper d with state := .jammed, estimate := estimate, plan := none, jam := some cause }
  let s := s.handOnEvent d
    (some { kind := .damperJammed, subject := w16 d.val, value := jamWord cause estimate })
  (((s.takeRaise (.damperJam d) cause.hold).tellGovernorDamper d).tellPurgeDamper d).freeGrant

/-- R140: a stall ends the homing. -/
def State.homeDamper (d : Fin 8) (s : State) : State :=
  let x := { s.damper d with estimate := some 0, cleared := false }
  let x := if x.target = 0 then { x with state := .atRest, plan := none }
    else { x with state := .moving, plan := some (s.planFrom d 0 x.target) }
  let s := (s.setDamper d x).handOnEvent d
    (some { kind := .damperHomed, subject := w16 d.val, value := w16 x.target })
  let s := (s.tellGovernorDamper d).tellPurgeDamper d
  if x.target = 0 then s.freeGrant else s

/-- R137: the opening by which a stall is judged as the stop itself: the reckoned estimate, and the target where the
stall is taken at the moment of the planned end. -/
def State.stallPoint (s : State) (d : Fin 8) (p : Plan) : Nat :=
  if p.ends ≤ s.now then (s.damper d).target else s.reckoned d

/-- R137: a stall, judged by the damper's state. A jam freezes the reckoned estimate, which at the moment of the planned
end is one percent short of the target. -/
def State.stallDamper (d : Fin 8) (s : State) : State :=
  let x := s.damper d
  match x.state, x.plan with
  | .moving, some p =>
    match p.direction with
    | .opening =>
      if 97 ≤ s.stallPoint d p then s.reachStop d 100 else s.jamDamper d .stall (some (s.reckoned d))
    | .closing => if s.stallPoint d p ≤ 3 then s.reachStop d 0 else s.jamDamper d .stall (some (s.reckoned d))
  | .seating, _ => s.comeToRest d x.estimate
  | .homing, _ => s.homeDamper d
  | _, _ => s

/-- STALL (R137). -/
def execStall (d : Fin 8) (s : State) : Host.Outcome State Fault Refusal :=
  .next (if s.part = .running then s.stallDamper d else s)

/-! ### Timed ends (R135, R140) -/

/-- Whether a damper in the given state has come to the end of its plan. -/
def State.planEnded (s : State) (d : Fin 8) (x : DamperState) : Bool :=
  (s.damper d).state == x && (match (s.damper d).plan with | some p => decide (p.ends ≤ s.now) | none => false)

/-- R135: the planned end of MOVING, with the grant that a rest away from the stops frees. -/
def State.endMoving (d : Fin 8) (s : State) : State :=
  match (s.damper d).plan with
  | some p =>
    let t := s.reachTarget State.recompute none d p
    if isStop (s.damper d).target then t else t.freeGrant
  | none => s

/-- MOVING_PLANNED_END (R135). -/
def execMovingPlannedEnd (d : Fin 8) (s : State) : Host.Outcome State Fault Refusal :=
  .next (if s.part = .running ∧ s.planEnded d .moving then s.endMoving d else s)

/-- SEATING_TIME_OUT (R135). -/
def execSeatingTimeOut (d : Fin 8) (s : State) : Host.Outcome State Fault Refusal :=
  .next (if s.part = .running ∧ s.planEnded d .seating then s.comeToRest d (s.damper d).estimate else s)

/-- HOMING_LIMIT (R140). -/
def execHomingLimit (d : Fin 8) (s : State) : Host.Outcome State Fault Refusal :=
  .next (if s.part = .running ∧ s.planEnded d .homing then s.jamDamper d .homing none else s)

/-! ### CLEAR_JAM (R139) -/

/-- R139: a JAMMED damper is cleared. -/
def State.clearDamper (d : Fin 8) (s : State) : State :=
  let s := s.setDamper d
    { s.damper d with state := .waiting, estimate := none, plan := none, jam := none, cleared := true }
  let s := { s with drive := { s.drive with queue := s.drive.queue ++ [MotionEntry.mk d true] } }
  let s := (s.handOnEvent d none).takeRelease (.damperJam d)
  ((s.tellGovernorDamper d).tellPurgeDamper d).freeGrant

/-- R139: CLEAR_JAM with the latched service argument; none when refused. -/
def State.commandClearJam (s : State) : Option State :=
  if h : s.serviceArg.toNat < 8 then
    if (s.damper ⟨s.serviceArg.toNat, h⟩).state = .jammed then some (s.clearDamper ⟨s.serviceArg.toNat, h⟩) else none
  else none

end Sys2Proof.Machine
end

