-- ==== Sys2Proof/Machine/Grader.lean ====
section
/-! DEFINITION. The Air Grader (chapter 6): levels, grades, threshold entries. The classes stand in Classes.lean. -/

namespace Sys2Proof.Machine

/-- Replace one grading record. -/
def State.setGrading (c : Fin 6) (g : Grading) (s : State) : State :=
  { s with grader := { s.grader with channels := vset s.grader.channels c g } }

/-! ### Grades and their changes (R116 to R118) -/

/-- R116: the grade of a body from the levels of its two channels. -/
def gradeOf (a b : Level) : Grade :=
  if a = .severe ∨ b = .severe then .foul
  else if a = .blind ∨ b = .blind then .blind
  else if a = .high ∨ b = .high then .suspect
  else .clean

/-- R116: the grade that the levels give a body. -/
def State.formGrade (s : State) (b : Body) : Grade :=
  gradeOf (s.grading (bodyChannels b).1).level (s.grading (bodyChannels b).2).level

/-- R118: queue a channel's level word. -/
def State.putLevelWord (c : Fin 6) (s : State) : State := s.putStatus (3 + c.val) (s.grading c).levelWord

/-- R30: the Governor takes a grade notice and recomputes. -/
def State.governorGradeNotice (b : Body) (g : Grade) (s : State) : State :=
  ({ s with governor := { s.governor with view := { s.governor.view with
      grades := s.governor.view.grades.set b g } } }).recompute

/-- R117, step 6: the two deliveries of a grade notice, the Hold Table's first or the Governor's. -/
def State.gradeNotices (tableFirst : Bool) (b : Body) (g : Grade) (s : State) : State :=
  if tableFirst then (s.tableGradeNotice b g).governorGradeNotice b g
  else (s.governorGradeNotice b g).tableGradeNotice b g

/-- R117, steps 4 to 6: a body's grade changes; `tableFirst` says which delivery is taken first. -/
def State.changeGrade (tableFirst : Bool) (b : Body) (g : Grade) (s : State) : State :=
  let old := s.grader.grades.get b
  let s := { s with grader := { s.grader with grades := s.grader.grades.set b g } }
  let s := s.emit { kind := .gradeChanged, subject := w16 b.code, value := w16 (g.code + 256 * old.code) }
  (s.putStatus b.code (w16 g.code)).gradeNotices tableFirst b g

/-- R117: a channel's level has changed. Which delivery of a grade notice is taken first is the free value of log 9. -/
def State.levelChanged (c : Fin 6) (s : State) : State :=
  let s := s.putLevelWord c
  let b := bodyOf c
  let g := s.formGrade b
  if g = s.grader.grades.get b then s
  else
    ({ s with freeIndex := s.freeIndex + 1 }).changeGrade (Config.gradeNoticeTableFirst s.freeIndex) b g

/-! ### Readings (R113 to R115) -/

/-- R114: the confirmation runs of a channel with a confirmed level. -/
def Grading.confirm (g : Grading) (m : Limits) (r : Nat) : Grading :=
  let hi := m.highClass r
  let lo := m.lowClass r
  if g.level.rank < hi.rank then
    if m.raiseCount ≤ g.raiseRun + 1 then { g with level := hi, raiseRun := 0, lowerRun := 0 }
    else { g with raiseRun := g.raiseRun + 1, lowerRun := 0 }
  else if lo.rank < g.level.rank then
    if m.lowerCount ≤ g.lowerRun + 1 then { g with level := lo, raiseRun := 0, lowerRun := 0 }
    else { g with raiseRun := 0, lowerRun := g.lowerRun + 1 }
  else { g with raiseRun := 0, lowerRun := 0 }

/-- R113, steps 1 to 3: a grading record after a conversion. A channel that is not suspended has limits. -/
def Grading.reading (g : Grading) (r : Nat) (rail isOpen : Bool) : Grading :=
  let g := { g with openView := isOpen }
  match g.suspended, g.limits with
  | false, some m =>
    if isOpen then
      if g.level = .blind then g else { g with level := .blind, raiseRun := 0, lowerRun := 0 }
    else if g.level = .blind then
      if rail then { g with raiseRun := 0, lowerRun := 0 }
      else { g with level := m.highClass r, raiseRun := 0, lowerRun := 0 }
    else g.confirm m r
  | _, _ => g

/-- R113: the Grader is handed a conversion of a graded channel. -/
def State.graderReading (c : Fin 6) (r : Nat) (rail isOpen : Bool) (s : State) : State :=
  let g := s.grading c
  let g' := g.reading r rail isOpen
  let s := s.setGrading c g'
  if g'.level = g.level then s else s.levelChanged c

/-! ### Threshold entries (R109 to R111) -/

/-- R109: a grading record after a judgement of its entry copy. -/
def Grading.judged (g : Grading) (copy : Vector RamWord 4) : Grading :=
  let g := { g with copy := some copy, raiseRun := 0, lowerRun := 0 }
  match entryFault copy with
  | some _ => { g with suspended := true }
  | none =>
    { g with
      limits := some (parseEntry copy), suspended := false
      level := if g.suspended && g.openView then .blind else g.level }

/-- R109: THRESHOLD_REFUSED, where the entry is inconsistent. -/
def State.thresholdEvent (c : Fin 6) (copy : Vector RamWord 4) (s : State) : State :=
  match entryFault copy with
  | some reason => s.emit { kind := .thresholdRefused, subject := w16 c.val, value := w16 reason.code }
  | none => s

/-- R109: the Grader judges an entry in RUNNING. -/
def State.judgeEntry (c : Fin 6) (copy : Vector RamWord 4) (s : State) : State :=
  let g := s.grading c
  let g' := g.judged copy
  let s := (s.setGrading c g').thresholdEvent c copy
  if g'.level ≠ g.level then s.levelChanged c
  else if g'.suspended ≠ g.suspended then s.putLevelWord c
  else s

/-- R108: the graded channel of a word of the threshold table. -/
def entryChannel (i : Fin 24) : Fin 6 := ⟨i.val / 4, by omega⟩

/-- R108: the place of a word of the threshold table in its entry. -/
def entryWord (i : Fin 24) : Fin 4 := ⟨i.val % 4, by omega⟩

/-- R111: a threshold write is taken. -/
def State.takeThreshold (i : Fin 24) (value : Word) (s : State) : State :=
  let copy := (s.grading (entryChannel i)).copy.getD (Vector.replicate 4 unlisted)
  s.judgeEntry (entryChannel i) (vset copy (entryWord i) (.good value))

end Sys2Proof.Machine
end

