-- ==== Sys2Proof/Machine/Budget.lean ====
section
/-! DEFINITION. The Blower and Heat Unit's own occurrences (R144 to R146, R149 to R152): the tach, the watch, the
verify results, the voltage budget. -/

namespace Sys2Proof.Machine

/-! ### Tach and watch (R144 to R146) -/

/-- R144: a tach pulse. -/
def State.tachPulse (s : State) : State :=
  match s.heat.lastPulse with
  | some t =>
    (s.setHeat { s.heat with lastPulse := some s.now }).setSpeed (min (30000 / max (s.now - t) 1) 65535)
  | none => s.setHeat { s.heat with lastPulse := some s.now }

/-- TACH_PULSE (R144). -/
def execTachPulse (s : State) : Host.Outcome State Fault Refusal :=
  .next (if s.part = .running then s.tachPulse else s)

/-- R144: whether 1000 ms have passed since the last pulse. -/
def State.tachDue (s : State) : Bool :=
  match s.heat.lastPulse with
  | some t => decide (1000 ≤ s.now - t)
  | none => false

/-- TACH_TIMEOUT (R144). -/
def execTachTimeout (s : State) : Host.Outcome State Fault Refusal :=
  .next (if s.part = .running ∧ s.tachDue then (s.setHeat { s.heat with lastPulse := none }).setSpeed 0 else s)

/-- R145: whether the watch has run out. -/
def State.watchDue (s : State) : Bool :=
  match s.heat.watch with
  | .timing d => decide (d ≤ s.now)
  | _ => false

/-- BLOWER_WATCH_EXPIRY (R145, R65). -/
def execBlowerWatchExpiry (s : State) : Host.Outcome State Fault Refusal :=
  .next
    (if s.part = .running ∧ s.watchDue then (s.setHeat { s.heat with watch := .spent }).takeRaise .blowerFail .watch
     else s)

/-- R146: CLEAR_BLOWER_FAIL, never refused. -/
def State.commandClearBlowerFail (s : State) : State :=
  let s := s.takeRelease .blowerFail
  (s.setHeat { s.heat with watch := .idle }).rejudgeWatch

/-! ### Stages (R149, R150) -/

/-- Whether a timer held as its deadline has run out. -/
def State.reached (s : State) (deadline : Option Nat) : Bool :=
  match deadline with
  | some d => decide (d ≤ s.now)
  | none => false

/-- STAGE_UP_TIMER_EXPIRY (R149). -/
def execStageUpTimerExpiry (s : State) : Host.Outcome State Fault Refusal :=
  .next
    (if s.part = .running ∧ s.reached s.heat.stageUpTimer then
      (s.setHeat { s.heat with stageUpTimer := none }).testStageUp
     else s)

/-- R150: a stage becomes DEAD. -/
def State.stageDies (i : Fin 4) (result : Nat) (s : State) : State :=
  let s := (s.setHeat { s.heat with stages := vset s.heat.stages i .dead }).putHeatWord
  (s.emit { kind := .stageDead, subject := w16 (i.val + 1), value := w16 result }).rejudgeHeat

/-- R150: the result of the HEAT spot is delivered. -/
def State.deliverHeat (r : SpotResult) (s : State) : State :=
  match s.heat.verify with
  | none => s
  | some v =>
    let s := s.setHeat { s.heat with verify := none }
    if s.heat.stages.get v.stage ≠ .on ∨ r.isOpen ∨ v.baseline + s.lay.stageStep ≤ r.value then s.testStageUp
    else (s.stageDies v.stage r.value).testStageUp

/-! ### Budget (R151, R152) -/

/-- R151: the class of a SUPPLY_VOLTS reading. -/
def Layout.voltClass (L : Layout) (r : Nat) (isOpen : Bool) : Nat :=
  if isOpen then 0 else if L.voltA ≤ r then 4 else if L.voltB ≤ r then 2 else 0

/-- R152: the allowed count takes a value; a change is handed on. -/
def State.setAllowed (n : Nat) (s : State) : State :=
  let a := s.heat.allowed
  if n = a then s
  else
    let s := (s.setHeat { s.heat with allowed := n }).putHeatWord
    let s :=
      if n = 0 then s.takeRaise .heatShed .budget
      else if a = 0 then s.takeRelease .heatShed
      else s
    s.rejudgeHeat

/-- R151: a class below the allowed count. -/
def State.lowerReading (cls : Nat) (s : State) : State :=
  let h := s.heat
  let highest := if h.lowerRun = 0 then cls else max h.lowerHighest cls
  if 3 ≤ h.lowerRun + 1 then
    (s.setHeat { h with lowerRun := 0, lowerHighest := 0, restore := none }).setAllowed highest
  else s.setHeat { h with lowerRun := h.lowerRun + 1, lowerHighest := highest, restore := none }

/-- R151: a class above the allowed count. -/
def State.higherReading (cls : Nat) (s : State) : State :=
  let h := { s.heat with lowerRun := 0, lowerHighest := 0 }
  match h.restore with
  | none => s.setHeat { h with restore := some { candidate := cls, deadline := s.now + 1000 * s.lay.restoreTime } }
  | some t => s.setHeat { h with restore := some { t with candidate := min t.candidate cls } }

/-- R151: a SUPPLY_VOLTS conversion. -/
def State.voltReading (r : Nat) (isOpen : Bool) (s : State) : State :=
  let cls := s.lay.voltClass r isOpen
  let h := s.heat
  let cleared := { h with lowerRun := 0, lowerHighest := 0, restore := none }
  if h.firstReading then (s.setHeat { cleared with firstReading := false }).setAllowed cls
  else if isOpen then (s.setHeat cleared).setAllowed 0
  else if cls < h.allowed then s.lowerReading cls
  else if cls = h.allowed then s.setHeat cleared
  else s.higherReading cls

/-- R151: whether the restore timer has run out. -/
def State.restoreDue (s : State) : Bool := s.reached (s.heat.restore.map RestoreTimer.deadline)

/-- R151: the restore timer expires. -/
def State.restoreExpires (s : State) : State :=
  match s.heat.restore with
  | some t => (s.setHeat { s.heat with restore := none }).setAllowed t.candidate
  | none => s

/-- RESTORE_TIMER_EXPIRY (R151). -/
def execRestoreTimerExpiry (s : State) : Host.Outcome State Fault Refusal :=
  .next (if s.part = .running ∧ s.restoreDue then s.restoreExpires else s)

/-! ### Conversions handed to the unit (R87, R92) -/

/-- R147, R151, R142: a conversion of channel 12, 14 or 15 is handed to the unit. -/
def State.heatReading (c : Fin 16) (r : Nat) (isOpen : Bool) (s : State) : State :=
  if c = 12 then (s.setHeat { s.heat with coolant := (s.channel 12).filtered, coolantOpen := isOpen }).rejudgeHeat
  else if c = 14 then s.voltReading r isOpen
  else if c = 15 then s.setHeat { s.heat with lastAmps := some r }
  else s

end Sys2Proof.Machine
end

