-- ==== Sys2Proof/Machine/Scanner.lean ====
section
/-! DEFINITION. The Sense Scanner's own occurrences (R89 to R104): a completed conversion handled whole, the scan
period, the three service commands. -/

namespace Sys2Proof.Machine

/-! ### The channel record (R90, R91, R93) -/

/-- R90: whether a result is a rail reading under a method. -/
def OpenWire.rail (m : OpenWire) (r : Nat) : Bool :=
  match m with
  | .none => false
  | .precharge => decide (4080 ≤ r)
  | .discharge => decide (r ≤ 15)

/-- R90: the runs and the OPEN flag after a reading. -/
def Channel.class (ch : Channel) (rail : Bool) : Channel :=
  if rail then
    let n := min (ch.railRun + 1) 3
    { ch with railRun := n, clearRun := 0, isOpen := ch.isOpen || n == 3 }
  else
    let n := min (ch.clearRun + 1) 3
    { ch with clearRun := n, railRun := 0, isOpen := ch.isOpen && n != 3 }

/-- R91: the window with a result added as the newest, at most four kept. -/
def pushWindow (w : List Nat) (r : Nat) : List Nat := (w ++ [r]).drop ((w ++ [r]).length - 4)

/-- R91: whether a reading updates the filtered value: non-rail, with the flag clear after it. -/
def Channel.updates (after : Channel) (rail : Bool) : Bool := !rail && !after.isOpen

/-- R92, steps 1 to 3: a channel record after a completed conversion. -/
def Channel.take (ch : Channel) (r : Nat) (origin : Origin) (rail : Bool) : Channel :=
  let after := { ch with last := some (r, origin) }.class rail
  if after.updates rail then { after with window := if ch.isOpen then [r] else pushWindow ch.window r } else after

/-- R90, R92 step 5: CHANNEL_OPEN or CHANNEL_RESTORED, where the flag has changed. -/
def State.openEvent (c : Fin 16) (r : Nat) (before after : Channel) (s : State) : State :=
  if before.isOpen = after.isOpen then s
  else s.emit
    { kind := if after.isOpen then .channelOpen else .channelRestored, subject := w16 c.val, value := w16 r }

/-- R93: queue a channel's image words. -/
def State.putSense (c : Fin 16) (updated : Bool) (s : State) : State :=
  let ch := s.channel c
  let s := s.putImage (s.lay.senseBase + 2 * c.val) ch.rawWord
  if updated then s.putImage (s.lay.senseBase + 2 * c.val + 1) ch.filteredWord else s

/-! ### Handing and delivering (R87, R92 steps 6 and 7) -/

/-- R30: the Mix Governor is handed a conversion. -/
def State.governorReading (c : Fin 16) (updated : Bool) (s : State) : State :=
  if c = 6 then s.recomputeConversion (if updated then (s.channel 6).filtered else none)
  else if c = 8 ∨ c = 9 ∨ c = 10 ∨ c = 12 then s.recomputeConversion none
  else s

/-- R92, step 6: the conversion is handed to the blocks of R87. -/
def State.handConversion (c : Fin 16) (r : Nat) (rail updated : Bool) (s : State) : State :=
  let isOpen := (s.channel c).isOpen
  let s := match graded c with
    | some g => s.graderReading g r rail isOpen
    | none => s
  (s.governorReading c updated).heatReading c r isOpen

/-- R92, step 7: the order of delivery. -/
def allRequesters : List Requester := [.lane .front, .lane .crew, .lane .screen, .purge, .heat, .service]

/-- R104: SPOT_DONE. -/
def State.deliverService (r : SpotResult) (s : State) : State :=
  s.emit
    { kind := .spotDone, subject := w16 (r.channel.val + 32768 * flag r.isOpen), value := w16 r.value }

/-- The result is delivered to one requester. -/
def State.deliverTo (q : Requester) (r : SpotResult) (s : State) : State :=
  match q with
  | .lane l => s.deliverLane l r
  | .purge => s.deliverPurge r
  | .heat => s.deliverHeat r
  | .service => s.deliverService r

/-- R100: whether a requester is in the served set of the entry under conversion. -/
def State.servedNow (s : State) (q : Requester) : Bool :=
  match s.scanner.queue with
  | e :: _ => (e.served.map (fun x => x.has q)).getD false
  | [] => false

/-- R100: a requester leaves the entry under conversion. -/
def State.leaveEntry (q : Requester) (s : State) : State :=
  match s.scanner.queue with
  | e :: es =>
    s.setScanner { s.scanner with
      queue := { e with requesters := e.requesters.put q false, served := e.served.map (fun x => x.put q false) } :: es }
  | [] => s

/-- R92, step 7, R100: the result is delivered to a requester still in the served set, which leaves the entry. -/
def State.deliver (r : SpotResult) (q : Requester) (s : State) : State :=
  if s.servedNow q then (s.leaveEntry q).deliverTo q r else s

/-! ### What follows a conversion (R92 step 8, R95, R96, R100) -/

/-- R95: the step after a scan conversion. -/
def State.afterScan (s : State) : State :=
  let p := s.scanner.position
  let last := decide (s.lay.scanLength ≤ p + 1)
  if s.scanner.queue.isEmpty then (if last then s.endScan else s.scanAt (p + 1))
  else s.enterSpot (if last then .endOfPass else .at (p + 1))

/-- R100: the entry converted is dropped where no requester is left. -/
def closeEntry : List SpotEntry → List SpotEntry
  | [] => []
  | e :: es => if e.requesters.isEmpty then es else { e with served := none } :: es

/-- R101, R100: the scanner stands STOPPED. -/
def State.stopScan (s : State) : State :=
  s.setScanner { s.scanner with
    state := .stopped, position := 0, passStart := none, ended := none, resume := .absent, conversion := none }

/-- R100: the scanner leaves SPOT by its resume point. -/
def State.leaveSpot (s : State) : State :=
  match s.scanner.resume with
  | .absent => s.stopScan
  | .at p => s.scanAt p
  | .endOfPass => s.endPass
  | .restart => s.beginPass

/-- R100: the step after a spot conversion. -/
def State.afterSpot (s : State) : State :=
  let s := s.setScanner { s.scanner with queue := closeEntry s.scanner.queue }
  if s.scanner.queue.isEmpty then s.leaveSpot else s.serveHead

/-- R92: a conversion of a channel completes with a result and is handled whole. -/
def State.completeConversion (c : Fin 16) (r : Nat) (s : State) : State :=
  let spot := s.scanner.state == .spot
  let s := s.setScanner { s.scanner with conversion := none }
  let before := s.channel c
  let rail := (s.lay.methods.get c).rail r
  let after := before.take r (if spot then .spot else .scan) rail
  let updated := after.updates rail
  let s := ((s.setChannel c after).putSense c updated).openEvent c r before after
  let s := s.handConversion c r rail updated
  if spot then
    (s.each allRequesters (State.deliver { channel := c, value := r, isOpen := after.isOpen })).afterSpot
  else s.afterScan

/-- R89: whether the conversion under way has taken its 3 ms. -/
def State.conversionDue (s : State) : Bool :=
  match s.scanner.conversion with
  | some v => decide (v.began + 3 ≤ s.now)
  | none => false

/-- CONVERSION_COMPLETE (R92). -/
def execConversionComplete (result : BitVec 12) (s : State) : Host.Outcome State Fault Refusal :=
  .next (match s.scanner.conversion with
    | some v => if s.part = .running ∧ s.conversionDue then s.completeConversion v.channel result.toNat else s
    | none => s)

/-- R96: whether the scan period has elapsed in WAITING. -/
def State.scanPeriodDue (s : State) : Bool :=
  s.scanner.state == .waiting && decide (100 * s.lay.scanPeriod ≤ s.now - s.scanner.passStart.getD s.now)

/-- SCAN_PERIOD_ELAPSED (R96). -/
def execScanPeriodElapsed (s : State) : Host.Outcome State Fault Refusal :=
  .next (if s.part = .running ∧ s.scanPeriodDue then s.beginPass else s)

/-! ### Service commands (R101 to R103) -/

/-- R101: SCAN_STOP. -/
def State.commandScanStop (s : State) : State :=
  match s.scanner.state with
  | .scanning | .waiting => s.stopScan
  | .spot => s.setScanner { s.scanner with resume := .absent, passStart := none }
  | .stopped => s

/-- R102: SCAN_START. -/
def State.commandScanStart (s : State) : State :=
  match s.scanner.state with
  | .scanning | .waiting | .stopped => s.beginPass
  | .spot => s.setScanner { s.scanner with resume := .restart }

/-- R103: SPOT_READ of the channel named by the service argument; none when refused. -/
def State.commandSpotRead (s : State) : Option State :=
  if h : s.serviceArg.toNat < 16 then some (s.requestSpot .service ⟨s.serviceArg.toNat, h⟩) else none

end Sys2Proof.Machine
end

