-- ==== Sys2Proof/Machine/Switches.lean ====
section
/-! DEFINITION. The Switch Input Unit (chapter 7): debounce, doors and the episode, the engine, the purge button. -/

namespace Sys2Proof.Machine

/-! ### Debounce (R119, R120) -/

/-- One switch record. -/
def State.switch (s : State) (i : SwitchId) : Switch := s.switches.inputs.get i.index

/-- Replace one switch record. -/
def State.setSwitch (i : SwitchId) (x : Switch) (s : State) : State :=
  { s with switches := { s.switches with inputs := vset s.switches.inputs i.index x } }

/-- R119: the debounce time of an input's class, in ms. -/
def Layout.debounce (L : Layout) : SwitchId → Nat
  | .engineRun => L.engineDebounce
  | .purgeButton => L.buttonDebounce
  | _ => L.doorDebounce

/-- R120, R121: the debounce timer of an input whose raw level differs from its accepted level, or not. -/
def State.debounceFor (s : State) (i : SwitchId) (x : Switch) : Option Nat :=
  if x.raw = x.accepted then none else some (s.now + s.lay.debounce i)

/-- R120: a contact changes its raw level. Outside RUNNING the level alone is followed (R121). -/
def State.rawChange (i : SwitchId) (active : Bool) (s : State) : State :=
  let x := s.switch i
  if active = x.raw then s
  else
    let x := { x with raw := active }
    if s.part = .running then s.setSwitch i { x with debounce := s.debounceFor i x } else s.setSwitch i x

/-- RAW_LEVEL_CHANGE (R120). -/
def execRawLevelChange (i : SwitchId) (active : Bool) (s : State) : Host.Outcome State Fault Refusal :=
  .next (s.rawChange i active)

/-! ### Doors and the episode (R123 to R125) -/

/-- R119: the door of an input. -/
def doorOf : SwitchId → Option Door
  | .doorFL => some .fl
  | .doorFR => some .fr
  | .doorCL => some .cl
  | .doorCR => some .cr
  | .hatch => some .hatch
  | _ => none

/-- R123: the number of inputs in the open set. -/
def Switches.openCount (w : Switches) : Nat := w.openSet.toList.countP (fun b => b)

/-- R123: the exposure so far, in ms, limited to 6553.5 s. -/
def State.exposure (s : State) : Nat := min (s.now - s.switches.episodeStart.getD s.now) 6553500

/-- R124: a door input is accepted open. -/
def State.doorOpens (d : Door) (s : State) : State :=
  let w := s.switches
  let w := { w with
    openSet := vset w.openSet d.index true
    episodeStart := if w.openCount = 0 then some s.now else w.episodeStart }
  let s := { s with switches := w }
  let s := s.emit { kind := .doorOpened, subject := w16 d.index.val, value := w16 w.openCount }
  (s.takeRaise (.doorOpen d) .input).purgeDoorOpened

/-- R125: a door input is accepted closed. -/
def State.doorCloses (d : Door) (s : State) : State :=
  let exposure := s.exposure
  let w := { s.switches with openSet := vset s.switches.openSet d.index false }
  let ends := w.openCount == 0
  let s := { s with switches := if ends then { w with episodeStart := none } else w }
  let s := s.emit
    { kind := .doorClosed, subject := w16 (d.index.val + 32768 * flag ends), value := w16 (exposure / 100) }
  let s := s.takeRelease (.doorOpen d)
  if ends then s.purgeEpisodeEnded (decide (100 * s.lay.exposureThreshold ≤ exposure)) else s

/-! ### Engine and button (R126, R127) -/

/-- R126: ENGINE_RUN's accepted level has changed. -/
def State.engineChanges (on : Bool) (s : State) : State :=
  if on then s.takeRelease .engineOff else s.takeRaise .engineOff .input

/-- R127: PURGE_BUTTON's accepted level has changed. -/
def State.buttonChanges (pressed : Bool) (s : State) : State :=
  let w := s.switches
  if pressed then
    { s with switches := { w with
        pressDeadline := some (s.now + 1000 * s.lay.longPress), pressBegan := some s.now, longPressed := false } }
  else
    let s := { s with switches := { w with pressDeadline := none, pressBegan := none, longPressed := false } }
    if w.longPressed then s
    else s.emit
      { kind := .buttonShort, subject := 0, value := w16 ((s.now - w.pressBegan.getD s.now) / 100) }

/-- R122: an accepted change is handed on. -/
def State.acceptLevel (i : SwitchId) (s : State) : State :=
  let x := s.switch i
  let s := s.setSwitch i { x with accepted := x.raw, debounce := none }
  match doorOf i with
  | some d => if x.raw then s.doorOpens d else s.doorCloses d
  | none => if i = .engineRun then s.engineChanges x.raw else s.buttonChanges x.raw

/-- DEBOUNCE_TIMER_EXPIRY (R120, R122). -/
def execDebounceTimerExpiry (i : SwitchId) (s : State) : Host.Outcome State Fault Refusal :=
  .next (if s.part = .running ∧ s.reached (s.switch i).debounce then s.acceptLevel i else s)

/-- R127: the press timer expires. -/
def State.pressExpires (s : State) : State :=
  ({ s with switches := { s.switches with pressDeadline := none, longPressed := true } }).purgeTrigger .button

/-- PRESS_TIMER_EXPIRY (R127). -/
def execPressTimerExpiry (s : State) : Host.Outcome State Fault Refusal :=
  .next (if s.part = .running ∧ s.reached s.switches.pressDeadline then s.pressExpires else s)

end Sys2Proof.Machine
end

