-- ==== Sys2Proof/Machine/Loader.lean ====
section
/-! DEFINITION. The Layout Loader and the tag clock (chapter 11): RESET, start-up, entry to RUNNING, RESTART, draining,
the tick; and what each block takes at each entry (R3, R27, R29, R50, R53, R70, R86, R88, R94, R105, R107, R110, R121,
R129, R141, R142, R154, R161, R167, R174). -/

namespace Sys2Proof.Machine

/-! ### The part state words (R168) -/

/-- R168: queue the part state word. -/
def State.putPartState (s : State) : State := s.offer 0x42 (w16 s.part.code)

/-- R168: queue the fault reason word. -/
def State.putFaultReason (s : State) : State := s.offer 0x43 (w16 ((s.faultReason.map FaultReason.code).getD 0))

/-! ### RESET (R168, R167) -/

/-- R121: the Switch Input Unit with every accepted level at its start; the contacts keep their raw levels. -/
def Switches.rest (w : Switches) : Switches :=
  { Switches.reset with inputs := w.inputs.map (fun x => { raw := x.raw, accepted := false, debounce := none }) }

/-- R167, log 25: the word a read held at RESET returns, as it is forwarded at once. -/
def Port.flushed (p : Port) : Option RamCell :=
  match p.held with
  | some h => some (h.addr, p.ram.read h.addr)
  | none => p.lastRead

/-- RESET (R168): every block takes its RESET state; the RAM, the contacts and the time stand. -/
def State.enterReset (s : State) : State :=
  { State.reset with
    pending := s.pending, now := s.now, freeIndex := s.freeIndex
    port := .reset s.port.ram s.port.flushed, switches := s.switches.rest }

/-- RESET (R168). -/
def execReset (s : State) : Host.Outcome State Fault Refusal := .next s.enterReset

/-! ### LOADING (R168, R169, R172) -/

/-- R169: the 64 layout reads are placed. -/
def State.placeLayoutReads (s : State) : State :=
  ({ s with loader := { phase := .layout, words := [] } }).placeReads .loader (List.range 64)

/-- Whether a read left from an abandoned start-up remains (R172). -/
def Port.abandonedLeft (p : Port) : Bool := p.reads.any (fun r => r.placer == .abandoned)

/-- R168, R3, R107, R121, R167, R174: the blocks at an entry to LOADING. -/
def State.clearForLoading (s : State) : State :=
  { s with
    part := .loading, faultReason := none, layout := none, serviceArg := 0
    port := { s.port with guards := [], hostPassed := false, pointer := .fetch }
    lanes := ⟨.reset, .reset, .reset⟩, grader := .reset, switches := s.switches.rest
    events := { EventWriter.reset with lamp := s.events.lamp, lampSince := s.events.lampSince } }

/-- R168, R169, R172: the part enters LOADING. -/
def State.enterLoading (s : State) : State :=
  let s := (s.clearForLoading.putPartState.putFaultReason).relamp
  if s.port.abandonedLeft then { s with loader := { phase := .abandoned, words := [] } } else s.placeLayoutReads

/-- RESET_RELEASED (R168). -/
def execResetReleased (s : State) : Host.Outcome State Fault Refusal :=
  .next (if s.part = .reset then s.enterLoading else s)

/-- R169, R29, R168: validation fails and the part enters FAULT. -/
def State.enterFault (reason : FaultReason) (s : State) : State :=
  let s := { s with
    part := .fault, faultReason := some reason, loader := { phase := .none, words := [] }
    governor := .reset ⟨0, 0, 0⟩ }
  (s.putPartState.putFaultReason).relamp

/-- R169: the layout is latched and the 24 threshold reads are placed. -/
def State.latchLayout (L : Layout) (s : State) : State :=
  ({ s with layout := some L, loader := { phase := .thresholds, words := [] } }).placeReads .loader
    ((List.range 24).map (fun i => L.thresholdBase + i))

/-- Whether the loader's reads of a phase have all returned. -/
def State.loaderReturned (s : State) (phase : LoaderPhase) (n : Nat) : Bool :=
  s.part == .loading && s.loader.phase == phase && s.loader.words.length == n

/-- R169: the layout is judged. -/
def State.judgeLayout (s : State) : State :=
  match layoutFault s.loader.words with
  | some reason => s.enterFault reason
  | none => s.latchLayout (parseLayout s.loader.words)

/-- R169: once the 64th layout read has returned the layout is judged. -/
def State.finishLayoutRead (s : State) : State := if s.loaderReturned .layout 64 then s.judgeLayout else s

/-- LAYOUT_READ_COMPLETE (R169). -/
def execLayoutReadComplete (s : State) : Host.Outcome State Fault Refusal := .next s.finishLayoutRead

/-! ### The threshold read and the initial writes (R110, R170) -/

/-- R110: the entry copy of a channel from the 24 words read. -/
def entryCopy (ws : List RamWord) (c : Nat) : Vector RamWord 4 :=
  #v[ws.getD (4 * c) unlisted, ws.getD (4 * c + 1) unlisted, ws.getD (4 * c + 2) unlisted, ws.getD (4 * c + 3) unlisted]

/-- R110: a grading record once the start-up read has been judged. -/
def startGrading (ws : List RamWord) (c : Nat) : Grading := Grading.reset.judged (entryCopy ws c)

/-- R110: the six grading records. -/
def startGrader (ws : List RamWord) : Grader :=
  let g := startGrading ws
  { channels := #v[g 0, g 1, g 2, g 3, g 4, g 5], grades := ⟨.blind, .blind, .blind⟩ }

/-- R170: the 96 words of the status block at their starting values. -/
def Layout.startStatus (L : Layout) : List Word :=
  List.replicate 3 (w16 Grade.blind.code) ++ List.replicate 6 Grading.reset.levelWord ++
    ((Mix.reset L.rest).words.map (fun w => w.2)) ++
    [Purge.reset.stateWord, Purge.reset.secondsWord, HeatUnit.reset.word, w16 HeatUnit.reset.speed] ++
    List.replicate 8 Damper.reset.word ++ List.replicate 63 0

/-- Consecutive words from a base, with their addresses. -/
def blockFrom (base : Nat) : List Word → List (Nat × Word)
  | [] => []
  | w :: ws => (base, w) :: blockFrom (base + 1) ws

/-- R170: the initial writes but for the last, in order. -/
def Layout.initialWrites (L : Layout) : List (Nat × Word) :=
  blockFrom L.laneBase (List.replicate 12 0) ++ blockFrom L.eventBase [0, 0] ++
    blockFrom L.senseBase (List.replicate 32 0) ++ blockFrom L.statusBase (L.startStatus.take 95)

/-- R170: the initial writes are offered; the last of them is status word +95. -/
def State.offerInitial (s : State) : State :=
  (s.each s.lay.initialWrites (fun w t => t.offer w.1 w.2)).offerAs .lastInitial (s.lay.statusBase + 95) 0

/-- R110, R170: once the 24th threshold read has returned the Grader takes the entries and the initial writes are
offered. -/
def State.finishThresholdRead (s : State) : State :=
  if s.loaderReturned .thresholds 24 then
    ({ s with grader := startGrader s.loader.words, loader := { phase := .writes, words := [] } }).offerInitial
  else s

/-- THRESHOLD_READ_COMPLETE (R110, R170). -/
def execThresholdReadComplete (s : State) : Host.Outcome State Fault Refusal := .next s.finishThresholdRead

/-! ### RUNNING (R170) -/

/-- R3: a lane's starting state. -/
def Layout.startLane (L : Layout) (l : LaneId) : Lane :=
  { state := if (L.rings.get l).size = 0 then .disabled else .stopped
    mirror := 0, consumer := 0, stopPending := false, order := none, carried := .rest (L.rest.get l) }

/-- R129: the Damper Drive's starting state: all eight wait for homing in number order. -/
def Drive.start : Drive :=
  { dampers := Vector.replicate 8 .reset, queue := allDampers.map (fun d => { damper := d, homing := true }) }

/-- R3, R29, R53, R70, R88, R107, R121, R129, R142, R174: the blocks' starting states. -/
def State.startBlocks (s : State) : State :=
  let L := s.lay
  { s with
    part := .running, loader := { phase := .none, words := [] }, tagClock := 0, lastTick := s.now
    lanes := ⟨L.startLane .front, L.startLane .crew, L.startLane .screen⟩
    governor := .reset L.rest, holds := [], purge := .reset, scanner := .reset, switches := s.switches.rest
    drive := .start, heat := .reset
    events := { EventWriter.reset with lamp := s.events.lamp, lampSince := s.events.lampSince } }

/-- The graded channels in order. -/
def allGraded : List (Fin 6) := [0, 1, 2, 3, 4, 5]

/-- R107, R118: the level words of the suspended channels. -/
def State.startLevelWords (s : State) : State :=
  s.each allGraded (fun c t => if (t.grading c).suspended then t.putLevelWord c else t)

/-- R66: the initial holds. -/
def State.initialHolds (s : State) : State :=
  ((s.takeRaise (.inletBarred .roof) .start).takeRaise (.inletBarred .bumper) .start).takeRaise .engineOff .start

/-- R110: THRESHOLD_REFUSED of each suspended channel, in channel order. -/
def State.startRefusals (s : State) : State :=
  s.each allGraded (fun c t =>
    match (t.grading c).copy with
    | some copy => t.thresholdEvent c copy
    | none => t)

/-- R170: START_DONE. -/
def State.startDone (s : State) : State :=
  s.emit
    { kind := .startDone, subject := w16 s.lay.version
      value := w16 (s.grader.channels.toList.countP Grading.suspended) }

/-- The switch inputs in order. -/
def allSwitches : List SwitchId := [.doorFL, .doorFR, .doorCL, .doorCR, .hatch, .engineRun, .purgeButton]

/-- R121: each raw level is compared with its accepted level. -/
def State.startSwitches (s : State) : State :=
  s.each allSwitches (fun i t => t.setSwitch i { t.switch i with debounce := t.debounceFor i (t.switch i) })

/-- R4: the consumer words of the indices set to 0 at the entry to RUNNING, in lane order (log 12). -/
def State.startConsumerWords (s : State) : State := s.each allLanes (fun l t => t.offer (t.laneWord l 2) 0)

/-- R170: the part enters RUNNING. The consumer words are queued (R4); the lane control block reads all zero (R27), so the
lanes' starting states queue no status word (log 13). -/
def State.enterRunning (s : State) : State :=
  let s := s.startBlocks.putPartState.startConsumerWords.startLevelWords
  let s := (s.grant State.recompute none).recomputeEntry
  s.initialHolds.startRefusals.startDone.beginPass.startSwitches.relamp

/-- Whether an entry of the initial writes' end is still queued or waiting. -/
def Port.initialLeft (p : Port) : Bool :=
  p.records.any (fun e => e.role == .lastInitial) || p.waiting.any (fun e => e.role == .lastInitial)

/-- R170: whether the last initial write has reached memory. -/
def State.runningReady (s : State) : Bool :=
  s.part == .loading && s.loader.phase == .writes && !s.port.initialLeft

/-- R170: once the last initial write has reached memory the part enters RUNNING. -/
def State.finishInitialWrites (s : State) : State := if s.runningReady then s.enterRunning else s

/-- RUNNING_ENTRY (R170). -/
def execRunningEntry (s : State) : Host.Outcome State Fault Refusal := .next s.finishInitialWrites

/-! ### RESTART and DRAINING (R172, R167) -/

/-- R141: the Damper Drive at the entry to DRAINING. -/
def Drive.stopped (v : Drive) : Drive :=
  { dampers := v.dampers.map (fun x =>
      { x with state := .waiting, estimate := none, plan := none, jam := none, cleared := false })
    queue := allDampers.map (fun d => { damper := d, homing := true }) }

/-- R154: the Blower and Heat Unit at the entry to DRAINING. That the stopped watch reads IDLE and the last pulse none is
the model's choice (log 24). -/
def HeatUnit.stopped (h : HeatUnit) : HeatUnit :=
  { h with
    lastPulse := none, watch := .idle, valve := 0, stages := Vector.replicate 4 .off, stageUpTimer := none
    verify := none, restore := none }

/-- R121: the Switch Input Unit at the entry to DRAINING: its accepted levels stand. That the long-press mark and the press
moment are cleared with the press timer is the model's choice (log 8). -/
def Switches.stopped (w : Switches) : Switches :=
  { Switches.reset with inputs := w.inputs.map (fun x => { x with debounce := none }) }

/-- R27, R105: a lane at the entry to DRAINING: it awaits no spot. That its record stands else is log 37. -/
def Lane.stopped (x : Lane) : Lane := { x with order := x.order.map (fun o => { o with awaited := [] }) }

/-- R27, R50, R53, R86, R105, R107, R121, R141, R154, R174: the blocks at the entry to DRAINING. -/
def State.stopBlocks (s : State) : State :=
  { s with
    part := .draining, governor := .reset s.lay.rest, holds := [], purge := .reset
    lanes := ⟨s.lanes.front.stopped, s.lanes.crew.stopped, s.lanes.screen.stopped⟩
    scanner := { Scanner.reset with channels := s.scanner.channels }
    grader := .reset, switches := s.switches.stopped, drive := s.drive.stopped, heat := s.heat.stopped
    events := { s.events with overrun := 0, jams := 0, blowerFail := false, cabFoul := false, scrub := false } }

/-- R172: the part enters DRAINING. -/
def State.enterDraining (s : State) : State := (s.stopBlocks.putPartState).relamp

/-- R171: the write-back of 0 to the service command word. -/
def State.writeBackService (s : State) : State := s.offer 0x40 0

/-- R172: the loader's reads of an abandoned start-up. -/
def Port.abandon (p : Port) : Port :=
  { p with reads := p.reads.map (fun r => if r.placer = .loader then { r with placer := .abandoned } else r) }

/-- R172: RESTART, taken and acknowledged; none when refused or not taken. -/
def State.commandRestart (s : State) : Option State :=
  match s.part with
  | .running => some s.writeBackService.enterDraining
  | .fault => some s.writeBackService.enterLoading
  | .loading =>
    if s.port.abandonedLeft ∨ s.port.waiting ≠ [] then none
    else some ({ s.writeBackService with port := s.writeBackService.port.abandon }).enterLoading
  | .reset | .draining => none

/-- R167: the four conditions of draining complete. -/
def Port.drained (p : Port) : Bool := p.records.isEmpty && p.waiting.isEmpty && p.images.isEmpty && p.reads.isEmpty

/-- R167: draining is complete at the first moment when nothing is left of it, and the part then enters LOADING. -/
def State.finishDraining (s : State) : State := if s.part = .draining ∧ s.port.drained then s.enterLoading else s

/-- DRAINING_COMPLETE (R167). -/
def execDrainingComplete (s : State) : Host.Outcome State Fault Refusal := .next s.finishDraining

/-! ### The tag clock (R173) -/

/-- R173: whether 100 ms have passed since the last tick. -/
def State.tickDue (s : State) : Bool := s.part == .running && decide (s.lastTick + 100 ≤ s.now)

/-- R17, R18: the timers of a lane fall by one. -/
def Lane.tick (x : Lane) : Lane :=
  match x.order with
  | none => x
  | some o =>
    match x.state with
    | .settle => { x with order := some { o with settleTimer := o.settleTimer - 1 } }
    | .dwell => { x with order := some { o with dwellTimer := o.dwellTimer - 1 } }
    | _ => x

/-- R80: the remaining time falls by one. -/
def Purge.tick (p : Purge) : Purge := { p with remaining := p.remaining.map (fun n => n - 1) }

/-- R173: the tick, with the timers that count it. -/
def State.tick (s : State) : State :=
  let s := { s with tagClock := s.tagClock + 1, lastTick := s.lastTick + 100 }
  let s := if s.tagClock = 0 then s.emit { kind := .tagRollover, subject := 0, value := 0 } else s
  let s := { s with lanes := ⟨s.lanes.front.tick, s.lanes.crew.tick, s.lanes.screen.tick⟩ }
  s.purgeKeep s.purge.tick

/-- TAG_CLOCK_TICK (R173). -/
def execTagClockTick (s : State) : Host.Outcome State Fault Refusal := .next (if s.tickDue then s.tick else s)

end Sys2Proof.Machine
end

