-- ==== Sys2Proof/Machine/Bus.lean ====
section
/-! DEFINITION. The memory port (10.4 to 10.7): part cycles in rotation and as flushes, the held read, the Window Map. -/

namespace Sys2Proof.Machine

/-! ### The Window Map (R155) -/

/-- R155, R157: the owner of a SNOOPED word. -/
inductive SnoopOwner where
  | producer (l : LaneId) | command (l : LaneId) | consumer | threshold (i : Fin 24)
deriving DecidableEq, Repr

/-- R155: the class of a word. -/
inductive WordClass where
  | plain | layout | service | snooped (owner : SnoopOwner) | guarded
deriving DecidableEq, Repr

/-- Whether an address lies in the `n` words from a base. -/
def inBlock (base n a : Nat) : Bool := decide (base ≤ a) && decide (a < base + n)

/-- R155, 13.3: the class of a word of the lane control block. -/
def laneWordClass (l : LaneId) (offset : Nat) : WordClass :=
  if offset = 0 then .snooped (.producer l) else if offset = 1 then .snooped (.command l) else .guarded

/-- The lane whose four control words hold an offset of the lane control block. -/
def laneAt (offset : Nat) : LaneId := if offset < 4 then .front else if offset < 8 then .crew else .screen

/-- R155: whether an address lies in a guarded order slot. -/
def State.slotGuarded (s : State) (a : Nat) : Bool :=
  s.port.guards.any (fun g => inBlock (s.slotWord g.1 g.2 0) 8 a)

/-- R155: the class of a word while the map is in force. -/
def State.wordClass (s : State) (a : Nat) : WordClass :=
  let L := s.lay
  if a < 0x40 then .layout
  else if a = 0x40 ∨ a = 0x41 then .service
  else if a = 0x42 ∨ a = 0x43 then .guarded
  else if inBlock L.laneBase 12 a then laneWordClass (laneAt (a - L.laneBase)) ((a - L.laneBase) % 4)
  else if a = L.eventBase + 1 then .snooped .consumer
  else if inBlock L.eventBase (2 + 4 * L.eventSize) a then .guarded
  else if inBlock L.senseBase 32 a || inBlock L.statusBase 96 a then .guarded
  else if h : L.thresholdBase ≤ a ∧ a < L.thresholdBase + 24 then
    .snooped (.threshold ⟨a - L.thresholdBase, by omega⟩)
  else if s.slotGuarded a then .guarded
  else .plain

/-! ### The rotation (R162) -/

/-- R162: the next source in the rotation. -/
def Source.next : Source → Source
  | .fetch => .record
  | .record => .image
  | .image => .fetch

/-- Whether a source has work. -/
def Port.has (p : Port) : Source → Bool
  | .fetch => !p.reads.isEmpty
  | .record => !p.records.isEmpty
  | .image => !p.images.isEmpty

/-- R162: the source that the next part cycle in turn comes from. -/
def Port.turn (p : Port) : Option Source :=
  if p.has p.pointer then some p.pointer
  else if p.has p.pointer.next then some p.pointer.next
  else if p.has p.pointer.next.next then some p.pointer.next.next
  else none

/-- R161, R162: a part cycle of a source has been granted in its turn. -/
def State.passTurn (x : Source) (s : State) : State :=
  { s with port := { s.port with pointer := x.next, hostPassed := false } }

/-! ### What each source serves (R163 to R165) -/

/-- R160, R165, R181: the part writes a word of memory, with good parity. -/
def State.partWrite (addr : Nat) (data : Word) (s : State) : State :=
  { s with port := { s.port with ram := s.port.ram.write addr (.good data) } }

/-- R155, R178: what reaches its end with a Record Queue entry's write. -/
def State.recordReached (role : EntryRole) (s : State) : State :=
  match role with
  | .endTag l slot => { s with port := { s.port with guards := s.port.guards.erase (l, slot) } }
  | .eventValue i true =>
    if s.part = .running ∨ s.part = .draining then { s with events := { s.events with lastSignalled := some i } } else s
  | _ => s

/-- R164: the head entry of the Record Queue is written. -/
def State.writeRecord (s : State) : State :=
  match s.port.records with
  | [] => s
  | e :: es => (({ s with port := { s.port with records := es } }).partWrite e.addr e.data).recordReached e.role

/-- R165: the entry of the Image Set that became dirty earliest is written. -/
def State.writeImage (s : State) : State :=
  match s.port.images with
  | [] => s
  | e :: es => ({ s with port := { s.port with images := es } }).partWrite e.addr e.data

/-- R12, R27: a fetched word goes to its lane; in DRAINING it is discarded. -/
def State.giveLane (l : LaneId) (w : RamWord) (s : State) : State :=
  match (s.lanes.get l).order with
  | some o =>
    if s.part = .running ∧ (s.lanes.get l).state = .fetch then s.setOrder l { o with words := o.words ++ [w] } else s
  | none => s

/-- R172: once the last read of an abandoned start-up has been made, the loader places its new reads. -/
def State.abandonedMade (s : State) : State :=
  if s.part = .loading ∧ s.loader.phase = .abandoned ∧ !s.port.abandonedLeft then s.placeLayoutReads else s

/-- R163: a word read goes to its placer. -/
def State.giveRead (x : Placer) (w : RamWord) (s : State) : State :=
  match x with
  | .lane l => s.giveLane l w
  | .loader => { s with loader := { s.loader with words := s.loader.words ++ [w] } }
  | .abandoned => s.abandonedMade

/-- R163: the oldest read request is made. -/
def State.makeRead (s : State) : State :=
  match s.port.reads with
  | [] => s
  | r :: rs => ({ s with port := { s.port with reads := rs } }).giveRead r.placer (s.port.ram.read r.addr)

/-- R162: one part cycle of a source, in its turn. -/
def State.servePart (x : Source) (s : State) : State :=
  match x with
  | .fetch => (s.passTurn x).makeRead
  | .record => (s.passTurn x).writeRecord
  | .image => (s.passTurn x).writeImage

/-- R164: writes that wait enter the queue as far as places are free, in order. -/
def Port.admitAll (p : Port) : Port :=
  let n := Config.recordQueueSize - p.records.length
  { p with records := p.records ++ p.waiting.take n, waiting := p.waiting.drop n }

/-- Whether a waiting write can enter the queue. -/
def Port.canAdmit (p : Port) : Bool := !p.waiting.isEmpty && decide (p.records.length < Config.recordQueueSize)

/-- R162: whether the next part cycle is one of a source, in its turn: no flush is owed, and every waiting write has
taken the place that was free for it (R164). -/
def State.turnOf (s : State) (x : Source) : Bool :=
  s.port.held.isNone && !s.port.canAdmit && s.port.turn == some x

/-- FETCH_READ_DONE (R163). -/
def execFetchReadDone (s : State) : Host.Outcome State Fault Refusal :=
  .next (if s.turnOf .fetch then s.servePart .fetch else s)

/-- RECORD_QUEUE_WRITE (R164). -/
def execRecordQueueWrite (s : State) : Host.Outcome State Fault Refusal :=
  .next (if s.turnOf .record then s.servePart .record else s)

/-- IMAGE_SET_WRITE (R165). -/
def execImageSetWrite (s : State) : Host.Outcome State Fault Refusal :=
  .next (if s.turnOf .image then s.servePart .image else s)

/-! ### Waiting writes (R164) -/

/-- R164: the first waiting write enters the queue. -/
def Port.admitOne (p : Port) : Port :=
  match p.waiting with
  | [] => p
  | e :: es => { p with records := p.records ++ [e], waiting := es }

/-- WAITING_WRITE_ENTERS_QUEUE (R164). -/
def execWaitingWriteEntersQueue (s : State) : Host.Outcome State Fault Refusal :=
  .next (if s.port.canAdmit then { s with port := s.port.admitOne } else s)

/-- R164: every waiting write that finds a place has entered the queue. -/
def State.admitWaiting (s : State) : State := { s with port := s.port.admitAll }

/-! ### Held reads (R166) -/

/-- R166: the entries owed for a word: from the head of the queue up to and including the last write for it, a waiting
write counted at the place it takes. -/
def Port.recordsOwed (p : Port) (a : Nat) : Nat :=
  let xs := p.records ++ p.waiting
  let after := (xs.reverse.takeWhile (fun e => e.addr != a)).length
  xs.length - after

/-- R166: whether the word has an Image Set entry. -/
def Port.imageOwed (p : Port) (a : Nat) : Bool := p.images.any (fun e => e.addr == a)

/-- R166: whether a word has a pending part write. -/
def Port.pendingWrite (p : Port) (a : Nat) : Bool := p.imageOwed a || decide (0 < p.recordsOwed a)

/-- R166: whether a flush is owed to a held read. -/
def HeldRead.owes (h : HeldRead) : Bool := h.imageOwed || decide (0 < h.recordsOwed)

/-- R161: a part cycle granted as a flush clears the host-passed mark and leaves the pointer. -/
def State.flushGranted (h : HeldRead) (s : State) : State :=
  { s with port := { s.port with hostPassed := false, held := some h } }

/-- R166: the Image Set entry of the word is written out of its turn. -/
def State.flushImage (h : HeldRead) (s : State) : State :=
  let s := s.flushGranted { h with imageOwed := false }
  match s.port.images.find? (fun e => e.addr == h.addr) with
  | some e =>
    ({ s with port := { s.port with images := s.port.images.filter (fun x => x.addr != h.addr) } }).partWrite e.addr e.data
  | none => s

/-- R166: the head of the Record Queue is written as a flush; a waiting write takes the place it frees. -/
def State.flushRecord (h : HeldRead) (s : State) : State :=
  (s.flushGranted { h with recordsOwed := h.recordsOwed - 1 }).admitWaiting.writeRecord.admitWaiting

/-- R166: the next flush owed. -/
def State.flush (h : HeldRead) (s : State) : State :=
  if h.imageOwed then s.flushImage h else if 0 < h.recordsOwed then s.flushRecord h else s

/-- READ_FLUSH_WRITE (R166). -/
def execReadFlushWrite (s : State) : Host.Outcome State Fault Refusal :=
  .next (match s.port.held with
    | some h => s.flush h
    | none => s)

/-- R159, R166: a host read is forwarded: the RAM's word goes to the host, and bad parity raises BUS_PARITY. -/
def State.forwardRead (a : Nat) (s : State) : State :=
  let w := s.port.ram.read a
  let s := { s with port := { s.port with lastRead := some (a, w) } }
  if w.parityOk then s else s.emit { kind := .busParity, qualifier := 1, subject := w16 a, value := w.data }

/-- R161: the host cycle is granted: the mark is set while a part cycle waits. -/
def State.hostGranted (s : State) : State :=
  { s with port := { s.port with hostPassed := s.port.hostPassed || s.port.partWaiting } }

/-- R166: the held read is granted once its last flush has been written. -/
def State.grantHeld (h : HeldRead) (s : State) : State :=
  (({ s with port := { s.port with held := none } }).hostGranted).forwardRead h.addr

/-- HELD_READ_GRANTED (R166). -/
def execHeldReadGranted (s : State) : Host.Outcome State Fault Refusal :=
  .next (match s.port.held with
    | some h => if h.owes then s else s.grantHeld h
    | none => s)

/-! ### Host cycles and the arbiter (R161, R166) -/

/-- What the part's own cycles of the memory port have brought to its end is taken before a host cycle that comes behind
them (log 10): draining (R167), the layout read (R169), the threshold read and the initial writes (R170), a lane's fetch
(R13). -/
def State.settlePort (s : State) : State :=
  s.finishDraining.finishLayoutRead.finishThresholdRead.finishInitialWrites.each allLanes State.finishFetch

/-- The record flushes owed to a held read, `n` of them, each with what it brings to its end. -/
def State.flushAll : Nat → State → State
  | 0, s => s
  | n + 1, s =>
    match s.port.held with
    | some h => State.flushAll n (s.flushRecord h).settlePort
    | none => s

/-- R161, R166: before a new host cycle the host's own held read comes to its end (log 10). -/
def State.finishHeld (s : State) : State :=
  match s.port.held with
  | none => s
  | some h =>
    let s := if h.imageOwed then (s.flushImage h).settlePort else s
    (s.flushAll h.recordsOwed).grantHeld { h with imageOwed := false, recordsOwed := 0 }

/-- R161: with the mark set and a part cycle waiting, one part cycle goes before the host cycle, with what it brings to
its end (log 10). -/
def State.yieldPort (s : State) : State :=
  if s.port.hostPassed then
    match s.port.turn with
    | some x => (s.servePart x).admitWaiting.settlePort
    | none => s
  else s

/-- R161, R164: the state in which a new host cycle arrives: the writes that find a place have taken it, what the port has
brought to its end is taken, and the host's own held read has come to its end. -/
def State.atArrival (s : State) : State := s.admitWaiting.settlePort.finishHeld

/-- R161: the state in which the arbiter grants a new host cycle: a part cycle has gone first where it must. -/
def State.atGrant (s : State) : State := s.atArrival.yieldPort.hostGranted

/-- R166: a host read is held, with the flushes owed to it. -/
def State.holdRead (a : Nat) (s : State) : State :=
  { s with port := { s.port with
      held := some { addr := a, imageOwed := s.port.imageOwed a, recordsOwed := s.port.recordsOwed a } } }

/-- R159, R166: a host read. Whether it is held is settled as it arrives: one that finds no pending write then is not held
beyond the one part cycle of R161. -/
def State.hostReadAt (a : Nat) (s : State) : State :=
  let s := s.atArrival
  if s.port.pendingWrite a then s.holdRead a
  else s.yieldPort.hostGranted.forwardRead a

/-- HOST_READ (R159). -/
def execHostRead (addr : Word) (s : State) : Host.Outcome State Fault Refusal := .next (s.hostReadAt addr.toNat)

/-- HOST_READ_HELD (R166). -/
def execHostReadHeld (addr : Word) (s : State) : Host.Outcome State Fault Refusal := .next (s.hostReadAt addr.toNat)

end Sys2Proof.Machine
end

