-- ==== Sys2Proof/Machine/HostWrites.lean ====
section
/-! DEFINITION. Host writes (R155 to R159, R171, R176) and the rows that are host writes to a word of their own. -/

namespace Sys2Proof.Machine

/-- R155: a host write is forwarded to the RAM with the parity it came with. -/
def State.forwardWrite (a : Nat) (w : RamWord) (s : State) : State :=
  { s with port := { s.port with ram := s.port.ram.write a w } }

/-- R159: the event of a host write that came with bad parity. -/
def busParityWrite (a : Nat) (w : RamWord) : Event :=
  { kind := .busParity, qualifier := 2, subject := w16 a, value := w.data }

/-! ### The owners (R157) -/

/-- R5: a good-parity write to a producer word. -/
def State.writeProducer (l : LaneId) (a : Nat) (w : RamWord) (s : State) : State :=
  if s.producerAccepted l w.data.toNat then (s.forwardWrite a w).takeProducer l w.data.toNat
  else s.emit { kind := .laneWriteRefused, subject := w16 l.index, value := w.data }

/-- R6: a good-parity code at a lane command word: taken with a write-back of 0, or refused. -/
def State.writeCommand (l : LaneId) (code : Word) (s : State) : State :=
  if code = 0 then s
  else
    match s.laneCommand l code.toNat with
    | some t => t.offer (t.laneWord l 1) 0
    | none => s.emit { kind := .laneWriteRefused, subject := w16 (l.index + 32768), value := code }

/-- R171: the commands but RESTART, by code; none when refused. -/
def State.serviceHandler (s : State) (code : Nat) : Option State :=
  match code with
  | 2 => some s.commandScanStart
  | 3 => some s.commandScanStop
  | 4 => s.commandSpotRead
  | 5 => some (s.purgeTrigger .service)
  | 6 => s.commandClearJam
  | 7 => some s.commandClearBlowerFail
  | _ => none

/-- R171, R172: a good-parity code at 0x0040 in RUNNING: taken with a write-back of 0, or refused. That the write-back of
codes 2 to 7 follows the writes that their handler queues is the model's choice (log 41). -/
def State.writeService (code : Word) (s : State) : State :=
  if code = 0 then s
  else if code = 1 then s.commandRestart.getD s
  else
    match s.serviceHandler code.toNat with
    | some t => t.writeBackService
    | none => s.emit { kind := .serviceRefused, subject := code, value := s.serviceArg }

/-- The distance from the consumer index to a record index. -/
def State.fromConsumer (s : State) (i : Nat) : Nat := (i + s.lay.eventSize - s.events.consumer) % s.lay.eventSize

/-- R178, log 23: an entry whose record the consumer passes never signals. -/
def unsignal (passed : Nat → Bool) (e : RecordEntry) : RecordEntry :=
  match e.role with
  | .eventValue i true => if passed i then { e with role := .eventValue i false } else e
  | _ => e

/-- R176: the consumer index advances; a passed last-signalled record leaves none (R178). -/
def State.advanceConsumer (v : Nat) (s : State) : State :=
  let n := s.fromConsumer v
  let passed := fun i => decide (s.fromConsumer i < n)
  { s with
    port := { s.port with records := s.port.records.map (unsignal passed), waiting := s.port.waiting.map (unsignal passed) }
    events := { s.events with
      consumer := v
      lastSignalled := match s.events.lastSignalled with
        | some i => if passed i then none else some i
        | none => none } }

/-- R176: an advance with a nonzero overrun count appends OVERRUN and clears the count. -/
def State.reportOverrun (s : State) : State :=
  if 0 < s.events.overrun then
    ({ s with events := { s.events with overrun := 0 } }).emit
      { kind := .overrun, subject := 0, value := w16 s.events.overrun }
  else s

/-- R176: whether a consumer value is taken. -/
def State.consumerTaken (s : State) (v : Nat) : Bool :=
  decide (v < s.lay.eventSize) && decide (s.fromConsumer v ≤ s.unread)

/-- R176: a good-parity write to the event consumer word. -/
def State.writeConsumer (a : Nat) (w : RamWord) (s : State) : State :=
  let v := w.data.toNat
  if s.consumerTaken v then
    let t := (s.forwardWrite a w).advanceConsumer v
    if 0 < s.fromConsumer v then t.reportOverrun else t
  else s.emit { kind := .eventConsumerRefused, subject := w.data, value := w16 s.events.consumer }

/-- R157: a good-parity write to a SNOOPED word is handed to its owner. -/
def State.handSnooped (owner : SnoopOwner) (a : Nat) (w : RamWord) (s : State) : State :=
  match owner with
  | .producer l => s.writeProducer l a w
  | .command l => (s.forwardWrite a w).writeCommand l w.data
  | .consumer => s.writeConsumer a w
  | .threshold i => (s.forwardWrite a w).takeThreshold i w.data

/-- R157, R171: a good-parity write to a SERVICE word. -/
def State.handService (a : Nat) (w : RamWord) (s : State) : State :=
  let s := s.forwardWrite a w
  if a = 0x40 then s.writeService w.data else { s with serviceArg := w.data }

/-! ### Host writes by part state (R155 to R159) -/

/-- A host write in RUNNING. -/
def State.writeRunning (a : Nat) (w : RamWord) (s : State) : State :=
  match s.wordClass a with
  | .guarded => s.emit { kind := .trespass, subject := w16 a, value := w.data }
  | .plain | .layout =>
    if w.parityOk then s.forwardWrite a w else (s.forwardWrite a w).emit (busParityWrite a w)
  | .service => if w.parityOk then s.handService a w else (s.forwardWrite a w).emit (busParityWrite a w)
  | .snooped o => if w.parityOk then s.handSnooped o a w else (s.forwardWrite a w).emit (busParityWrite a w)

/-- R156, R171: a host write in LOADING and FAULT. -/
def State.writeStarting (a : Nat) (w : RamWord) (s : State) : State :=
  let t := s.forwardWrite a w
  if a = 0x40 ∧ w.parityOk ∧ w.data = 1 then t.commandRestart.getD t else t

/-- R155 to R159: the treatment of a host write that the arbiter has granted. -/
def State.writeGranted (a : Nat) (w : RamWord) (s : State) : State :=
  match s.part with
  | .reset => s.forwardWrite a w
  | .loading => s.writeStarting a w
  | .fault => if a = 0x42 ∨ a = 0x43 then s else s.writeStarting a w
  | .running => s.writeRunning a w
  | .draining => if s.wordClass a = .guarded then s else s.forwardWrite a w

/-- A host write. -/
def State.hostWriteAt (a : Nat) (w : RamWord) (s : State) : State := s.atGrant.writeGranted a w

/-- A host write, with good parity, to a word that the latched layout places (log 28). -/
def State.hostWritePlaced (a : Layout → Nat) (v : Word) (s : State) : State :=
  match s.layout with
  | some L => s.hostWriteAt (a L) (.good v)
  | none => s

/-- A host write, with good parity, to word `offset` of a lane's control words. -/
def State.hostWriteLane (l : LaneId) (offset : Nat) (v : Word) (s : State) : State :=
  s.hostWritePlaced (fun L => L.laneBase + 4 * l.index + offset) v

/-! ### The rows -/

/-- HOST_WRITE (R155). -/
def execHostWrite (addr : Word) (word : RamWord) (s : State) : Host.Outcome State Fault Refusal :=
  .next (s.hostWriteAt addr.toNat word)

/-- TRESPASS (R158). -/
def execTrespass (addr : Word) (word : RamWord) (s : State) : Host.Outcome State Fault Refusal :=
  .next (s.hostWriteAt addr.toNat word)

/-- PRODUCER_WRITE (R5). -/
def execProducerWrite (l : LaneId) (value : Word) (s : State) : Host.Outcome State Fault Refusal :=
  .next (s.hostWriteLane l 0 value)

/-- START (R7). -/
def execStart (l : LaneId) (s : State) : Host.Outcome State Fault Refusal := .next (s.hostWriteLane l 1 1)

/-- STOP_AFTER (R8). -/
def execStopAfter (l : LaneId) (s : State) : Host.Outcome State Fault Refusal := .next (s.hostWriteLane l 1 2)

/-- ABORT (R9). -/
def execAbort (l : LaneId) (s : State) : Host.Outcome State Fault Refusal := .next (s.hostWriteLane l 1 3)

/-- FLUSH (R10). -/
def execFlush (l : LaneId) (s : State) : Host.Outcome State Fault Refusal := .next (s.hostWriteLane l 1 4)

/-- LANE_COMMAND_UNKNOWN (R6). -/
def execLaneCommandUnknown (l : LaneId) (code : Word) (s : State) : Host.Outcome State Fault Refusal :=
  .next (s.hostWriteLane l 1 code)

/-- THRESHOLD_WRITE (R111). -/
def execThresholdWrite (i : Fin 24) (value : Word) (s : State) : Host.Outcome State Fault Refusal :=
  .next (s.hostWritePlaced (fun L => L.thresholdBase + i.val) value)

/-- EVENT_CONSUMER_WRITE (R176). -/
def execEventConsumerWrite (value : Word) (s : State) : Host.Outcome State Fault Refusal :=
  .next (s.hostWritePlaced (fun L => L.eventBase + 1) value)

/-- A host write, with good parity, of a code to the service command word 0x0040. -/
def State.hostWriteService (code : Word) (s : State) : State := s.hostWriteAt 0x40 (.good code)

/-- RESTART (R172). -/
def execRestart (s : State) : Host.Outcome State Fault Refusal := .next (s.hostWriteService 1)

/-- SCAN_START (R102). -/
def execScanStart (s : State) : Host.Outcome State Fault Refusal := .next (s.hostWriteService 2)

/-- SCAN_STOP (R101). -/
def execScanStop (s : State) : Host.Outcome State Fault Refusal := .next (s.hostWriteService 3)

/-- SPOT_READ (R103). -/
def execSpotRead (s : State) : Host.Outcome State Fault Refusal := .next (s.hostWriteService 4)

/-- PURGE_REQUEST (R74). -/
def execPurgeRequest (s : State) : Host.Outcome State Fault Refusal := .next (s.hostWriteService 5)

/-- CLEAR_JAM (R139). -/
def execClearJam (s : State) : Host.Outcome State Fault Refusal := .next (s.hostWriteService 6)

/-- CLEAR_BLOWER_FAIL (R146). -/
def execClearBlowerFail (s : State) : Host.Outcome State Fault Refusal := .next (s.hostWriteService 7)

/-- SERVICE_CODE_UNKNOWN (R171). -/
def execServiceCodeUnknown (code : Word) (s : State) : Host.Outcome State Fault Refusal := .next (s.hostWriteService code)

/-- SERVICE_ARGUMENT_WRITE (R171). -/
def execServiceArgumentWrite (value : Word) (s : State) : Host.Outcome State Fault Refusal :=
  .next (s.hostWriteAt 0x41 (.good value))

end Sys2Proof.Machine
end

