-- ==== Sys2Proof/Machine/Dispatch.lean ====
section
/-! DEFINITION. One arm for each command: its meaning. -/

namespace Sys2Proof.Machine

/-- The command's effect on everything but the queue. -/
def exec (i : Instr) (s : State) : Host.Outcome State Fault Refusal :=
  match i with
  | .reset => Sys2Proof.Machine.execReset s
  | .resetReleased => Sys2Proof.Machine.execResetReleased s
  | .layoutReadComplete => Sys2Proof.Machine.execLayoutReadComplete s
  | .thresholdReadComplete => Sys2Proof.Machine.execThresholdReadComplete s
  | .runningEntry => Sys2Proof.Machine.execRunningEntry s
  | .drainingComplete => Sys2Proof.Machine.execDrainingComplete s
  | .tagClockTick => Sys2Proof.Machine.execTagClockTick s
  | .producerWrite lane value => Sys2Proof.Machine.execProducerWrite lane value s
  | .start lane => Sys2Proof.Machine.execStart lane s
  | .stopAfter lane => Sys2Proof.Machine.execStopAfter lane s
  | .abort lane => Sys2Proof.Machine.execAbort lane s
  | .flush lane => Sys2Proof.Machine.execFlush lane s
  | .laneCommandUnknown lane code => Sys2Proof.Machine.execLaneCommandUnknown lane code s
  | .fetchReadDone => Sys2Proof.Machine.execFetchReadDone s
  | .orderFetchComplete lane => Sys2Proof.Machine.execOrderFetchComplete lane s
  | .settleTimerExpiry lane => Sys2Proof.Machine.execSettleTimerExpiry lane s
  | .dwellTimerExpiry lane => Sys2Proof.Machine.execDwellTimerExpiry lane s
  | .inletHoldDownExpiry inlet => Sys2Proof.Machine.execInletHoldDownExpiry inlet s
  | .purgeRequest => Sys2Proof.Machine.execPurgeRequest s
  | .purgeTimerExpiry => Sys2Proof.Machine.execPurgeTimerExpiry s
  | .conversionComplete result => Sys2Proof.Machine.execConversionComplete result s
  | .scanPeriodElapsed => Sys2Proof.Machine.execScanPeriodElapsed s
  | .scanStop => Sys2Proof.Machine.execScanStop s
  | .scanStart => Sys2Proof.Machine.execScanStart s
  | .spotRead => Sys2Proof.Machine.execSpotRead s
  | .thresholdWrite index value => Sys2Proof.Machine.execThresholdWrite index value s
  | .rawLevelChange input active => Sys2Proof.Machine.execRawLevelChange input active s
  | .debounceTimerExpiry input => Sys2Proof.Machine.execDebounceTimerExpiry input s
  | .pressTimerExpiry => Sys2Proof.Machine.execPressTimerExpiry s
  | .movingPlannedEnd damper => Sys2Proof.Machine.execMovingPlannedEnd damper s
  | .seatingTimeOut damper => Sys2Proof.Machine.execSeatingTimeOut damper s
  | .stall damper => Sys2Proof.Machine.execStall damper s
  | .homingLimit damper => Sys2Proof.Machine.execHomingLimit damper s
  | .clearJam => Sys2Proof.Machine.execClearJam s
  | .tachPulse => Sys2Proof.Machine.execTachPulse s
  | .tachTimeout => Sys2Proof.Machine.execTachTimeout s
  | .blowerWatchExpiry => Sys2Proof.Machine.execBlowerWatchExpiry s
  | .clearBlowerFail => Sys2Proof.Machine.execClearBlowerFail s
  | .stageUpTimerExpiry => Sys2Proof.Machine.execStageUpTimerExpiry s
  | .restoreTimerExpiry => Sys2Proof.Machine.execRestoreTimerExpiry s
  | .hostWrite addr word => Sys2Proof.Machine.execHostWrite addr word s
  | .trespass addr word => Sys2Proof.Machine.execTrespass addr word s
  | .serviceArgumentWrite value => Sys2Proof.Machine.execServiceArgumentWrite value s
  | .serviceCodeUnknown code => Sys2Proof.Machine.execServiceCodeUnknown code s
  | .restart => Sys2Proof.Machine.execRestart s
  | .eventConsumerWrite value => Sys2Proof.Machine.execEventConsumerWrite value s
  | .recordQueueWrite => Sys2Proof.Machine.execRecordQueueWrite s
  | .waitingWriteEntersQueue => Sys2Proof.Machine.execWaitingWriteEntersQueue s
  | .imageSetWrite => Sys2Proof.Machine.execImageSetWrite s
  | .hostReadHeld addr => Sys2Proof.Machine.execHostReadHeld addr s
  | .readFlushWrite => Sys2Proof.Machine.execReadFlushWrite s
  | .heldReadGranted => Sys2Proof.Machine.execHeldReadGranted s
  | .hostRead addr => Sys2Proof.Machine.execHostRead addr s

end Sys2Proof.Machine
end

