-- ==== Sys2Proof/Machine/Step.lean ====
section
/-! DEFINITION. One step: the command at the front of the queue, or one millisecond on an empty queue (log 1). -/

namespace Sys2Proof.Machine

/-- Whether an occurrence of a lane has come due. -/
def State.laneDue (s : State) (l : LaneId) : Bool :=
  (s.lanes.get l).fetchReturned || (s.lanes.get l).settleDue || (s.lanes.get l).dwellDue

/-- Whether an occurrence of a damper has come due. -/
def State.damperDue (s : State) (d : Fin 8) : Bool :=
  s.planEnded d .moving || s.planEnded d .seating || s.planEnded d .homing

/-- Whether an occurrence of a block in RUNNING has come due. -/
def State.runningDue (s : State) : Bool :=
  s.tickDue || allLanes.any s.laneDue || s.holdDownDue .roof || s.holdDownDue .bumper || s.purge.timerDue ||
    s.conversionDue || s.scanPeriodDue || allSwitches.any (fun i => s.reached (s.switch i).debounce) ||
    s.reached s.switches.pressDeadline || allDampers.any s.damperDue || s.tachDue || s.watchDue ||
    s.reached s.heat.stageUpTimer || s.restoreDue

/-- Whether an occurrence that the rules bring about by themselves has come due and not yet been taken (log 2). -/
def State.due (s : State) : Bool :=
  s.loaderReturned .layout 64 || s.loaderReturned .thresholds 24 || s.runningReady ||
    (s.part == .draining && s.port.drained) || (s.part == .running && s.runningDue) || s.port.canAdmit ||
    (match s.port.held with | some h => !h.owes | none => false)

/-- The empty queue: 1 ms passes, unless an occurrence is due (logs 1, 2). -/
def State.idle (s : State) : State := if s.due then s else { s with now := s.now + 1 }

/-- One step of the block. -/
def step (s : State) : Host.Outcome State Fault Refusal :=
  match s.pending with
  | [] => .next s.idle
  | c :: cs => exec c { s with pending := cs }

/-- The state with the command that a word spells by the table's bits put at the front of the queue; unchanged where the
word spells none. -/
def State.withFetchWord (s : State) (nbits w : Nat) : State :=
  match decodeTableWord nbits w with
  | some c => { s with pending := c :: s.pending }
  | none => s

end Sys2Proof.Machine
end

