-- ==== Sys2Proof/Safety.lean ====
section
/-! DEFINITION. What every run of the block keeps, in the terms that statements use: each is a rule of the spec about the
whole machine, or the model's own canonical form. -/

namespace Sys2Proof.Machine

/-- The climate RAM stands in its canonical form (log 4). -/
def State.ramCanonical (s : State) : Prop := Memory.wf s.port.ram = true

/-- R164: the Record Queue holds at most 32 entries. R165: the Image Set holds at most one entry per word. -/
def State.queuesBounded (s : State) : Prop :=
  s.port.records.length ≤ 32 ∧ (s.port.images.map ImageEntry.addr).Nodup

/-- R52: the Hold Table never holds two holds of the same kind and subject. -/
def State.holdsDistinct (s : State) : Prop := (s.holds.map HoldRecord.key).Nodup

/-- R53: the Hold Table is empty outside RUNNING, and the hold records there (R51) carry a phase exactly for PURGE. -/
def State.holdsOnlyRunning (s : State) : Prop := s.part ≠ .running → s.holds = []

/-- R28: the ROOF, BUMPER and RECIRC openings sum to 100; the layout in force keeps the range that this rests on. -/
def State.sourceWhole (s : State) : Prop :=
  s.governor.mix.roof + s.governor.mix.bumper + s.governor.mix.recirc = 100 ∧
    ∀ L, s.layout = some L → L.minFresh ≤ 100

/-- R133: no more dampers than the motion grants are MOVING, SEATING or HOMING at once; none outside RUNNING (R129). -/
def State.grantsBounded (s : State) : Prop :=
  (s.part = .running → s.grantsInUse ≤ s.lay.motionGrants) ∧ (s.part ≠ .running → s.grantsInUse = 0)

/-- R148: the energised stages never exceed the allowed count, and are 0 while HEAT_SHED, ENGINE_OFF or BLOWER_FAIL is
held; the unit's hold view follows the table (R56). -/
def State.stagesBounded (s : State) : Prop :=
  s.part = .running →
    s.heat.energised ≤ s.heat.allowed ∧
      s.heat.seesShed = s.hasHold .heatShed ∧ s.heat.seesEngineOff = s.hasHold .engineOff ∧
      s.heat.seesBlowerFail = s.hasHold .blowerFail ∧
      (s.hasHold .heatShed ∨ s.hasHold .engineOff ∨ s.hasHold .blowerFail → s.heat.energised = 0)

/-- The five door inputs of R119. -/
def doorInputs : List (SwitchId × Door) :=
  [(.doorFL, .fl), (.doorFR, .fr), (.doorCL, .cl), (.doorCR, .cr), (.hatch, .hatch)]

/-- R123: the open set holds exactly the door inputs whose accepted level is OPEN. R72: the purge's door view follows it.
R78: in RUN, SCRUB and VERIFY every door and the hatch are accepted closed. -/
def State.doorsAgree (s : State) : Prop :=
  s.part = .running →
    (∀ x ∈ doorInputs, s.switches.openSet.get x.2.index = (s.switch x.1).accepted) ∧
      (s.purge.doorOpen = true ↔ s.switches.openCount ≠ 0) ∧
      (s.purge.state = .run ∨ s.purge.state = .scrub ∨ s.purge.state = .verify → s.purge.doorOpen = false)

/-- R2, R11: a lane has an active order exactly in FETCH, SETTLE, DWELL and CHECK, in the slot at its consumer index;
its fields are latched once it has started (R14). -/
def Lane.orderAgrees (x : Lane) : Prop :=
  match x.order with
  | some o =>
    o.slot = x.consumer ∧
      (x.state = .fetch ∨ ((x.state = .settle ∨ x.state = .dwell ∨ x.state = .check) ∧ o.fields.isSome = true))
  | none => x.state = .disabled ∨ x.state = .stopped ∨ x.state = .idle

/-- R2, R11: every lane's active order agrees with its state, in RUNNING. -/
def State.ordersAgree (s : State) : Prop := s.part = .running → ∀ l, (s.lanes.get l).orderAgrees

/-- R132: a damper is WAITING exactly when it is in the Motion Queue, in which it has one entry, in RUNNING. -/
def State.motionAgrees (s : State) : Prop :=
  s.part = .running →
    (s.drive.queue.map MotionEntry.damper).Nodup ∧
      ∀ d, (s.damper d).state = .waiting ↔ d ∈ s.drive.queue.map MotionEntry.damper

/-- R97: no two spot entries have the same channel. R99, R100: the scanner is in SPOT exactly while the Spot Queue is not
empty, and there the head entry alone is under conversion. R95: a scan in SCANNING has a conversion under way. -/
def State.spotsAgree (s : State) : Prop :=
  s.part = .running →
    (s.scanner.queue.map SpotEntry.channel).Nodup ∧
      (s.scanner.state = .spot ↔ s.scanner.queue ≠ []) ∧
      (∀ e ∈ s.scanner.queue.head?, e.served.isSome = true) ∧
      (∀ e ∈ s.scanner.queue.tail, e.served = none) ∧
      (s.scanner.state = .scanning → s.scanner.conversion.isSome = true)

/-- R168, R169: a layout in force has passed the start-up tests; one is latched from the threshold read on. -/
def State.layoutSound (s : State) : Prop :=
  (∀ L, s.layout = some L → L.regionsOk = true ∧ L.rangesOk = true ∧ L.scanListOk = true ∧ L.ranksOk = true) ∧
    (s.part = .running ∨ s.part = .draining ∨
        (s.part = .loading ∧ (s.loader.phase = .thresholds ∨ s.loader.phase = .writes)) →
      s.layout.isSome = true)

/-- R2, R174: the lanes' indices and the event ring's stay inside their rings, in RUNNING. -/
def State.indexesBounded (s : State) : Prop :=
  s.part = .running →
    (∀ l, s.ringSize l ≠ 0 → (s.lanes.get l).consumer < s.ringSize l ∧ (s.lanes.get l).mirror < s.ringSize l) ∧
      s.events.producer < s.lay.eventSize ∧ s.events.consumer < s.lay.eventSize

/-- R30, R31: in RUNNING the Mix Record and the chosen source are those that the Governor's latest view gives. -/
def State.mixCurrent (s : State) : Prop :=
  s.part = .running → s.nextMix none = (s.governor.mix, s.governor.chosen)

/-- R61: in RUNNING the PURGE hold stands exactly while the purge is not IDLE, and its phase is the purge state. -/
def State.purgeHeld (s : State) : Prop :=
  s.part = .running →
    (s.hasHold .purge = true ↔ s.purge.state ≠ .idle) ∧
      ∀ r, s.holdRecord .purge = some r → r.phase = some s.purge.state

/-! ### The memory port -/

/-- R161: the memory port is free for a host cycle: the host waits on no read of its own, the host-passed mark is clear,
and no write waits for room. -/
def State.portFree (s : State) : Prop :=
  s.port.held = none ∧ s.port.hostPassed = false ∧ s.port.waiting = []

/-- R13, R110, R167, R169, R170: nothing that cycles of the memory port bring to its end has come to it untaken: neither
draining, nor the layout read, nor the threshold read, nor the initial writes, nor the fetch of a lane. -/
def State.portSettled (s : State) : Prop :=
  ¬ (s.part = .draining ∧ s.port.drained = true) ∧
    ¬ (s.part = .loading ∧ s.loader.phase = .layout ∧ s.loader.words.length = 64) ∧
    ¬ (s.part = .loading ∧ s.loader.phase = .thresholds ∧ s.loader.words.length = 24) ∧
    ¬ (s.part = .loading ∧ s.loader.phase = .writes ∧ s.port.initialLeft = false) ∧
    (s.part = .running → ∀ l, (s.lanes.get l).fetchReturned = false)

/-- Log 10: `t` is `s` with one thing taken that the memory port has brought to its end. -/
def State.PortTakes (s t : State) : Prop :=
  s.port.canAdmit = false ∧ t.port.canAdmit = false ∧
    ∃ c, exec c s = .next t ∧
      (c = .drainingComplete ∨ c = .layoutReadComplete ∨ c = .thresholdReadComplete ∨ c = .runningEntry ∨
        ∃ l, c = .orderFetchComplete l ∧ ∀ m, m ≠ l → (s.lanes.get m).fetchReturned = false)

/-- R161, R162: with the host-passed mark set, `t` is `s` with the part cycle made whose turn it is. -/
def State.PortYields (s t : State) : Prop :=
  s.portSettled ∧ s.port.canAdmit = false ∧ s.port.held = none ∧ s.port.hostPassed = true ∧ t.port.hostPassed = false ∧
    ∃ c, exec c s = .next t ∧ (c = .fetchReadDone ∨ c = .recordQueueWrite ∨ c = .imageSetWrite)

/-- R164: the writes offered to the Record Queue and not yet made, in order, those that wait for room last. -/
def Port.writes (p : Port) : List RecordEntry := p.records ++ p.waiting

/-! ### Words of the statements -/

/-- R155, R169: in RUNNING the Window Map is in force, by a layout whose regions have passed their test. -/
def State.takesHost (s : State) (L : Layout) : Prop :=
  s.layout = some L ∧ L.regionsOk = true ∧ s.part = .running

/-- R168, R167, R169: `t` is `s` as it enters LOADING. -/
structure LoadingEntered (s t : State) : Prop where
  part : t.part = .loading
  reason : t.faultReason = none
  layout : t.layout = none
  argument : t.serviceArg = 0
  writes : t.port.writes = s.port.writes ++ [⟨0x42, 1, .plain⟩, ⟨0x43, 0, .plain⟩]
  reads : if s.port.abandonedLeft
    then t.port.reads = s.port.reads ∧ t.loader = ⟨.abandoned, []⟩
    else t.port.reads = s.port.reads ++ (List.range 64).map (fun a => ⟨a, .loader⟩) ∧ t.loader = ⟨.layout, []⟩
  port : t.port.guards = [] ∧ t.port.hostPassed = false ∧ t.port.pointer = .fetch ∧ t.port.ram = s.port.ram ∧
    t.port.images = s.port.images ∧ t.port.held = s.port.held ∧ t.port.lastRead = s.port.lastRead
  blocks : t.lanes = ⟨.reset, .reset, .reset⟩ ∧ t.grader = .reset ∧ t.switches = s.switches.rest ∧
    t.governor = s.governor ∧ t.holds = s.holds ∧ t.purge = s.purge ∧ t.scanner = s.scanner ∧ t.drive = s.drive ∧
    t.heat = s.heat
  writer : t.events.producer = 0 ∧ t.events.consumer = 0 ∧ t.events.overrun = 0 ∧ t.events.lastSignalled = none ∧
    t.events.lamp = .off ∧ t.interruptLine = false
  model : t.pending = s.pending ∧ t.now = s.now ∧ t.freeIndex = s.freeIndex

/-- R22: the three writes that an order's end queues, in their order. -/
def State.endWrites (s : State) (l : LaneId) (o : ActiveOrder) (code : Completion) : List RecordEntry :=
  [⟨s.slotWord l o.slot 5, slotStatusWord code o.flags o.retries, .plain⟩,
   ⟨s.slotWord l o.slot 7, s.tagClock, .endTag l o.slot⟩,
   ⟨s.laneWord l 2, w16 (((s.lanes.get l).consumer + 1) % s.ringSize l), .plain⟩]

/-- R22, R23: the lane that an order's end leaves, STOPPED where `stops`, else in FETCH of the next slot or IDLE. -/
def Lane.afterEnd (x : Lane) (size rest : Nat) (stops : Bool) : Lane :=
  let next := (x.consumer + 1) % size
  if stops then
    { x with state := .stopped, consumer := next, stopPending := false, order := none, carried := .rest rest }
  else if next ≠ x.mirror then { x with state := .fetch, consumer := next, order := some (.fresh next) }
  else { x with state := .idle, consumer := next, order := none, carried := .rest rest }

/-- R6: LANE_WRITE_REFUSED for the command word of a lane. -/
def commandRefused (l : LaneId) (code : Word) : Event :=
  { kind := .laneWriteRefused, subject := w16 (l.index + 32768), value := code }

/-- R70, R73: a purge record that enters RUN or SCRUB as the inlets that `s` allows give, with times in seconds. -/
structure EntersFlow (s : State) (run scrub : Nat) (p : Purge) : Prop where
  preferred : s.purgeAllows s.lay.preferred = true →
    p.state = .run ∧ p.inlet = some s.lay.preferred ∧ p.remaining = some (10 * run)
  other : s.purgeAllows s.lay.preferred = false → s.purgeAllows s.lay.preferred.other = true →
    p.state = .run ∧ p.inlet = some s.lay.preferred.other ∧ p.remaining = some (10 * run)
  neither : s.purgeAllows s.lay.preferred = false → s.purgeAllows s.lay.preferred.other = false →
    p.state = .scrub ∧ p.inlet = none ∧ p.remaining = some (10 * scrub)

/-- R35: the three tests of an inlet. -/
def State.InletAllowed (s : State) (i : Inlet) : Prop :=
  s.hasHold (.inletBarred i) = false ∧ (s.governor.view.inlet i).jammed = false ∧
    (s.governor.view.inlet i).estimate ≠ none

/-- R36, R38, R39: `c` opens the first inlet if allowed, else the other if allowed, and else is RECIRC. -/
structure OpensFirst (s : State) (i : Inlet) (c : ChosenSource) : Prop where
  first : s.InletAllowed i → c = .ofInlet (some i)
  other : ¬ s.InletAllowed i → s.InletAllowed i.other → c = .ofInlet (some i.other)
  neither : ¬ s.InletAllowed i → ¬ s.InletAllowed i.other → c = .recirc

/-- R39: when a source request is satisfiable. -/
def State.Satisfiable (s : State) (r : SourceReq) : Prop :=
  match r with
  | .recirc => True
  | .freshRoof => s.InletAllowed .roof
  | .freshBumper => s.InletAllowed .bumper
  | .freshAny => s.InletAllowed .roof ∨ s.InletAllowed .bumper

/-- R39: the chosen source that a satisfiable request gives. -/
def State.Gives (s : State) (r : SourceReq) (c : ChosenSource) : Prop :=
  match r with
  | .recirc => c = .recirc
  | .freshRoof => c = .freshRoof
  | .freshBumper => c = .freshBumper
  | .freshAny => OpensFirst s s.lay.preferred c

/-- R33, 13.7: the twelve words of the Mix Record, from offset 9 of the status block on. -/
def Mix.imaged (m : Mix) : List Word :=
  [w16 m.roof, w16 m.bumper, w16 m.recirc, w16 (match m.filter with | .bypass => 0 | .through => 1), w16 m.blower,
   w16 m.relief, w16 m.zones.front, w16 m.zones.crew, w16 m.zones.screen, w16 m.heat,
   w16 (match m.owner with | .lane l => l.index | .purge => 3 | .doors => 4 | .default => 5),
   w16 (flag m.denied.front + 2 * flag m.denied.crew + 4 * flag m.denied.screen)]

/-- R32: the targets of the eight dampers, in number order. -/
def Mix.targets (m : Mix) : Vector Nat 8 :=
  #v[m.roof, m.bumper, m.recirc, match m.filter with | .bypass => 0 | .through => 100, m.zones.front, m.zones.crew,
     m.zones.screen, m.relief]

/-- R164: the writes for a word that a host read waits for: those up to and including the last. -/
def OwesRecords (writes : List RecordEntry) (a n : Nat) : Prop :=
  n ≤ writes.length ∧ (∀ e ∈ writes.drop n, e.addr ≠ a) ∧ (0 < n → ∃ e, writes[n - 1]? = some e ∧ e.addr = a)

/-! ### What operations leave unchanged -/

/-- What no notice of any block changes but the switches' own and the scanner's. -/
structure Ground where
  pending : List Instr
  now : Nat
  part : PartState
  faultReason : Option FaultReason
  layout : Option Layout
  loader : Loader
  serviceArg : Word
  tagClock : Word
  lastTick : Nat
  switches : Switches
  ram : Memory
  hostPassed : Bool
  pointer : Source
  held : Option HeldRead
  lastRead : Option RamCell
  channels : Vector Channel 16

/-- What no notice but a grade notice changes. -/
structure Base extends Ground where
  grader : Grader
  freeIndex : Nat

/-- What the Hold Table's records and the lanes leave of the rest. -/
structure Below extends Base where
  purge : Purge
  view : GovernorView

/-- What the lanes leave of the rest. -/
structure Lower extends Below where
  holds : List HoldRecord

/-- What a recompute leaves of a lane: all of it where its order is not in SETTLE, DWELL or CHECK; there all but the
passage from SETTLE to DWELL with its timers, and the sticky flags. -/
structure LaneStill where
  mirror : Nat
  consumer : Nat
  stopPending : Bool
  carried : Demand
  engaged : Bool
  order : Option ActiveOrder
  rest : Option Lane

/-- What a recompute with all that it brings about leaves unchanged. -/
structure Still extends Lower where
  events : EventWriter
  reads : List ReadRequest
  guards : List (LaneId × Nat)
  lanes : PerLane LaneStill

/-- An active order but for its timers and its sticky flags. -/
def ActiveOrder.core (o : ActiveOrder) : ActiveOrder :=
  { o with flags := ⟨false, false, false, false, false, false⟩, settleTimer := 0, dwellTimer := 0 }

def Lane.still (x : Lane) : LaneStill :=
  { mirror := x.mirror, consumer := x.consumer, stopPending := x.stopPending, carried := x.carried
    engaged := x.engaged, order := x.order.map ActiveOrder.core, rest := if x.engaged then none else some x }

def State.ground (s : State) : Ground :=
  { pending := s.pending, now := s.now, part := s.part, faultReason := s.faultReason, layout := s.layout
    loader := s.loader, serviceArg := s.serviceArg, tagClock := s.tagClock, lastTick := s.lastTick
    switches := s.switches, ram := s.port.ram, hostPassed := s.port.hostPassed, pointer := s.port.pointer
    held := s.port.held, lastRead := s.port.lastRead, channels := s.scanner.channels }

def State.base (s : State) : Base := { s.ground with grader := s.grader, freeIndex := s.freeIndex }

def State.below (s : State) : Below := { s.base with purge := s.purge, view := s.governor.view }

def State.lower (s : State) : Lower := { s.below with holds := s.holds }

def State.still (s : State) : Still :=
  { s.lower with
    events := s.events, reads := s.port.reads, guards := s.port.guards
    lanes := ⟨s.lanes.front.still, s.lanes.crew.still, s.lanes.screen.still⟩ }

end Sys2Proof.Machine
end

