-- ==== Sys2Proof/Certificates/Slice0/Obligations.lean ====
section
/-! DEFINITION. The statements for the provers: what the commands of the block do by the rules of the spec, and what
every step keeps. A statement's title in OBLIGATIONS.json says which clauses are the model's choice. -/

section

open Sys2Proof Sys2Proof.Machine

/-! ### The machine -/

/-- The command at the front of the queue is run on the state with the queue's rest. The queue is the model's choice
(log 1), as is that no word of memory is a command (log 5). -/
def Obligations.StepRunsFrontCommand : Prop :=
  ∀ (c : Instr) (cs : List Instr) (s : State),
    step { s with pending := c :: cs } = exec c { s with pending := cs }

/-- The model's choice (logs 1 and 2): on an empty queue 1 ms passes, unless an occurrence is due. -/
def Obligations.EmptyQueueStepPassesTime : Prop :=
  ∀ s : State, s.pending = [] →
    step s = .next (if s.due then s else { s with now := s.now + 1 })

/-- The records of the part right after RESET, and that they meet every invariant stated below. The model's choice (log 8):
the service argument is 0, and the lamp's mode in the writer's record began at moment 0. -/
def Obligations.ResetStateMeetsEveryInvariant : Prop :=
  (State.reset.part = .reset ∧ State.reset.layout = none ∧ State.reset.faultReason = none ∧
    State.reset.serviceArg = 0 ∧ State.reset.holds = [] ∧ State.reset.events = .reset ∧
    State.reset.events.lamp = .off ∧ State.reset.port.writes = [] ∧ State.reset.port.images = [] ∧
    State.reset.port.reads = [] ∧ State.reset.port.hostPassed = false ∧ State.reset.port.pointer = .fetch ∧
    State.reset.waitLine = false ∧ State.reset.interruptLine = false) ∧
  (State.reset.governor.mix.roof = 0 ∧ State.reset.governor.mix.bumper = 0 ∧ State.reset.governor.mix.recirc = 100 ∧
    State.reset.governor.mix.filter = .bypass ∧ State.reset.governor.mix.blower = 0 ∧
    State.reset.governor.mix.relief = 0 ∧ State.reset.governor.mix.zones = ⟨0, 0, 0⟩ ∧
    State.reset.governor.mix.heat = 0 ∧ State.reset.governor.mix.owner = .default ∧
    State.reset.governor.mix.denied = ⟨false, false, false⟩ ∧ State.reset.governor.chosen = .recirc) ∧
  (State.reset.purge.state = .idle ∧ State.reset.purge.extensions = 0 ∧ State.reset.purge.doorOpen = false ∧
    State.reset.scanner.state = .stopped ∧ State.reset.scanner.queue = [] ∧
    (∀ c, State.reset.channel c = Channel.reset) ∧
    State.reset.grader.grades = ⟨.blind, .blind, .blind⟩ ∧ (∀ c, State.reset.grading c = Grading.reset) ∧
    (∀ i, (State.reset.switch i).accepted = false ∧ (State.reset.switch i).debounce = none) ∧
    (∀ d, (State.reset.damper d).estimate = none) ∧ State.reset.drive.queue = [] ∧
    State.reset.blowerDuty = 0 ∧ State.reset.valveDuty = 0 ∧ ∀ i, State.reset.stageOutput i = false) ∧
  (State.reset.ramCanonical ∧ State.reset.queuesBounded ∧ State.reset.layoutSound ∧ State.reset.indexesBounded ∧
    State.reset.holdsDistinct ∧ State.reset.holdsOnlyRunning ∧ State.reset.purgeHeld ∧ State.reset.sourceWhole ∧
    State.reset.mixCurrent ∧ State.reset.grantsBounded ∧ State.reset.motionAgrees ∧ State.reset.stagesBounded ∧
    State.reset.doorsAgree ∧ State.reset.ordersAgree ∧ State.reset.spotsAgree)

/-! ### Start-up, RESTART and the clock -/

/-- RESET takes the part to RESET from any state and empties the queues, the Image Set and the placed reads at once. The
model's choice: the RAM stands (log 4) with the raw levels (log 6), the dampers wait at target 0 (log 7), the lanes and the
heat unit take the values of log 8, and a held read returns its word (log 25). -/
def Obligations.ResetEntersResetFromAnyState : Prop :=
  ∀ s : State, ∃ t, exec .reset s = .next t ∧
    t.part = .reset ∧ t.faultReason = none ∧ t.layout = none ∧ t.serviceArg = 0 ∧
    t.port.records = [] ∧ t.port.waiting = [] ∧ t.port.images = [] ∧ t.port.reads = [] ∧ t.port.guards = [] ∧
    t.port.held = none ∧ t.port.hostPassed = false ∧ t.port.pointer = .fetch ∧ t.port.ram = s.port.ram ∧
    (∀ h, s.port.held = some h → t.port.lastRead = some (h.addr, s.port.ram.read h.addr)) ∧
    (s.port.held = none → t.port.lastRead = s.port.lastRead) ∧
    t.lanes = ⟨.reset, .reset, .reset⟩ ∧ t.governor = .reset ⟨0, 0, 0⟩ ∧ t.holds = [] ∧ t.purge = .reset ∧
    t.scanner = .reset ∧ t.grader = .reset ∧ t.drive = .reset ∧ t.heat = .reset ∧ t.events = .reset ∧
    (∀ i, t.switch i = { raw := (s.switch i).raw, accepted := false, debounce := none }) ∧
    t.switches.openSet = Vector.replicate 5 false ∧ t.pending = s.pending ∧ t.now = s.now

/-- LOADING is entered when RESET is released and when draining is complete. -/
def Obligations.LoadingEnteredFromResetAndDraining : Prop :=
  (∀ s : State, s.part = .reset → ∃ t, exec .resetReleased s = .next t ∧ LoadingEntered s t) ∧
  (∀ s : State, s.part = .draining → s.port.records = [] → s.port.waiting = [] → s.port.images = [] →
    s.port.reads = [] → ∃ t, exec .drainingComplete s = .next t ∧ LoadingEntered s t)

/-- The layout is judged once its 64 words have returned: latched, or the part enters FAULT with the reason. -/
def Obligations.LayoutReadJudgesLayout : Prop :=
  ∀ s : State, s.part = .loading → s.loader.phase = .layout → s.loader.words.length = 64 →
    (layoutFault s.loader.words = none → ∃ t, exec .layoutReadComplete s = .next t ∧
      t.part = .loading ∧ t.layout = some (parseLayout s.loader.words) ∧ t.loader = ⟨.thresholds, []⟩ ∧
      t.port = { s.port with
        reads := s.port.reads ++
          (List.range 24).map (fun i => ⟨(parseLayout s.loader.words).thresholdBase + i, .loader⟩) } ∧
      t.governor = s.governor ∧ t.holds = s.holds ∧ t.lanes = s.lanes) ∧
    (∀ r, layoutFault s.loader.words = some r → ∃ t, exec .layoutReadComplete s = .next t ∧
      t.part = .fault ∧ t.faultReason = some r ∧ t.layout = s.layout ∧ t.loader = ⟨.none, []⟩ ∧
      t.port.writes = s.port.writes ++ [⟨0x42, 3, .plain⟩, ⟨0x43, w16 r.code, .plain⟩] ∧
      t.port.ram = s.port.ram ∧ t.port.reads = s.port.reads ∧ t.governor = .reset ⟨0, 0, 0⟩ ∧
      t.events.lamp = .fastFlash ∧ t.interruptLine = false ∧ t.holds = s.holds ∧ t.lanes = s.lanes)

/-- The layout is accepted exactly when all seven tests pass, with the ranges of 13.1, and the first failing test decides the
reason. -/
def Obligations.LayoutAcceptedExactlyByItsTests : Prop :=
  ∀ ws : List RamWord,
    let L := parseLayout ws
    let parity := ∀ w ∈ ws, (onesCount w.data + flag w.parity) % 2 = 1
    let version := numAt ws 0 = 1
    let sum := (ws.map (fun w => w.data.toNat)).sum % 65536 = 0
    let region := (4 ≤ L.memoryUnits ∧ L.memoryUnits ≤ 64) ∧
      (∀ l, (L.rings.get l).size = 0 ∨ (4 ≤ (L.rings.get l).size ∧ (L.rings.get l).size ≤ 64)) ∧
      (8 ≤ L.eventSize ∧ L.eventSize ≤ 256) ∧
      (∀ r ∈ L.regions, 0x4F < r.1 ∧ r.1 + r.2 ≤ L.memoryUnits * 1024) ∧
      L.regions.Pairwise (fun a b => a.1 + a.2 ≤ b.1 ∨ b.1 + b.2 ≤ a.1)
    let ranges : List (Nat × Nat × Nat) :=
      [(1, L.scanPeriod, 50), (10, L.doorDebounce, 250), (10, L.buttonDebounce, 250), (100, L.engineDebounce, 2000),
       (1, L.longPress, 10), (5, L.exposureThreshold, 300), (10, L.purgeTime, 600), (10, L.extensionTime, 300),
       (0, L.extensionLimit, 3), (10, L.scrubTime, 600), (0, L.purgeBlower, 100), (0, L.curtainBlower, 100),
       (0, L.idleBlower, 100), (0, L.engineOffCap, 100), (0, L.purgeRelief, 100), (1, L.reliefStep, 25),
       (0, L.dpSetpoint, 4095), (0, L.dpBand, 2047), (1, L.holdDown, 600), (0, L.rest.front, 100), (0, L.rest.crew, 100),
       (0, L.rest.screen, 100), (0, L.minFresh, 100), (1, L.heatGain, 64), (0, L.coolantLevel, 4095), (1, L.voltA, 4095),
       (0, L.voltB, 4094), (5, L.restoreTime, 120), (1, L.stageInterval, 30), (1, L.stageStep, 255),
       (1, L.motionGrants, 4), (30, L.stallSpeed, 300)]
    let range := (∀ r ∈ ranges, r.1 ≤ r.2.1 ∧ r.2.1 ≤ r.2.2) ∧ (∀ d, 20 ≤ L.travel.get d ∧ L.travel.get d ≤ 600) ∧
      L.voltB < L.voltA ∧ (∀ c, c < 16 → methodCodeAt ws c < 3) ∧
      (L.defaultSource = .recirc ∨ L.defaultSource = .freshAny)
    let scan := 1 ≤ L.scanLength ∧ L.scanLength ≤ 16 ∧ (L.scanList.toList.take L.scanLength).Nodup
    let ranks := (∀ l, 1 ≤ L.ranks.get l ∧ L.ranks.get l ≤ 3) ∧
      L.ranks.front ≠ L.ranks.crew ∧ L.ranks.front ≠ L.ranks.screen ∧ L.ranks.crew ≠ L.ranks.screen
    (layoutFault ws = none ↔ parity ∧ version ∧ sum ∧ region ∧ range ∧ scan ∧ ranks) ∧
    (layoutFault ws = some .parity ↔ ¬ parity) ∧
    (layoutFault ws = some .version ↔ parity ∧ ¬ version) ∧
    (layoutFault ws = some .sum ↔ parity ∧ version ∧ ¬ sum) ∧
    (layoutFault ws = some .region ↔ parity ∧ version ∧ sum ∧ ¬ region) ∧
    (layoutFault ws = some .range ↔ parity ∧ version ∧ sum ∧ region ∧ ¬ range) ∧
    (layoutFault ws = some .scanList ↔ parity ∧ version ∧ sum ∧ region ∧ range ∧ ¬ scan) ∧
    (layoutFault ws = some .ranks ↔ parity ∧ version ∧ sum ∧ region ∧ range ∧ scan ∧ ¬ ranks)

/-- The threshold read fills and judges the six entry copies, and the loader offers the 142 initial writes. -/
def Obligations.ThresholdReadOffersInitialWrites : Prop :=
  ∀ (s : State) (L : Layout), s.part = .loading → s.loader.phase = .thresholds → s.loader.words.length = 24 →
    s.layout = some L → ∃ t ws, exec .thresholdReadComplete s = .next t ∧
      t.part = .loading ∧ t.loader = ⟨.writes, []⟩ ∧ t.layout = some L ∧
      t.grader.grades = ⟨.blind, .blind, .blind⟩ ∧
      (∀ c : Fin 6, t.grading c = Grading.reset.judged (entryCopy s.loader.words c.val)) ∧
      t.port.writes = s.port.writes ++ ws ∧ ws.length = 142 ∧
      ws.map RecordEntry.addr =
        (List.range 12).map (fun i => L.laneBase + i) ++ [L.eventBase, L.eventBase + 1] ++
          (List.range 32).map (fun i => L.senseBase + i) ++ (List.range 96).map (fun i => L.statusBase + i) ∧
      ws.map RecordEntry.data =
        List.replicate 46 0 ++ List.replicate 9 3 ++
          [0, 0, 100, 0, 0, 0, w16 L.rest.front, w16 L.rest.crew, w16 L.rest.screen, 0, 5, 0] ++ [0, 0, 0, 0] ++
          List.replicate 8 511 ++ List.replicate 63 0 ∧
      ws.map RecordEntry.role = List.replicate 141 .plain ++ [.lastInitial] ∧
      t.port.ram = s.port.ram ∧ t.port.images = s.port.images ∧ t.port.reads = s.port.reads

/-- At the entry to RUNNING every block takes its starting state, the initial holds are raised and the scan begins. The
part state word and the three consumer words are queued (in this order: logs 12, 18). -/
def Obligations.RunningEntryStartsEveryBlock : Prop :=
  ∀ (s : State) (L : Layout), s.part = .loading → s.loader.phase = .writes → s.port.initialLeft = false →
    s.layout = some L → L.rangesOk = true → L.scanListOk = true → ∃ t, exec .runningEntry s = .next t ∧
      t.part = .running ∧ t.layout = some L ∧ t.tagClock = 0 ∧ t.lastTick = s.now ∧
      t.port.ram = s.port.ram ∧ t.port.reads = s.port.reads ∧ t.port.guards = s.port.guards ∧
      s.port.writes ++ [⟨0x42, 2, .plain⟩, ⟨L.laneBase + 2, 0, .plain⟩, ⟨L.laneBase + 6, 0, .plain⟩,
        ⟨L.laneBase + 10, 0, .plain⟩] <+: t.port.writes ∧
      (∀ l, t.lanes.get l =
        { state := if (L.rings.get l).size = 0 then .disabled else .stopped, mirror := 0, consumer := 0
          stopPending := false, order := none, carried := .rest (L.rest.get l) }) ∧
      t.holds.map HoldRecord.key = [.inletBarred .roof, .inletBarred .bumper, .engineOff] ∧
      (∀ r ∈ t.holds, r.cause = .start ∧ r.raised = 0 ∧ r.notBefore = none) ∧
      t.governor.mix =
        { roof := 0, bumper := 0, recirc := 100, filter := .bypass, blower := min L.idleBlower L.engineOffCap
          relief := 0, zones := L.rest, heat := 0, owner := .default, denied := ⟨false, false, false⟩ } ∧
      t.governor.chosen = .recirc ∧ t.purge = .reset ∧ t.grader = s.grader ∧
      (∀ c, t.channel c = .reset) ∧ t.scanner.state = .scanning ∧ t.scanner.position = 0 ∧
      t.scanner.passStart = some s.now ∧ t.scanner.queue = [] ∧
      t.scanner.conversion = some { channel := L.scanList.get 0, began := s.now } ∧
      (∀ i, (t.switch i).accepted = false ∧ (t.switch i).raw = (s.switch i).raw ∧
        (t.switch i).debounce = if (s.switch i).raw then some (s.now + L.debounce i) else none) ∧
      (∀ d, (t.damper d).estimate = none ∧
        (t.damper d).state = if d.val < L.motionGrants then .homing else .waiting) ∧
      t.heat.blower = min L.idleBlower L.engineOffCap ∧ t.heat.energised = 0 ∧ t.heat.allowed = 0

/-- RESTART: to DRAINING from RUNNING, to LOADING from FAULT and, unless refused, afresh from LOADING. The model's choice:
the lanes stand through DRAINING, no spot awaited (log 37), the Governor, the purge, the scanner, the drive and the heat unit stand at an
entry to LOADING (log 8), and there the write-back goes before the part state words (log 27). -/
def Obligations.RestartActsByPartState : Prop :=
  ∀ s : State,
    let g := s.atGrant
    let w := g.forwardWrite 0x40 (.good 1)
    let b := w.offer 0x40 0
    (g.part = .running → ∃ t, exec .restart s = .next t ∧
      t.part = .draining ∧ t.layout = g.layout ∧ t.port.ram = w.port.ram ∧
      t.port.writes = g.port.writes ++ [⟨0x40, 0, .plain⟩, ⟨0x42, 4, .plain⟩] ∧
      t.port.images = g.port.images ∧ t.port.reads = g.port.reads ∧ t.port.guards = g.port.guards ∧
      (∀ l, t.lanes.get l = { g.lanes.get l with
        order := (g.lanes.get l).order.map (fun o => { o with awaited := [] }) }) ∧
      t.governor = .reset g.lay.rest ∧ t.holds = [] ∧ t.purge = .reset ∧
      t.scanner.state = .stopped ∧ t.scanner.queue = [] ∧ t.scanner.conversion = none ∧
      (∀ c, t.channel c = g.channel c) ∧ t.grader = .reset ∧
      (∀ i, (t.switch i).accepted = (g.switch i).accepted ∧ (t.switch i).debounce = none) ∧
      (∀ d, (t.damper d).state = .waiting ∧ (t.damper d).estimate = none) ∧
      t.heat.energised = 0 ∧ t.blowerDuty = 0 ∧ t.valveDuty = 0 ∧
      t.events.overrun = 0 ∧ t.events.lamp = .off ∧ t.events.producer = g.events.producer ∧
      t.events.consumer = g.events.consumer) ∧
    (g.part = .fault → ∃ t, exec .restart s = .next t ∧ LoadingEntered b t) ∧
    (g.part = .loading → g.port.abandonedLeft = true ∨ g.port.waiting ≠ [] → exec .restart s = .next w) ∧
    (g.part = .loading → g.port.abandonedLeft = false → g.port.waiting = [] →
      ∃ t, exec .restart s = .next t ∧
        LoadingEntered { b with port := { b.port with
          reads := b.port.reads.map (fun r => if r.placer = .loader then { r with placer := .abandoned } else r) } } t) ∧
    (g.part = .reset ∨ g.part = .draining → exec .restart s = .next w)

/-- The tag clock rises by one every 100 ms, and with it the timers of the lanes and of the purge fall. -/
def Obligations.TagClockTickCountsTimers : Prop :=
  ∀ s : State, s.part = .running → s.lastTick + 100 ≤ s.now → ∃ t, exec .tagClockTick s = .next t ∧
    t.tagClock = s.tagClock + 1 ∧ t.lastTick = s.lastTick + 100 ∧
    (∀ l o, (s.lanes.get l).order = some o → t.lanes.get l = { s.lanes.get l with
      order := some { o with
        settleTimer := if (s.lanes.get l).state = .settle then o.settleTimer - 1 else o.settleTimer
        dwellTimer := if (s.lanes.get l).state = .dwell then o.dwellTimer - 1 else o.dwellTimer } }) ∧
    (∀ l, (s.lanes.get l).order = none → t.lanes.get l = s.lanes.get l) ∧
    t.purge = { s.purge with remaining := s.purge.remaining.map (fun n => n - 1) } ∧
    t.events = (if s.tagClock = 0xFFFF then
      ({ s with tagClock := 0 }).emit { kind := .tagRollover, subject := 0, value := 0 } else s).events ∧
    t.port.ram = s.port.ram ∧ t.port.reads = s.port.reads ∧ t.governor = s.governor ∧ t.holds = s.holds ∧
    t.scanner = s.scanner ∧ t.grader = s.grader ∧ t.switches = s.switches ∧ t.drive = s.drive ∧ t.heat = s.heat ∧
    t.now = s.now ∧ t.pending = s.pending ∧ t.layout = s.layout

/-- An event is appended while the unread count is below the ring's size less one, and counted otherwise. The interrupt line
follows the last-signalled record, and the lamp its view: the part state, the holds it is told of, and SCRUB. -/
def Obligations.EventAppendedOrCounted : Prop :=
  (∀ (s : State) (e : Event),
    (s.part ≠ .running → s.emit e = s) ∧
    (s.part = .running → s.unread + 1 < s.lay.eventSize →
      let p := s.events.producer
      let base := s.lay.eventBase + 2 + 4 * p
      let next := (p + 1) % s.lay.eventSize
      (s.emit e).port.writes = s.port.writes ++
        [⟨base, w16 (e.kind.number + 256 * e.qualifier), .plain⟩, ⟨base + 1, e.subject, .plain⟩,
         ⟨base + 2, s.tagClock, .plain⟩, ⟨base + 3, e.value, .eventValue p (s.lay.signals e.kind)⟩,
         ⟨s.lay.eventBase, w16 next, .plain⟩] ∧
      (s.emit e).events = { s.events with producer := next } ∧
      ({ s.emit e with port := s.port, events := s.events } : State) = s) ∧
    (s.part = .running → ¬ s.unread + 1 < s.lay.eventSize →
      s.emit e = { s with events := { s.events with overrun := min (s.events.overrun + 1) 65535 } })) ∧
  (∀ s : State, s.interruptLine = true ↔
    ∃ i, s.events.lastSignalled = some i ∧ (s.part = .running ∨ s.part = .draining) ∧
      (i + s.lay.eventSize - s.events.consumer) % s.lay.eventSize < s.unread) ∧
  (∀ (p : PartState) (v : EventWriter),
    let fails := 0 < v.jams ∨ v.blowerFail = true
    let foul := v.cabFoul = true ∨ v.scrub = true
    (lampMode p v = .fastFlash ↔ p = .fault) ∧ (lampMode p v = .slowFlash ↔ p ≠ .fault ∧ fails) ∧
    (lampMode p v = .steady ↔ p ≠ .fault ∧ ¬ fails ∧ foul) ∧ (lampMode p v = .off ↔ p ≠ .fault ∧ ¬ fails ∧ ¬ foul)) ∧
  (∀ s : State,
    s.relamp = { s with events := { s.events with
      lamp := lampMode s.part s.events
      lampSince := if lampMode s.part s.events = s.events.lamp then s.events.lampSince else s.now } } ∧
    (s.events.lamp = .off → s.lampLit = false) ∧ (s.events.lamp = .steady → s.lampLit = true) ∧
    (s.events.lamp = .slowFlash → (s.lampLit = true ↔ (s.now - s.events.lampSince) % 1000 < 500)) ∧
    (s.events.lamp = .fastFlash → (s.lampLit = true ↔ (s.now - s.events.lampSince) % 250 < 125))) ∧
  (∀ (s : State) (k : HoldKey) (c : HoldCause), s.part = .running → s.hasHold k = false →
    let v := (s.takeRaise k c).events
    (∀ d, k = .damperJam d → v.jams = s.events.jams + 1 ∧ v.lamp = .slowFlash) ∧
    (k = .blowerFail → v.blowerFail = true ∧ v.lamp = .slowFlash) ∧
    (k = .cabFoul → v.cabFoul = true ∧
      v.lamp = if 0 < s.events.jams ∨ s.events.blowerFail = true then .slowFlash else .steady)) ∧
  (∀ (s : State) (k : HoldKey), s.part = .running → s.hasHold k = true →
    let u := s.events
    let v := (s.takeRelease k).events
    (∀ d, k = .damperJam d → v.jams = u.jams - 1 ∧
      v.lamp = if 1 < u.jams ∨ u.blowerFail = true then .slowFlash
        else if u.cabFoul = true ∨ u.scrub = true then .steady else .off) ∧
    (k = .blowerFail → v.blowerFail = false ∧
      v.lamp = if 0 < u.jams then .slowFlash else if u.cabFoul = true ∨ u.scrub = true then .steady else .off) ∧
    (k = .cabFoul → v.cabFoul = false ∧
      v.lamp = if 0 < u.jams ∨ u.blowerFail = true then .slowFlash else if u.scrub = true then .steady else .off)) ∧
  (∀ (s : State) (new : Purge) (e : Option Event), s.part = .running →
    let u := s.events
    let v := (s.purgeGo new e).events
    (s.purge.state ≠ .scrub → new.state = .scrub → v.scrub = true ∧
      v.lamp = if 0 < u.jams ∨ u.blowerFail = true then .slowFlash else .steady) ∧
    (s.purge.state = .scrub → new.state ≠ .scrub → v.scrub = false ∧
      v.lamp = if 0 < u.jams ∨ u.blowerFail = true then .slowFlash else if u.cabFoul = true then .steady else .off))

/-- The model's choice (log 3): a command whose occasion has not come changes nothing. Every occurrence command is named,
with every state that is not its occasion. -/
def Obligations.CommandsBeforeTheirOccasionChangeNothing : Prop :=
  ∀ s : State,
    (s.part ≠ .reset → exec .resetReleased s = .next s) ∧
    (s.part ≠ .draining ∨ s.port.records ≠ [] ∨ s.port.waiting ≠ [] ∨ s.port.images ≠ [] ∨ s.port.reads ≠ [] →
      exec .drainingComplete s = .next s) ∧
    (s.part ≠ .loading ∨ s.loader.phase ≠ .layout ∨ s.loader.words.length ≠ 64 →
      exec .layoutReadComplete s = .next s) ∧
    (s.part ≠ .loading ∨ s.loader.phase ≠ .thresholds ∨ s.loader.words.length ≠ 24 →
      exec .thresholdReadComplete s = .next s) ∧
    (s.part ≠ .loading ∨ s.loader.phase ≠ .writes ∨ (∃ e ∈ s.port.writes, e.role = .lastInitial) →
      exec .runningEntry s = .next s) ∧
    (s.part ≠ .running →
      exec .tagClockTick s = .next s ∧ exec .purgeTimerExpiry s = .next s ∧ exec .scanPeriodElapsed s = .next s ∧
      exec .pressTimerExpiry s = .next s ∧ exec .tachPulse s = .next s ∧ exec .tachTimeout s = .next s ∧
      exec .blowerWatchExpiry s = .next s ∧ exec .stageUpTimerExpiry s = .next s ∧
      exec .restoreTimerExpiry s = .next s ∧ (∀ r, exec (.conversionComplete r) s = .next s) ∧
      (∀ l, exec (.orderFetchComplete l) s = .next s ∧ exec (.settleTimerExpiry l) s = .next s ∧
        exec (.dwellTimerExpiry l) s = .next s) ∧
      (∀ i, exec (.inletHoldDownExpiry i) s = .next s) ∧ (∀ i, exec (.debounceTimerExpiry i) s = .next s) ∧
      (∀ d, exec (.movingPlannedEnd d) s = .next s ∧ exec (.seatingTimeOut d) s = .next s ∧
        exec (.stall d) s = .next s ∧ exec (.homingLimit d) s = .next s)) ∧
    (s.now < s.lastTick + 100 → exec .tagClockTick s = .next s) ∧
    (∀ l, (s.lanes.get l).state ≠ .fetch ∨ (∀ o, (s.lanes.get l).order = some o → o.words.length < 8) →
      exec (.orderFetchComplete l) s = .next s) ∧
    (∀ l, (s.lanes.get l).state ≠ .settle ∨ (∀ o, (s.lanes.get l).order = some o → 0 < o.settleTimer) →
      exec (.settleTimerExpiry l) s = .next s) ∧
    (∀ l, (s.lanes.get l).state ≠ .dwell ∨ (∀ o, (s.lanes.get l).order = some o → 0 < o.dwellTimer) →
      exec (.dwellTimerExpiry l) s = .next s) ∧
    (∀ i, (∀ r, s.holdRecord (.inletBarred i) = some r → r.notBefore ≠ some s.tagClock) →
      exec (.inletHoldDownExpiry i) s = .next s) ∧
    ((s.purge.state ≠ .run ∧ s.purge.state ≠ .scrub) ∨ s.purge.remaining ≠ some 0 →
      exec .purgeTimerExpiry s = .next s) ∧
    ((∀ v, s.scanner.conversion = some v → s.now < v.began + 3) → ∀ r, exec (.conversionComplete r) s = .next s) ∧
    (s.scanner.state ≠ .waiting ∨ s.now - s.scanner.passStart.getD s.now < 100 * s.lay.scanPeriod →
      exec .scanPeriodElapsed s = .next s) ∧
    (∀ i, (∀ n, (s.switch i).debounce = some n → s.now < n) → exec (.debounceTimerExpiry i) s = .next s) ∧
    ((∀ n, s.switches.pressDeadline = some n → s.now < n) → exec .pressTimerExpiry s = .next s) ∧
    (∀ d,
      let early := ∀ p, (s.damper d).plan = some p → s.now < p.ends
      ((s.damper d).state ≠ .moving ∨ early → exec (.movingPlannedEnd d) s = .next s) ∧
      ((s.damper d).state ≠ .seating ∨ early → exec (.seatingTimeOut d) s = .next s) ∧
      ((s.damper d).state ≠ .homing ∨ early → exec (.homingLimit d) s = .next s)) ∧
    ((∀ n, s.heat.lastPulse = some n → s.now - n < 1000) → exec .tachTimeout s = .next s) ∧
    ((∀ n, s.heat.watch = .timing n → s.now < n) → exec .blowerWatchExpiry s = .next s) ∧
    ((∀ n, s.heat.stageUpTimer = some n → s.now < n) → exec .stageUpTimerExpiry s = .next s) ∧
    ((∀ r, s.heat.restore = some r → s.now < r.deadline) → exec .restoreTimerExpiry s = .next s) ∧
    (s.port.held ≠ none ∨ s.port.canAdmit = true ∨ s.port.turn ≠ some .fetch → exec .fetchReadDone s = .next s) ∧
    (s.port.held ≠ none ∨ s.port.canAdmit = true ∨ s.port.turn ≠ some .record → exec .recordQueueWrite s = .next s) ∧
    (s.port.held ≠ none ∨ s.port.canAdmit = true ∨ s.port.turn ≠ some .image → exec .imageSetWrite s = .next s) ∧
    (s.port.waiting = [] ∨ 32 ≤ s.port.records.length → exec .waitingWriteEntersQueue s = .next s) ∧
    ((∀ h, s.port.held = some h → h.imageOwed = false ∧ h.recordsOwed = 0) → exec .readFlushWrite s = .next s) ∧
    ((∀ h, s.port.held = some h → h.imageOwed = true ∨ 0 < h.recordsOwed) → exec .heldReadGranted s = .next s)

/-! ### Order lanes -/

/-- A producer write is accepted inside the ring and off the active slot, becomes the mirror and may begin a fetch;
any other is absorbed and raises LANE_WRITE_REFUSED. -/
def Obligations.ProducerWriteTakenOrAbsorbed : Prop :=
  ∀ (s : State) (L : Layout) (l : LaneId) (v : Word), s.takesHost L → s.atGrant.ramCanonical →
    let g := s.atGrant
    let x := g.lanes.get l
    let accepted := v.toNat < (L.rings.get l).size ∧ ∀ o, x.order = some o → v.toNat ≠ o.slot
    (accepted → ∃ t, exec (.producerWrite l v) s = .next t ∧
      t.port.ram.read (L.laneBase + 4 * l.index) = .good v ∧
      (∀ a, a ≠ L.laneBase + 4 * l.index → t.port.ram.read a = g.port.ram.read a) ∧
      t.lower = (g.forwardWrite (L.laneBase + 4 * l.index) (.good v)).lower ∧
      (∀ m, m ≠ l → (t.lanes.get m).still = (g.lanes.get m).still) ∧
      (x.state = .idle → v.toNat ≠ x.consumer →
        t.lanes.get l = { x with mirror := v.toNat, state := .fetch, order := some (.fresh x.consumer) } ∧
        t.port.guards = g.port.guards ++ [(l, x.consumer)] ∧
        t.port.reads = g.port.reads ++ (List.range 8).map (fun i => ⟨g.slotWord l x.consumer i, .lane l⟩)) ∧
      (x.state ≠ .idle ∨ v.toNat = x.consumer →
        t = (g.forwardWrite (L.laneBase + 4 * l.index) (.good v)).setLane l { x with mirror := v.toNat })) ∧
    (¬ accepted → exec (.producerWrite l v) s =
      .next (g.emit { kind := .laneWriteRefused, subject := w16 l.index, value := v }))

/-- START is taken in STOPPED, to FETCH or IDLE by the indices, and refused in every other state. -/
def Obligations.StartTakenInStopped : Prop :=
  ∀ (s : State) (L : Layout) (l : LaneId), s.takesHost L →
    let g := s.atGrant
    let x := g.lanes.get l
    let w := g.forwardWrite (g.laneWord l 1) (.good 1)
    (x.state = .stopped → ∃ t, exec (.start l) s = .next t ∧ t.lower = w.lower ∧
      (∀ m, m ≠ l → (t.lanes.get m).still = (g.lanes.get m).still) ∧
      t.port.writes.getLast? = some ⟨g.laneWord l 1, 0, .plain⟩ ∧
      (x.consumer ≠ x.mirror →
        t.lanes.get l = { x with state := .fetch, order := some (.fresh x.consumer) } ∧
        t.port.guards = g.port.guards ++ [(l, x.consumer)] ∧
        t.port.reads = g.port.reads ++ (List.range 8).map (fun i => ⟨g.slotWord l x.consumer i, .lane l⟩)) ∧
      (x.consumer = x.mirror →
        t.lanes.get l = { x with state := .idle, order := none, carried := .rest (L.rest.get l) } ∧
        t.port.guards = g.port.guards ∧ t.port.reads = g.port.reads)) ∧
    (x.state ≠ .stopped → exec (.start l) s = .next (w.emit (commandRefused l 1)))

/-- STOP_AFTER sets the stop-pending mark during an order, stops an IDLE lane at once, changes nothing in STOPPED and
is refused in DISABLED. -/
def Obligations.StopAfterActsByLaneState : Prop :=
  ∀ (s : State) (L : Layout) (l : LaneId), s.takesHost L →
    let g := s.atGrant
    let x := g.lanes.get l
    let w := g.forwardWrite (g.laneWord l 1) (.good 2)
    (x.state = .disabled → exec (.stopAfter l) s = .next (w.emit (commandRefused l 2))) ∧
    (x.state = .stopped → exec (.stopAfter l) s = .next (w.offer (g.laneWord l 1) 0)) ∧
    (x.state = .idle → ∃ t, exec (.stopAfter l) s = .next t ∧ t.lower = w.lower ∧
      t.lanes.get l = { x with
        state := .stopped, stopPending := false, order := none, carried := .rest (L.rest.get l) } ∧
      (∀ m, m ≠ l → (t.lanes.get m).still = (g.lanes.get m).still) ∧
      t.port.writes.getLast? = some ⟨g.laneWord l 1, 0, .plain⟩ ∧
      t.events = (g.emit { kind := .laneStopped, subject := w16 l.index, value := 0 }).events) ∧
    (∀ o, x.order = some o → x.state = .fetch ∨ x.state = .settle ∨ x.state = .dwell ∨ x.state = .check →
      ∃ t, exec (.stopAfter l) s = .next t ∧ t.lower = w.lower ∧
      t.lanes.get l = { x with stopPending := x.stopPending || !o.abortPending } ∧
      (∀ m, m ≠ l → t.lanes.get m = g.lanes.get m) ∧
      t.port.writes.getLast? = some ⟨g.laneWord l 1, 0, .plain⟩ ∧
      t.governor = g.governor ∧ t.drive = g.drive ∧ t.heat = g.heat ∧ t.scanner = g.scanner ∧ t.events = g.events)

/-- ABORT ends an order in SETTLE, DWELL or CHECK with ABORTED, marks one in FETCH, stops an IDLE lane, changes nothing
in STOPPED and is refused in DISABLED. -/
def Obligations.AbortActsByLaneState : Prop :=
  ∀ (s : State) (L : Layout) (l : LaneId), s.takesHost L →
    let g := s.atGrant
    let x := g.lanes.get l
    let w := g.forwardWrite (g.laneWord l 1) (.good 3)
    (x.state = .disabled → exec (.abort l) s = .next (w.emit (commandRefused l 3))) ∧
    (x.state = .stopped → exec (.abort l) s = .next (w.offer (g.laneWord l 1) 0)) ∧
    (x.state = .idle → ∃ t, exec (.abort l) s = .next t ∧ t.lower = w.lower ∧
      t.lanes.get l = { x with
        state := .stopped, stopPending := false, order := none, carried := .rest (L.rest.get l) } ∧
      t.port.writes.getLast? = some ⟨g.laneWord l 1, 0, .plain⟩ ∧
      t.events = (g.emit { kind := .laneStopped, subject := w16 l.index, value := 0 }).events) ∧
    (∀ o, x.order = some o → x.state = .fetch → exec (.abort l) s =
      .next ((w.setOrder l { o with abortPending := true }).offer (g.laneWord l 1) 0)) ∧
    (∀ o, x.order = some o → x.state = .settle ∨ x.state = .dwell ∨ x.state = .check →
      ∃ t, exec (.abort l) s = .next t ∧ t.lower = w.lower ∧
      t.lanes.get l = x.afterEnd (L.rings.get l).size (L.rest.get l) true ∧
      (∀ m, m ≠ l → (t.lanes.get m).still = (g.lanes.get m).still) ∧
      g.port.writes ++ g.endWrites l o .aborted <+: t.port.writes ∧
      t.port.writes.getLast? = some ⟨g.laneWord l 1, 0, .plain⟩)

/-- FLUSH is taken in STOPPED: the consumer index takes the producer mirror, the consumer word is written where that
changes it (log 15), the lane stays STOPPED; it is refused in every other state. -/
def Obligations.FlushTakenInStopped : Prop :=
  ∀ (s : State) (L : Layout) (l : LaneId), s.takesHost L →
    let g := s.atGrant
    let x := g.lanes.get l
    let w := g.forwardWrite (g.laneWord l 1) (.good 4)
    (x.state = .stopped → x.consumer ≠ x.mirror → exec (.flush l) s =
      .next (((w.setLane l { x with consumer := x.mirror }).offer (g.laneWord l 2) (w16 x.mirror)).offer
        (g.laneWord l 1) 0)) ∧
    (x.state = .stopped → x.consumer = x.mirror → exec (.flush l) s = .next (w.offer (g.laneWord l 1) 0)) ∧
    (x.state ≠ .stopped → exec (.flush l) s = .next (w.emit (commandRefused l 4)))

/-- A code that is not listed is forwarded, refused with its event and not written back: at a lane command word and at
the service command word. -/
def Obligations.UnknownCodesForwardedAndRefused : Prop :=
  (∀ (s : State) (L : Layout) (l : LaneId) (code : Word), s.takesHost L → 4 < code.toNat →
    exec (.laneCommandUnknown l code) s =
      .next ((s.atGrant.forwardWrite (s.atGrant.laneWord l 1) (.good code)).emit (commandRefused l code))) ∧
  (∀ (s : State) (code : Word), s.part = .running → 7 < code.toNat →
    exec (.serviceCodeUnknown code) s =
      .next ((s.atGrant.forwardWrite 0x40 (.good code)).emit
        { kind := .serviceRefused, subject := code, value := s.atGrant.serviceArg }))

/-- The words of an order are tested for parity and then by the table of accepted fields. A fetched order whose words pass
starts: it is latched, its start record queued, its demand installed, and the lane enters SETTLE, from which it passes on at
once where the settle condition holds. -/
def Obligations.ValidOrderStarts : Prop :=
  (∀ ws : List RamWord,
    let parity := ∀ w ∈ ws, (onesCount w.data + flag w.parity) % 2 = 1
    let fields := fieldAt ws 0 2 2 ≤ 2 ∧ fieldAt ws 1 0 8 ≤ 100 ∧ fieldAt ws 1 8 8 ≤ 100 ∧
      (fieldAt ws 0 14 1 = 1 → numAt ws 2 ≤ 4095) ∧ 1 ≤ fieldAt ws 3 8 8 ∧ 1 ≤ numAt ws 4
    (orderRejected ws = none ↔ parity ∧ fields) ∧ (orderRejected ws = some .rejectedParity ↔ ¬ parity) ∧
    (orderRejected ws = some .rejectedField ↔ parity ∧ ¬ fields)) ∧
  ∀ (s : State) (l : LaneId) (o : ActiveOrder), s.part = .running → (s.lanes.get l).state = .fetch →
    (s.lanes.get l).order = some o → 8 ≤ o.words.length → o.abortPending = false → orderRejected o.words = none →
    let f := parseOrder o.words
    let overridden := s.holds.any (fun r => r.key.affects l f.targetPresent)
    ∃ t o', exec (.orderFetchComplete l) s = .next t ∧ t.lower = s.lower ∧
      (∀ m, m ≠ l → (t.lanes.get m).still = (s.lanes.get m).still) ∧
      s.port.writes ++
        [⟨s.slotWord l o.slot 5, slotStatusWord .inProgress { o.flags with overridden := overridden } 0, .plain⟩,
         ⟨s.slotWord l o.slot 6, s.tagClock, .plain⟩] <+: t.port.writes ∧
      (t.lanes.get l).order = some o' ∧ o'.fields = some f ∧ o'.slot = o.slot ∧ o'.retries = o.retries ∧
      (overridden = true → o'.flags.overridden = true) ∧ (t.lanes.get l).carried = f.demand ∧
      (t.lanes.get l).consumer = (s.lanes.get l).consumer ∧
      (((t.lanes.get l).state = .settle ∧ o'.settleTimer = 10 * f.settleLimit ∧ t.settleCondition l = false) ∨
        ((t.lanes.get l).state = .dwell ∧ o'.settleTimer = 0 ∧ o'.dwellTimer = f.dwell))

/-- A fetched order that was aborted ends ABORTED; one whose words fail ends REJECTED; the lane goes on by the rule of
its end. -/
def Obligations.AbortedOrRejectedFetchEnds : Prop :=
  ∀ (s : State) (l : LaneId) (o : ActiveOrder) (code : Completion), s.part = .running →
    (s.lanes.get l).state = .fetch → (s.lanes.get l).order = some o → 8 ≤ o.words.length →
    (o.abortPending = true ∧ code = .aborted ∨ o.abortPending = false ∧ orderRejected o.words = some code) →
    let x := s.lanes.get l
    let fails := (o.words.getD 0 unlisted).parityOk = false ∨ (parseOrder o.words).stopOnFail = true
    ∃ t, exec (.orderFetchComplete l) s = .next t ∧ t.lower = s.lower ∧
      (∀ m, m ≠ l → (t.lanes.get m).still = (s.lanes.get m).still) ∧
      s.port.writes ++ s.endWrites l o code <+: t.port.writes ∧
      (x.stopPending = true ∨ o.abortPending = true ∨ fails →
        t.lanes.get l = x.afterEnd (s.ringSize l) (s.lay.rest.get l) true) ∧
      (x.stopPending = false → o.abortPending = false → ¬ fails →
        t.lanes.get l = x.afterEnd (s.ringSize l) (s.lay.rest.get l) false)

/-- The settle timer's expiry sets SLOW_SETTLE and takes the lane to DWELL with the order's dwell. -/
def Obligations.SettleExpiryEntersDwell : Prop :=
  ∀ (s : State) (l : LaneId) (o : ActiveOrder) (f : OrderFields), s.part = .running →
    (s.lanes.get l).state = .settle → (s.lanes.get l).order = some o → o.settleTimer = 0 → o.fields = some f →
    ∃ t o', exec (.settleTimerExpiry l) s = .next t ∧ t.lower = s.lower ∧
      (∀ m, m ≠ l → (t.lanes.get m).still = (s.lanes.get m).still) ∧
      (t.lanes.get l).state = .dwell ∧ (t.lanes.get l).order = some o' ∧ o'.core = o.core ∧
      o'.dwellTimer = f.dwell ∧ o'.settleTimer = 0 ∧ o'.flags.slowSettle = true ∧
      (o.flags.damperJammed = true ∨ s.watchesJam l = true → o'.flags.damperJammed = true) ∧
      (t.lanes.get l).mirror = (s.lanes.get l).mirror ∧ (t.lanes.get l).consumer = (s.lanes.get l).consumer ∧
      (t.lanes.get l).stopPending = (s.lanes.get l).stopPending

/-- The dwell timer's expiry ends an order without a check DONE, and takes one with a check to CHECK, where the lane
asks for its spots. The last result awaited judges the check: an open channel ends the order CHECK_FAILED, a pass of every
test DONE, and a failed test retries it while retries remain and ends it CHECK_FAILED otherwise. -/
def Obligations.DwellExpiryEndsOrChecks : Prop :=
  (∀ (s : State) (l : LaneId) (o : ActiveOrder) (f : OrderFields), s.part = .running →
    (s.lanes.get l).state = .dwell → (s.lanes.get l).order = some o → o.dwellTimer = 0 → o.fields = some f →
    let x := s.lanes.get l
    let temperature := f.targetPresent = true ∧ 0 < f.tolerance
    (¬ temperature → f.checkQuality = false → ∃ t, exec (.dwellTimerExpiry l) s = .next t ∧ t.lower = s.lower ∧
      (∀ m, m ≠ l → (t.lanes.get m).still = (s.lanes.get m).still) ∧
      s.port.writes ++ s.endWrites l o .done <+: t.port.writes ∧
      t.lanes.get l = x.afterEnd (s.ringSize l) (s.lay.rest.get l) x.stopPending) ∧
    (temperature ∨ f.checkQuality = true → ∃ t o', exec (.dwellTimerExpiry l) s = .next t ∧ t.lower = s.lower ∧
      (∀ m, m ≠ l → (t.lanes.get m).still = (s.lanes.get m).still) ∧
      (t.lanes.get l).state = .check ∧ (t.lanes.get l).order = some o' ∧ o'.fields = some f ∧ o'.results = [] ∧
      (∀ c, c ∈ o'.awaited ↔ (temperature ∧ c = l.channel) ∨ (f.checkQuality = true ∧ (c = 4 ∨ c = 5))) ∧
      ∀ c ∈ o'.awaited, ∃ e ∈ t.scanner.queue, e.channel = c ∧ e.requesters.lanes.get l = true)) ∧
  (∀ (s : State) (l : LaneId) (o : ActiveOrder) (f : OrderFields) (r : SpotResult), s.part = .running →
    (s.lanes.get l).state = .check → (s.lanes.get l).order = some o → o.fields = some f → r.channel ∈ o.awaited →
    let x := s.lanes.get l
    let o1 := { o with awaited := o.awaited.filter (fun c => c ≠ r.channel), results := o.results ++ [r] }
    let t := s.deliverLane l r
    let unread := ∃ q ∈ o1.results, q.isOpen = true
    let passed := ∀ q ∈ o1.results,
      (q.channel = l.channel → q.value ≤ f.target + f.tolerance ∧ f.target ≤ q.value + f.tolerance) ∧
      (q.channel ≠ l.channel → s.spotClass q.channel q.value = .ok)
    let ended := fun (code : Completion) (o2 : ActiveOrder) (stops : Bool) =>
      s.port.writes ++ s.endWrites l o2 code <+: t.port.writes ∧
        t.lanes.get l = x.afterEnd (s.ringSize l) (s.lay.rest.get l) (x.stopPending || stops)
    t.lower = s.lower ∧ (∀ m, m ≠ l → (t.lanes.get m).still = (s.lanes.get m).still) ∧
    (o1.awaited ≠ [] → t = s.setOrder l o1) ∧
    (o1.awaited = [] →
      (unread → ended .checkFailed { o1 with flags := { o1.flags with sensorOpen := true } } f.stopOnFail) ∧
      (¬ unread → passed → ended .done o1 false) ∧
      (¬ unread → ¬ passed → f.retryLimit ≤ o.retries → ended .checkFailed o1 f.stopOnFail) ∧
      (¬ unread → ¬ passed → o.retries < f.retryLimit →
        let f' := { f with source := if f.swapInlet = true
          then (match f.source with | .freshRoof => .freshBumper | .freshBumper => .freshRoof | q => q) else f.source }
        ∃ o', (t.lanes.get l).order = some o' ∧ o'.slot = o.slot ∧ o'.fields = some f' ∧
          o'.retries = o.retries + 1 ∧ o'.flags.retried = true ∧ o'.awaited = [] ∧ o'.results = [] ∧
          (t.lanes.get l).carried = (if f' = f then x.carried else f'.demand) ∧
          (t.lanes.get l).mirror = x.mirror ∧ (t.lanes.get l).consumer = x.consumer ∧
          (t.lanes.get l).stopPending = x.stopPending ∧
          (f' = f → s.port.writes ++ [⟨s.slotWord l o.slot 5,
            slotStatusWord .inProgress { o.flags with retried := true } (o.retries + 1), .plain⟩] <+: t.port.writes) ∧
          (∃ fl : StickyFlags, fl.retried = true ∧
            ⟨s.slotWord l o.slot 5, slotStatusWord .inProgress fl (o.retries + 1), .plain⟩ ∈ t.port.writes) ∧
          (((t.lanes.get l).state = .settle ∧ o'.settleTimer = 10 * f.settleLimit ∧ t.settleCondition l = false) ∨
            ((t.lanes.get l).state = .dwell ∧ o'.settleTimer = 0 ∧ o'.dwellTimer = f.dwell)))))

/-! ### The Hold Table -/

/-- A raise of an absent pair puts its record at the end, with a phase for PURGE alone; a raise of a present pair only drops
a release-not-before tag. A release takes the record of a present pair out; a release of an absent pair changes nothing. A
hold-down that has run out is such a release. Grade notices bar an inlet, start its hold-down, and raise or release CAB_FOUL,
which triggers a purge. A raise that affects a lane's zone ends its order or overrides it. -/
def Obligations.HoldsRaisedAndReleased : Prop :=
  (∀ (s : State) (k : HoldKey) (c : HoldCause), s.part = .running → k ≠ .purge → s.hasHold k = false →
    (∃ more, (s.takeRaise k c).holds.map HoldRecord.key = s.holds.map HoldRecord.key ++ k :: more) ∧
    (s.takeRaise k c).holdRecord k =
      some { key := k, cause := c, raised := s.tagClock, notBefore := none, phase := none }) ∧
  (∀ (s : State) (c : HoldCause) (p : PurgeState),
    (s.createHold .purge c (some p)).holds =
      s.holds ++ [{ key := .purge, cause := c, raised := s.tagClock, notBefore := none, phase := some p }]) ∧
  (∀ (s : State) (new : Purge) (e : Option Event) (c : PurgeCause), s.purge.state = .idle → s.hasHold .purge = false →
    new.cause = some c →
    (s.purgeGo new e).holds = s.holds ++
      [{ key := .purge
         cause := match c with
           | .doors => .doors
           | .cabFoul => .cabFoul
           | .button => .button
           | .service => .service
         raised := s.tagClock, notBefore := none, phase := some new.state }]) ∧
  (∀ (s : State) (k : HoldKey) (c : HoldCause), s.part = .running → s.hasHold k = true →
    s.takeRaise k c =
      { s with holds := s.holds.map (fun r => if r.key = k then { r with notBefore := none } else r) }) ∧
  (∀ (s : State) (k : HoldKey), s.part = .running →
    (s.takeRelease k).holds.map HoldRecord.key = (s.holds.map HoldRecord.key).erase k) ∧
  (∀ (s : State) (k : HoldKey), s.hasHold k = false → s.takeRelease k = s) ∧
  (∀ (s : State) (i : Inlet) (r : HoldRecord), s.part = .running → s.holdRecord (.inletBarred i) = some r →
    r.notBefore = some s.tagClock → ∃ t, exec (.inletHoldDownExpiry i) s = .next t ∧ t.base = s.base ∧
      t.holds.map HoldRecord.key = (s.holds.map HoldRecord.key).erase (.inletBarred i)) ∧
  (∀ (s : State) (i : Inlet) (g : Grade),
    let t := s.tableGradeNotice (match i with | .roof => .roof | .bumper => .bumper) g
    (g = .foul → t = s.takeRaise (.inletBarred i) .gradeFoul) ∧
    (g = .blind → t = s.takeRaise (.inletBarred i) .gradeBlind) ∧
    (g = .clean ∨ g = .suspect → t = { s with holds := s.holds.map (fun r =>
      if r.key = .inletBarred i ∧ r.notBefore = none
        then { r with notBefore := some (s.tagClock + w16 (10 * s.lay.holdDown)) } else r) })) ∧
  (∀ (s : State) (g : Grade), s.part = .running →
    let t := s.tableGradeNotice .cab g
    (g = .foul → t = s.takeRaise .cabFoul .gradeFoul ∧ t.hasHold .cabFoul = true ∧
      (s.hasHold .cabFoul = false → t.purge.cause = some .cabFoul ∧ t.purge.state ≠ .idle)) ∧
    (g ≠ .foul → t = s.takeRelease .cabFoul)) ∧
  (∀ (s : State) (k : HoldKey) (l : LaneId), s.part = .running →
    let x := s.lanes.get l
    let t := s.offerHold k l
    (x.inForce = none → t = s) ∧
    (∀ f o, x.inForce = some f → x.order = some o →
      let affects := k = .purge ∨ (l = .front ∧ (k = .doorOpen .fl ∨ k = .doorOpen .fr)) ∨
        (l = .crew ∧ (k = .doorOpen .cl ∨ k = .doorOpen .cr ∨ k = .doorOpen .hatch)) ∨ k = .damperJam l.damper ∨
        (f.targetPresent = true ∧ (k = .heatShed ∨ k = .engineOff))
      (¬ affects → t = s) ∧
      (affects → f.stopOnHold = false → t = s.setOrder l { o with flags := { o.flags with overridden := true } }) ∧
      (affects → f.stopOnHold = true → t.lower = s.lower ∧
        (∀ m, m ≠ l → (t.lanes.get m).still = (s.lanes.get m).still) ∧
        s.port.writes ++ s.endWrites l o .holdEnded <+: t.port.writes ∧
        t.lanes.get l = x.afterEnd (s.ringSize l) (s.lay.rest.get l) true)))

/-! ### The Purge Controller -/

/-- PURGE_REQUEST is a trigger: from IDLE it starts a purge and raises the PURGE hold, in WAIT_CLOSE it sets the cause,
in RUN and SCRUB it sets the time afresh, in VERIFY it begins RUN or SCRUB anew. The model's choice: the write-back is
queued last (log 41). -/
def Obligations.PurgeRequestTriggersPurge : Prop :=
  ∀ s : State, s.part = .running →
    let g := s.atGrant
    let p := g.purge
    let L := g.lay
    ∃ t, exec .purgeRequest s = .next t ∧ t.purge.cause = some .service ∧
      t.base = (g.forwardWrite 0x40 (.good 5)).base ∧
      t.port.writes.getLast? = some ⟨0x40, 0, .plain⟩ ∧
      (p.state = .idle → t.purge.extensions = 0 ∧ t.hasHold .purge = true) ∧
      (p.state = .idle → p.doorOpen = true →
        t.purge = { p with state := .waitClose, cause := some .service, extensions := 0 }) ∧
      (p.state = .idle → p.doorOpen = false → EntersFlow g L.purgeTime L.scrubTime t.purge) ∧
      (p.state = .waitClose → t.purge = { p with cause := some .service }) ∧
      (p.state = .run →
        t.purge = { p with cause := some .service, extensions := 0, remaining := some (10 * L.purgeTime) }) ∧
      (p.state = .scrub →
        t.purge = { p with cause := some .service, extensions := 0, remaining := some (10 * L.scrubTime) }) ∧
      (p.state = .verify → t.purge.extensions = 0 ∧ t.purge.results = [] ∧ t.purge.awaited = [] ∧
        EntersFlow g L.purgeTime L.scrubTime t.purge)

/-- The purge timer's expiry takes RUN or SCRUB to VERIFY, which asks for CAB_CO and CAB_PM. -/
def Obligations.PurgeTimerExpiryEntersVerify : Prop :=
  ∀ s : State, s.part = .running → s.purge.state = .run ∨ s.purge.state = .scrub → s.purge.remaining = some 0 →
    ∃ t, exec .purgeTimerExpiry s = .next t ∧ t.base = s.base ∧
      t.purge = { s.purge with
        state := .verify, remaining := none, origin := some s.purge.state, awaited := [4, 5], results := [] } ∧
      (∀ c : Fin 16, c = 4 ∨ c = 5 → ∃ e ∈ t.scanner.queue, e.channel = c ∧ e.requesters.purge = true) ∧
      t.holds.map HoldRecord.key = s.holds.map HoldRecord.key ∧
      (∀ r, t.holdRecord .purge = some r → r.phase = some .verify)

/-- In VERIFY each result awaited is noted, and the last is judged by the first line that applies, with the event of its line
first. In RUN and SCRUB the inlets are re-judged: an inlet switch, a fall-back to SCRUB, a return to RUN. -/
def Obligations.PurgeJudgedByFirstLine : Prop :=
  (∀ (s : State) (r : SpotResult),
    let p := s.purge
    let noted := { p with awaited := p.awaited.filter (fun c => c ≠ r.channel), results := p.results ++ [r] }
    let u := { s with purge := noted }
    (p.state ≠ .verify ∨ r.channel ∉ p.awaited → s.deliverPurge r = s) ∧
    (p.state = .verify → r.channel ∈ p.awaited →
      (noted.awaited ≠ [] → s.deliverPurge r = u) ∧ (noted.awaited = [] → s.deliverPurge r = u.purgeJudge))) ∧
  (∀ (s : State) (c : PurgeCause), s.part = .running → s.purge.state = .verify → s.purge.cause = some c →
    let p := s.purge
    let t := s.purgeJudge
    let unverified := ∃ r ∈ p.results, r.isOpen = true
    let clean := ∀ r ∈ p.results, s.spotClass r.channel r.value = .ok
    let told := fun (kind : EventKind) (value : Word) =>
      (s.emit { kind := kind, subject := w16 c.code, value := value }).port.writes <+: t.port.writes
    let openOf := fun (k : Fin 16) => flag (p.results.any (fun r => r.channel == k && r.isOpen))
    (unverified → told .purgeUnverified (w16 (openOf 4 + 2 * openOf 5))) ∧
    (¬ unverified → clean → told .purgeDone (w16 p.extensions)) ∧
    (¬ unverified → ¬ clean → s.lay.extensionLimit ≤ p.extensions → told .purgeUnresolved (w16 p.extensions)) ∧
    (¬ unverified → ¬ clean → p.extensions < s.lay.extensionLimit →
      (t.purge.state = .run → t.events = s.events) ∧
      (t.purge.state = .scrub → told .purgeScrub (w16 (p.extensions + 1))))) ∧
  (∀ (s : State) (i : Inlet), s.purgeAllows i = true ↔ s.hasHold (.inletBarred i) = false ∧
    (s.damper i.damper).state ≠ .jammed ∧ (s.damper i.damper).estimate ≠ none) ∧
  (∀ s : State, s.part = .running →
    let p := s.purge
    let t := s.purgeRejudge
    let best := s.lay.preferred
    let goes := fun (new : Purge) => t.purge = new ∧ t.base = s.base ∧
      t.governor.view.purge = new.state ∧ t.governor.view.purgeInlet = new.inlet ∧
      t.holds.map HoldRecord.key = s.holds.map HoldRecord.key
    let phased := fun (x : PurgeState) => ∀ r, t.holdRecord .purge = some r → r.phase = some x
    (p.state ≠ .run → p.state ≠ .scrub → t = s) ∧
    (∀ i, p.state = .run → p.inlet = some i →
      (s.purgeAllows i = true → t = s) ∧
      (s.purgeAllows i = false → s.purgeAllows i.other = true →
        goes { p with inlet := some i.other } ∧ t.holds = s.holds ∧ t.events = s.events) ∧
      (s.purgeAllows i = false → s.purgeAllows i.other = false →
        goes { p with state := .scrub, inlet := none, remaining := some (10 * s.lay.scrubTime) } ∧ phased .scrub ∧
          t.events.scrub = true ∧
          ∀ c, p.cause = some c →
            (s.emit { kind := .purgeScrub, subject := w16 c.code, value := w16 p.extensions }).port.writes
              <+: t.port.writes)) ∧
    (p.state = .scrub →
      let entered := fun (i : Inlet) =>
        goes { p with state := .run, inlet := some i, remaining := some (10 * s.lay.purgeTime) } ∧ phased .run ∧
          t.events.scrub = false ∧ t.events.producer = s.events.producer ∧ t.events.overrun = s.events.overrun
      (s.purgeAllows best = true → entered best) ∧
      (s.purgeAllows best = false → s.purgeAllows best.other = true → entered best.other) ∧
      (s.purgeAllows best = false → s.purgeAllows best.other = false → t = s))) ∧
  ∀ s : State, s.part = .running → s.purge.state = .verify → s.holdsDistinct → s.purgeHeld →
    let p := s.purge
    let t := s.purgeJudge
    let unverified := ∃ r ∈ p.results, r.isOpen = true
    let clean := ∀ r ∈ p.results, s.spotClass r.channel r.value = .ok
    (unverified ∨ clean ∨ s.lay.extensionLimit ≤ p.extensions →
      t.purge = { Purge.reset with doorOpen := p.doorOpen } ∧ t.hasHold .purge = false) ∧
    (¬ unverified → ¬ clean → p.extensions < s.lay.extensionLimit →
      t.purge.extensions = p.extensions + 1 ∧ t.purge.cause = p.cause ∧ t.purge.doorOpen = p.doorOpen ∧
      t.hasHold .purge = true ∧ EntersFlow s s.lay.extensionTime s.lay.extensionTime t.purge)

/-! ### The Sense Scanner -/

/-- A completed conversion moves its channel's last result, runs, OPEN flag and window, queues its image words, tells a change
of the OPEN flag, and is handed to the blocks of its channel. A scan then goes on to its next position, to the spots or to the
end of its pass; a spot is delivered to its served set, its entry closes, and the scanner goes on to the next head or leaves
by its resume point. The model's choice: a requester leaves the entry just before its result is delivered to it (log 21), and
the note of a pass's end is none once a pass begins or the scanner stops on leaving SPOT (log 39). -/
def Obligations.ConversionUpdatesChannelAndGoesOn : Prop :=
  (∀ (s : State) (v : Conversion) (result : BitVec 12), s.part = .running → s.scanner.conversion = some v →
    v.began + 3 ≤ s.now →
    let r := result.toNat
    let c := s.channel v.channel
    let rail := match s.lay.methods.get v.channel with
      | .none => False
      | .precharge => 4080 ≤ r
      | .discharge => r ≤ 15
    ∃ t, exec (.conversionComplete result) s = .next t ∧
      t.ground = { s.ground with channels := t.scanner.channels } ∧
      (∀ d, d ≠ v.channel → t.channel d = s.channel d) ∧
      (t.channel v.channel).last = some (r, if s.scanner.state = .spot then .spot else .scan) ∧
      (rail → (t.channel v.channel).railRun = min (c.railRun + 1) 3 ∧ (t.channel v.channel).clearRun = 0 ∧
        ((t.channel v.channel).isOpen = true ↔ c.isOpen = true ∨ 3 ≤ c.railRun + 1) ∧
        (t.channel v.channel).window = c.window) ∧
      (¬ rail → (t.channel v.channel).clearRun = min (c.clearRun + 1) 3 ∧ (t.channel v.channel).railRun = 0 ∧
        ((t.channel v.channel).isOpen = true ↔ c.isOpen = true ∧ ¬ 3 ≤ c.clearRun + 1) ∧
        (c.isOpen = false → (t.channel v.channel).window = (c.window ++ [r]).drop (c.window.length + 1 - 4)) ∧
        (c.isOpen = true → (t.channel v.channel).isOpen = false → (t.channel v.channel).window = [r]) ∧
        ((t.channel v.channel).isOpen = true → (t.channel v.channel).window = c.window)) ∧
      (∀ isRail updated : Bool, (isRail = true ↔ rail) → (updated = true ↔ ¬ rail ∧ (t.channel v.channel).isOpen = false) →
        let after := t.channel v.channel
        let recorded := { s with scanner := { s.scanner with
          conversion := none, channels := vset s.scanner.channels v.channel after } }
        let raw := recorded.putImage (s.lay.senseBase + 2 * v.channel.val) after.rawWord
        let imaged := if updated = true
          then raw.putImage (s.lay.senseBase + 2 * v.channel.val + 1) after.filteredWord else raw
        let told := if after.isOpen = c.isOpen then imaged else imaged.emit
          { kind := if after.isOpen = true then .channelOpen else .channelRestored
            subject := w16 v.channel.val, value := w16 r }
        let handed := told.handConversion v.channel r isRail updated
        t = if s.scanner.state = .spot
          then ([.lane .front, .lane .crew, .lane .screen, .purge, .heat, .service].foldl
            (fun u q => u.deliver ⟨v.channel, r, after.isOpen⟩ q) handed).afterSpot
          else handed.afterScan) ∧
      (s.scanner.state = .scanning → s.scanner.queue = [] →
        let p := s.scanner.position
        (t.scanner.queue ≠ [] → t.scanner.state = .spot ∧
          t.scanner.resume = if s.lay.scanLength ≤ p + 1 then .endOfPass else .at (p + 1)) ∧
        (t.scanner.queue = [] → p + 1 < s.lay.scanLength → t.scanner.state = .scanning ∧ t.scanner.position = p + 1 ∧
          t.scanner.conversion = some { channel := s.lay.scanned.getD (p + 1) 0, began := s.now }) ∧
        (t.scanner.queue = [] → s.lay.scanLength ≤ p + 1 →
          if s.now - s.scanner.passStart.getD s.now < 100 * s.lay.scanPeriod then t.scanner.state = .waiting
          else t.scanner.state = .scanning ∧ t.scanner.position = 0 ∧ t.scanner.passStart = some s.now))) ∧
  (∀ (u : State) (c : Fin 16) (r : Nat) (rail updated : Bool),
    let t := u.handConversion c r rail updated
    (∀ g : Fin 6, g.val = c.val → t = u.graderReading g r rail (u.channel c).isOpen) ∧
    (c = 6 → t = u.recomputeConversion (if updated = true then (u.channel 6).filtered else none)) ∧
    (c = 8 ∨ c = 9 ∨ c = 10 → t = u.recomputeConversion none) ∧
    (c = 12 →
      let w := u.recomputeConversion none
      t = ({ w with heat := { w.heat with
        coolant := (u.channel 12).filtered, coolantOpen := (u.channel 12).isOpen } } : State).rejudgeHeat) ∧
    (c = 14 → t = u.voltReading r (u.channel 14).isOpen) ∧
    (c = 15 → t = { u with heat := { u.heat with lastAmps := some r } }) ∧
    (c = 7 ∨ c = 11 ∨ c = 13 → t = u)) ∧
  (∀ (s : State) (q : Requester) (r : SpotResult) (e : SpotEntry) (es : List SpotEntry) (served : RequesterSet),
    s.scanner.queue = e :: es → e.served = some served →
    let left := { s with scanner := { s.scanner with queue :=
      { e with requesters := e.requesters.put q false, served := some (served.put q false) } :: es } }
    (served.has q = false → s.deliver r q = s) ∧
    (served.has q = true →
      (∀ l, q = .lane l → s.deliver r q = left.deliverLane l r) ∧ (q = .purge → s.deliver r q = left.deliverPurge r) ∧
      (q = .heat → s.deliver r q = left.deliverHeat r) ∧
      (q = .service → s.deliver r q = left.emit
        { kind := .spotDone, subject := w16 (r.channel.val + 32768 * flag r.isOpen), value := w16 r.value }))) ∧
  (∀ (s : State) (e : SpotEntry) (es : List SpotEntry), s.scanner.queue = e :: es →
    let t := s.afterSpot
    let closed := if e.requesters = RequesterSet.none then es else { e with served := none } :: es
    (∀ h hs, closed = h :: hs → t = { s with scanner := { s.scanner with
      state := .spot, position := 0, queue := { h with served := some h.requesters } :: hs
      conversion := some { channel := h.channel, began := s.now } } }) ∧
    (closed = [] →
      let left := { s.scanner with position := 0, queue := [], resume := .absent, conversion := none }
      let begun := { left with
        state := .scanning, passStart := some s.now, ended := none
        conversion := some { channel := s.lay.scanned.getD 0 0, began := s.now } }
      (s.scanner.resume = .absent →
        t = { s with scanner := { left with state := .stopped, passStart := none, ended := none } }) ∧
      (∀ p, s.scanner.resume = .at p → t = { s with scanner := { left with
        state := .scanning, position := p
        conversion := some { channel := s.lay.scanned.getD p 0, began := s.now } } }) ∧
      (s.scanner.resume = .endOfPass → s.now - s.scanner.passStart.getD s.now < 100 * s.lay.scanPeriod →
        t = { s with scanner := { left with state := .waiting } }) ∧
      (s.scanner.resume = .endOfPass → 100 * s.lay.scanPeriod ≤ s.now - s.scanner.passStart.getD s.now →
        t = { s with scanner := begun }) ∧
      (s.scanner.resume = .restart → t = { s with scanner := begun })))

/-- A pass begins when the scan period has elapsed in WAITING and at SCAN_START outside SPOT; SCAN_STOP ends the scan;
in SPOT both commands only change how the scanner goes on. -/
def Obligations.ScanBegunAndStopped : Prop :=
  ∀ s : State,
    (s.part = .running → s.scanner.state = .waiting →
      100 * s.lay.scanPeriod ≤ s.now - s.scanner.passStart.getD s.now →
      exec .scanPeriodElapsed s = .next { s with scanner := { s.scanner with
        state := .scanning, position := 0, passStart := some s.now, ended := none, resume := .absent
        conversion := some { channel := s.lay.scanned.getD 0 0, began := s.now } } }) ∧
    (s.part = .running →
      let g := s.atGrant
      let started := g.forwardWrite 0x40 (.good 2)
      let stopped := g.forwardWrite 0x40 (.good 3)
      (g.scanner.state ≠ .spot → exec .scanStart s = .next (({ started with scanner := { g.scanner with
        state := .scanning, position := 0, passStart := some g.now, ended := none, resume := .absent
        conversion := some { channel := g.lay.scanned.getD 0 0, began := g.now } } }).offer 0x40 0)) ∧
      (g.scanner.state = .spot → exec .scanStart s =
        .next (({ started with scanner := { g.scanner with resume := .restart } }).offer 0x40 0)) ∧
      (g.scanner.state = .scanning ∨ g.scanner.state = .waiting → exec .scanStop s =
        .next (({ stopped with scanner := { g.scanner with
          state := .stopped, position := 0, passStart := none, ended := none, resume := .absent
          conversion := none } }).offer 0x40 0)) ∧
      (g.scanner.state = .spot → exec .scanStop s =
        .next (({ stopped with scanner := { g.scanner with resume := .absent, passStart := none } }).offer 0x40 0)) ∧
      (g.scanner.state = .stopped → exec .scanStop s = .next (stopped.offer 0x40 0)))

/-- SPOT_READ asks for a spot of the channel the service argument names, with requester SERVICE; a channel above 15 is
refused. The request takes the scanner to SPOT with the resume point of the state it leaves; one that follows, at the same
moment, a completion that ended a pass finds the pass still to end (log 39). A withdrawal takes the requester out of the
channel's entry, and with its last requester an entry that is not under conversion out of the queue. -/
def Obligations.SpotReadAsksForItsChannel : Prop :=
  (∀ s : State, s.part = .running →
    let g := s.atGrant
    let w := g.forwardWrite 0x40 (.good 4)
    (∀ c : Fin 16, g.serviceArg.toNat = c.val → ∃ t, exec .spotRead s = .next t ∧
      t.still = w.still ∧ t.lanes = w.lanes ∧ t.port.writes = w.port.writes ++ [⟨0x40, 0, .plain⟩] ∧
      t.port.images = w.port.images ∧ t.governor = w.governor ∧ t.drive = w.drive ∧ t.heat = w.heat ∧
      (∃ e ∈ t.scanner.queue, e.channel = c ∧ e.requesters.service = true) ∧
      t.scanner.queue.map SpotEntry.channel = (if c ∈ g.scanner.queue.map SpotEntry.channel
        then g.scanner.queue.map SpotEntry.channel else g.scanner.queue.map SpotEntry.channel ++ [c]) ∧
      (g.scanner.state = .waiting → t.scanner.state = .spot ∧ t.scanner.resume = .endOfPass) ∧
      (g.scanner.state = .stopped → t.scanner.state = .spot ∧ t.scanner.resume = .absent) ∧
      (g.scanner.state = .waiting ∨ g.scanner.state = .stopped → t.scanner.passStart = g.scanner.passStart) ∧
      (g.scanner.state = .scanning → g.scanner.conversion.isSome = true →
        (∀ e, g.scanner.ended = some e → e.moment ≠ g.now) →
        t.scanner.state = .spot ∧ t.scanner.resume = .at g.scanner.position ∧
          t.scanner.passStart = g.scanner.passStart) ∧
      (∀ e, g.scanner.state = .scanning → g.scanner.conversion.isSome = true → g.scanner.ended = some e →
        e.moment = g.now →
        t.scanner.state = .spot ∧ t.scanner.resume = .endOfPass ∧ t.scanner.passStart = e.start) ∧
      (g.scanner.state = .spot → t.scanner = { g.scanner with queue := t.scanner.queue })) ∧
    (16 ≤ g.serviceArg.toNat → exec .spotRead s =
      .next (w.emit { kind := .serviceRefused, subject := 4, value := g.serviceArg }))) ∧
  (∀ (s : State) (r : Requester) (c : Fin 16),
    let t := s.withdrawSpot r c
    let out := fun (e : SpotEntry) =>
      { e with requesters := e.requesters.put r false, served := e.served.map (fun q => q.put r false) }
    t = { s with scanner := { s.scanner with queue := t.scanner.queue } } ∧
    (t.scanner.queue.map SpotEntry.channel).Sublist (s.scanner.queue.map SpotEntry.channel) ∧
    (∀ e, e.channel ≠ c → (e ∈ t.scanner.queue ↔ e ∈ s.scanner.queue)) ∧
    (∀ e ∈ s.scanner.queue, e.channel = c →
      (e.served ≠ none ∨ ∃ q, q ≠ r ∧ e.requesters.has q = true) → out e ∈ t.scanner.queue) ∧
    (∀ e' ∈ t.scanner.queue, e'.channel = c → e'.requesters.has r = false ∧
      (∀ v, e'.served = some v → v.has r = false) ∧ (e'.served ≠ none ∨ ∃ q, e'.requesters.has q = true) ∧
      ∃ e ∈ s.scanner.queue, e' = out e))

/-! ### The Air Grader -/

/-- A threshold write is forwarded, put into its word of the entry copy, and the whole entry is judged, by the four tests in
their order. -/
def Obligations.ThresholdWriteJudgesItsEntry : Prop :=
  (∀ copy : Vector RamWord 4,
    let n := fun (i : Fin 4) => (copy.get i).data.toNat
    let parity := ∀ i, (onesCount (copy.get i).data + flag (copy.get i).parity) % 2 = 1
    let limits := n 0 ≤ 4095 ∧ n 1 ≤ 4095 ∧ n 0 < n 1
    let margin := n 2 < n 0
    let counts := (1 ≤ n 3 % 256 ∧ n 3 % 256 ≤ 15) ∧ 1 ≤ n 3 / 256 ∧ n 3 / 256 ≤ 15
    (entryFault copy = none ↔ parity ∧ limits ∧ margin ∧ counts) ∧ (entryFault copy = some .parity ↔ ¬ parity) ∧
    (entryFault copy = some .limits ↔ parity ∧ ¬ limits) ∧
    (entryFault copy = some .margin ↔ parity ∧ limits ∧ ¬ margin) ∧
    (entryFault copy = some .counts ↔ parity ∧ limits ∧ margin ∧ ¬ counts) ∧
    parseEntry copy =
      { high := n 0, severe := n 1, margin := n 2, raiseCount := n 3 % 256, lowerCount := n 3 / 256 }) ∧
  ∀ (s : State) (L : Layout) (i : Fin 24) (v : Word), s.takesHost L →
    let g := s.atGrant
    let x := g.grading (entryChannel i)
    let copy := vset (x.copy.getD (Vector.replicate 4 unlisted)) (entryWord i) (.good v)
    ∃ t, exec (.thresholdWrite i v) s = .next t ∧
      t.ground = (g.forwardWrite (L.thresholdBase + i.val) (.good v)).ground ∧
      (∀ c, c ≠ entryChannel i → t.grading c = g.grading c) ∧
      (t.grading (entryChannel i)).copy = some copy ∧
      (t.grading (entryChannel i)).raiseRun = 0 ∧ (t.grading (entryChannel i)).lowerRun = 0 ∧
      (t.grading (entryChannel i)).openView = x.openView ∧
      (entryFault copy ≠ none → (t.grading (entryChannel i)).suspended = true ∧
        (t.grading (entryChannel i)).limits = x.limits ∧ (t.grading (entryChannel i)).level = x.level) ∧
      (entryFault copy = none → (t.grading (entryChannel i)).suspended = false ∧
        (t.grading (entryChannel i)).limits = some (parseEntry copy) ∧
        (t.grading (entryChannel i)).level = if x.suspended && x.openView then .blind else x.level)

/-- The classes of a reading, the grade of a body, and the class of a spot result without limits. -/
def Obligations.ReadingClassesAndBodyGrades : Prop :=
  (∀ (m : Limits) (r : Nat), m.high < m.severe → m.margin < m.high →
    (m.highClass r = .severe ↔ m.severe ≤ r) ∧ (m.highClass r = .high ↔ m.high ≤ r ∧ r < m.severe) ∧
    (m.highClass r = .ok ↔ r < m.high) ∧
    (m.lowClass r = .severe ↔ m.severe - m.margin ≤ r) ∧
    (m.lowClass r = .high ↔ m.high - m.margin ≤ r ∧ r < m.severe - m.margin) ∧
    (m.lowClass r = .ok ↔ r < m.high - m.margin) ∧ (m.highClass r).rank ≤ (m.lowClass r).rank) ∧
  (∀ a b : Level,
    (gradeOf a b = .foul ↔ a = .severe ∨ b = .severe) ∧
    (gradeOf a b = .blind ↔ (a = .blind ∨ b = .blind) ∧ a ≠ .severe ∧ b ≠ .severe) ∧
    (gradeOf a b = .suspect ↔
      (a = .high ∨ b = .high) ∧ a ≠ .severe ∧ b ≠ .severe ∧ a ≠ .blind ∧ b ≠ .blind) ∧
    (gradeOf a b = .clean ↔ a = .ok ∧ b = .ok)) ∧
  (∀ (s : State) (c : Fin 16) (g : Fin 6) (r : Nat), c.val = g.val →
    ((s.grading g).limits = none → s.spotClass c r = .severe) ∧
    (∀ m, (s.grading g).limits = some m → s.spotClass c r = m.highClass r))

/-- How one conversion moves the level and the runs of a graded channel, by its level, its suspension, the OPEN flag and
the reading. A level that changes is imaged, and a grade that changes with it gives its event, its word and its two notices,
the Hold Table's and the Governor's, in the order of a free value (log 9). -/
def Obligations.ReadingMovesLevelByRuns : Prop :=
  (∀ (g : Grading) (m : Limits) (r : Nat) (rail : Bool), g.limits = some m →
    (∀ isOpen, g.suspended = true → g.reading r rail isOpen = { g with openView := isOpen }) ∧
    (g.suspended = false → g.level ≠ .blind →
      g.reading r rail true = { g with openView := true, level := .blind, raiseRun := 0, lowerRun := 0 }) ∧
    (g.suspended = false → g.level = .blind → g.reading r rail true = { g with openView := true }) ∧
    (g.suspended = false → g.level = .blind →
      g.reading r true false = { g with openView := false, raiseRun := 0, lowerRun := 0 } ∧
      g.reading r false false =
        { g with openView := false, level := m.highClass r, raiseRun := 0, lowerRun := 0 }) ∧
    (g.suspended = false → g.level ≠ .blind → g.level.rank < (m.highClass r).rank →
      g.reading r rail false = if m.raiseCount ≤ g.raiseRun + 1
        then { g with openView := false, level := m.highClass r, raiseRun := 0, lowerRun := 0 }
        else { g with openView := false, raiseRun := g.raiseRun + 1, lowerRun := 0 }) ∧
    (g.suspended = false → g.level ≠ .blind → (m.highClass r).rank ≤ g.level.rank →
      (m.lowClass r).rank < g.level.rank →
      g.reading r rail false = if m.lowerCount ≤ g.lowerRun + 1
        then { g with openView := false, level := m.lowClass r, raiseRun := 0, lowerRun := 0 }
        else { g with openView := false, raiseRun := 0, lowerRun := g.lowerRun + 1 }) ∧
    (g.suspended = false → g.level ≠ .blind → (m.highClass r).rank ≤ g.level.rank →
      g.level.rank ≤ (m.lowClass r).rank →
      g.reading r rail false = { g with openView := false, raiseRun := 0, lowerRun := 0 })) ∧
  (∀ (s : State) (c : Fin 6) (r : Nat) (rail isOpen : Bool),
    let g := (s.grading c).reading r rail isOpen
    let u := { s with grader := { s.grader with channels := vset s.grader.channels c g } }
    s.graderReading c r rail isOpen = if g.level = (s.grading c).level then u else u.levelChanged c) ∧
  (∀ (s : State) (c : Fin 6) (b : Body), (c = 0 ∨ c = 1) ∧ b = .roof ∨ (c = 2 ∨ c = 3) ∧ b = .bumper ∨
      (c = 4 ∨ c = 5) ∧ b = .cab →
    let imaged := s.putStatus (3 + c.val) (w16 ((s.grading c).level.code + 32768 * flag (s.grading c).suspended))
    let new := match b with
      | .roof => gradeOf (s.grading 0).level (s.grading 1).level
      | .bumper => gradeOf (s.grading 2).level (s.grading 3).level
      | .cab => gradeOf (s.grading 4).level (s.grading 5).level
    let old := s.grader.grades.get b
    let graded := { imaged with
      grader := { s.grader with grades := s.grader.grades.set b new }, freeIndex := s.freeIndex + 1 }
    let told := (graded.emit { kind := .gradeChanged, subject := w16 b.code, value := w16 (new.code + 256 * old.code) }).putStatus
      b.code (w16 new.code)
    (new = old → s.levelChanged c = imaged) ∧
    (new ≠ old →
      (Config.gradeNoticeTableFirst s.freeIndex = true →
        s.levelChanged c = (told.tableGradeNotice b new).governorGradeNotice b new) ∧
      (Config.gradeNoticeTableFirst s.freeIndex = false →
        s.levelChanged c = (told.governorGradeNotice b new).tableGradeNotice b new))) ∧
  (∀ (s : State) (first : Bool) (b : Body) (g : Grade), s.part = .running → s.holdsDistinct →
    let t := s.changeGrade first b g
    t.ground = s.ground ∧ t.grader = { s.grader with grades := s.grader.grades.set b g } ∧
    t.governor.view.grades = s.governor.view.grades.set b g ∧
    (b = .cab → (t.hasHold .cabFoul = true ↔ g = .foul)) ∧
    (b = .roof → g = .foul ∨ g = .blind → t.hasHold (.inletBarred .roof) = true) ∧
    (b = .bumper → g = .foul ∨ g = .blind → t.hasHold (.inletBarred .bumper) = true))

/-! ### Switches, doors, engine and button -/

/-- A raw change away from the accepted level starts the debounce timer, one back to it stops the timer; outside RUNNING
the raw level alone is followed. -/
def Obligations.RawChangeDebounced : Prop :=
  ∀ (s : State) (i : SwitchId) (active : Bool), ∃ t, exec (.rawLevelChange i active) s = .next t ∧
    (t.switch i).raw = active ∧ (t.switch i).accepted = (s.switch i).accepted ∧
    (active = (s.switch i).raw → t = s) ∧
    (active ≠ (s.switch i).raw → s.part = .running → active ≠ (s.switch i).accepted →
      (t.switch i).debounce = some (s.now + s.lay.debounce i)) ∧
    (active ≠ (s.switch i).raw → s.part = .running → active = (s.switch i).accepted → (t.switch i).debounce = none) ∧
    (s.part ≠ .running → (t.switch i).debounce = (s.switch i).debounce) ∧
    (∀ j, j ≠ i → t.switch j = s.switch j) ∧
    ({ t with switches := s.switches } : State) = s ∧
    ({ t.switches with inputs := s.switches.inputs } : Switches) = s.switches

/-- A door accepted open joins the open set, raises its hold and interrupts a purge; one accepted closed leaves the set,
releases its hold and, as the last, ends the episode. -/
def Obligations.DoorAcceptedOpensAndCloses : Prop :=
  ∀ (s : State) (x : SwitchId × Door), x ∈ doorInputs → s.part = .running → s.reached (s.switch x.1).debounce = true →
    s.holdsDistinct →
    ∃ t, exec (.debounceTimerExpiry x.1) s = .next t ∧
      t.switch x.1 = { raw := (s.switch x.1).raw, accepted := (s.switch x.1).raw, debounce := none } ∧
      (∀ j, j ≠ x.1 → t.switch j = s.switch j) ∧
      t.base = { s.base with switches := t.switches } ∧
      t.switches.openSet = vset s.switches.openSet x.2.index (s.switch x.1).raw ∧
      t.hasHold (.doorOpen x.2) = (s.switch x.1).raw ∧
      ((s.switch x.1).raw = true → t.purge.doorOpen = true ∧
        t.switches.episodeStart = (if s.switches.openCount = 0 then some s.now else s.switches.episodeStart) ∧
        (s.purge.state = .idle ∨ s.purge.state = .waitClose → t.purge = { s.purge with doorOpen := true }) ∧
        (s.purge.state = .run ∨ s.purge.state = .scrub ∨ s.purge.state = .verify → t.purge = { s.purge with
          state := .waitClose, remaining := none, inlet := none, origin := none, awaited := [], results := []
          doorOpen := true })) ∧
      ((s.switch x.1).raw = false → t.switches.openCount ≠ 0 →
        t.purge = s.purge ∧ t.switches.episodeStart = s.switches.episodeStart) ∧
      ((s.switch x.1).raw = false → t.switches.openCount = 0 → t.switches.episodeStart = none ∧
        t.purge.doorOpen = false ∧
        (s.purge.state = .idle → s.exposure < 100 * s.lay.exposureThreshold →
          t.purge = { s.purge with doorOpen := false }) ∧
        (s.purge.state = .idle → 100 * s.lay.exposureThreshold ≤ s.exposure →
          t.purge.state ≠ .idle ∧ t.purge.cause = some .doors) ∧
        (s.purge.state = .waitClose → t.purge.state = .run ∨ t.purge.state = .scrub))

/-- ENGINE_RUN accepted ON is a release of ENGINE_OFF, accepted OFF a raise of it with cause INPUT, and nothing else. -/
def Obligations.EngineAcceptedGivesItsNotice : Prop :=
  ∀ s : State, s.part = .running → s.reached (s.switch .engineRun).debounce = true →
    let u := s.setSwitch .engineRun
      { raw := (s.switch .engineRun).raw, accepted := (s.switch .engineRun).raw, debounce := none }
    ((s.switch .engineRun).raw = true → exec (.debounceTimerExpiry .engineRun) s = .next (u.takeRelease .engineOff)) ∧
    ((s.switch .engineRun).raw = false →
      exec (.debounceTimerExpiry .engineRun) s = .next (u.takeRaise .engineOff .input)) ∧
    (u.takeRelease .engineOff).purge = s.purge ∧ (u.takeRaise .engineOff .input).purge = s.purge

/-- An accepted press starts the press timer; the timer's expiry marks the press long and triggers the purge; a release
before it gives BUTTON_SHORT alone. -/
def Obligations.ButtonPressTimedAndReleased : Prop :=
  (∀ s : State, s.part = .running → s.reached (s.switch .purgeButton).debounce = true →
    let u := s.setSwitch .purgeButton
      { raw := (s.switch .purgeButton).raw, accepted := (s.switch .purgeButton).raw, debounce := none }
    let ended := { u with switches := { u.switches with
      pressDeadline := none, pressBegan := none, longPressed := false } }
    ((s.switch .purgeButton).raw = true → exec (.debounceTimerExpiry .purgeButton) s =
      .next { u with switches := { u.switches with
        pressDeadline := some (s.now + 1000 * s.lay.longPress), pressBegan := some s.now, longPressed := false } }) ∧
    ((s.switch .purgeButton).raw = false → s.switches.longPressed = true →
      exec (.debounceTimerExpiry .purgeButton) s = .next ended) ∧
    ((s.switch .purgeButton).raw = false → s.switches.longPressed = false →
      exec (.debounceTimerExpiry .purgeButton) s = .next (ended.emit
        { kind := .buttonShort, subject := 0, value := w16 ((s.now - s.switches.pressBegan.getD s.now) / 100) }))) ∧
  (∀ s : State, s.part = .running → s.reached s.switches.pressDeadline = true →
    ∃ t, exec .pressTimerExpiry s = .next t ∧
      t.switches = { s.switches with pressDeadline := none, longPressed := true } ∧
      t.base = { s.base with switches := t.switches } ∧
      t.purge.cause = some .button ∧ t.purge.state ≠ .idle ∧
      (s.purge.state = .run → t.purge = { s.purge with
        cause := some .button, extensions := 0, remaining := some (10 * s.lay.purgeTime) }))

/-! ### The Damper Drive -/

/-- The planned end of MOVING seats a damper against a stop or brings it to rest; the seating time brings it to rest. A plan
leads toward its target, and at a stop against that stop. -/
def Obligations.PlannedEndsSeatOrRest : Prop :=
  (∀ (s : State) (d : Fin 8) (p : Plan), s.part = .running → s.mixCurrent → s.motionAgrees →
    (s.damper d).plan = some p → p.ends ≤ s.now →
    let x := s.damper d
    (x.state = .moving → ∃ t, exec (.movingPlannedEnd d) s = .next t ∧ t.base = s.base ∧ t.holds = s.holds ∧
      t.governor = s.governor ∧
      (x.target = 0 ∨ x.target = 100 → t.damper d = { x with
        state := .seating, estimate := some x.target
        plan := some { p with ends := s.now + 10 * s.lay.travel.get d } }) ∧
      (x.target ≠ 0 → x.target ≠ 100 →
        t.damper d = { x with state := .atRest, estimate := some x.target, plan := none })) ∧
    (x.state = .seating → ∃ t, exec (.seatingTimeOut d) s = .next t ∧ t.base = s.base ∧ t.holds = s.holds ∧
      t.governor = s.governor ∧ t.damper d = { x with state := .atRest, plan := none })) ∧
  (∀ (s : State) (d : Fin 8) (start target : Nat), start ≤ 100 → target ≤ 100 →
    let p := s.planFrom d start target
    (start < target → p.direction = .opening ∧ start + p.distance = target) ∧
    (target < start → p.direction = .closing ∧ target + p.distance = start) ∧
    (start = target → p.distance = 0 ∧ (target = 100 → p.direction = .opening) ∧ (target = 0 → p.direction = .closing)) ∧
    p.start = some start ∧ p.began = s.now ∧ p.ends = s.now + p.distance * s.lay.travel.get d) ∧
  (∀ (s : State) (d : Fin 8) (e : Nat), e = 0 ∨ e = 100 →
    let x := s.damper d
    (x.state = .seating ∧ x.estimate = some e) ∨ (x.state = .moving ∧ s.reckoned d = e) →
    (s.takeTarget State.recompute none d e).damper d = { x with
      state := .seating, estimate := some e, target := e
      plan := some
        { direction := if e = 100 then .opening else .closing, start := some e, distance := 0, began := s.now
          ends := s.now + 10 * s.lay.travel.get d } })

/-- A stall is the stop itself within 3 percent of it, the end of a seating, the end of a homing, and otherwise a jam;
a homing that runs out is a jam too. In the other states a stall is ignored. A stall taken at the moment of the planned end is
judged at the target (log 40), and a jam there freezes the estimate one percent short of it. -/
def Obligations.StallsAndHomingLimitsJudged : Prop :=
  ∀ (s : State) (d : Fin 8), s.part = .running → s.mixCurrent → s.motionAgrees →
    let x := s.damper d
    let e := s.reckoned d
    let jammed := fun (t : State) (cause : JamCause) (estimate : Option Nat) =>
      (t.damper d).state = .jammed ∧ (t.damper d).estimate = estimate ∧ (t.damper d).jam = some cause ∧
        (t.damper d).plan = none ∧ t.hasHold (.damperJam d) = true ∧ t.base = s.base ∧
        (d = 0 → t.governor.view.roofDamper.jammed = true) ∧ (d = 1 → t.governor.view.bumperDamper.jammed = true)
    (∀ p, x.state = .moving → x.plan = some p →
      let point := if p.ends ≤ s.now then x.target else e
      (p.direction = .opening → 97 ≤ point → ∃ t, exec (.stall d) s = .next t ∧ t.base = s.base ∧
        (t.damper d).estimate = some 100 ∧
        (x.target = 100 → t.damper d = { x with state := .atRest, estimate := some 100, plan := none }) ∧
        (x.target ≠ 100 → (t.damper d).state = .waiting ∨ (t.damper d).state = .moving)) ∧
      (p.direction = .closing → point ≤ 3 → ∃ t, exec (.stall d) s = .next t ∧ t.base = s.base ∧
        (t.damper d).estimate = some 0 ∧
        (x.target = 0 → t.damper d = { x with state := .atRest, estimate := some 0, plan := none }) ∧
        (x.target ≠ 0 → (t.damper d).state = .waiting ∨ (t.damper d).state = .moving)) ∧
      ((p.direction = .opening ∧ point < 97) ∨ (p.direction = .closing ∧ 3 < point) →
        ∃ t, exec (.stall d) s = .next t ∧ jammed t .stall (some e)) ∧
      (∀ start, p.start = some start → 0 < p.distance → 0 < s.lay.travel.get d →
        p.began + p.distance * s.lay.travel.get d ≤ s.now →
        (p.direction = .opening → start + p.distance = x.target → e + 1 = x.target) ∧
        (p.direction = .closing → x.target + p.distance = start → e = x.target + 1))) ∧
    (x.state = .seating → ∃ t, exec (.stall d) s = .next t ∧ t.base = s.base ∧
      t.damper d = { x with state := .atRest, plan := none }) ∧
    (x.state = .homing → ∃ t, exec (.stall d) s = .next t ∧ t.base = s.base ∧
      (t.damper d).estimate = some 0 ∧ (t.damper d).cleared = false ∧ (t.damper d).jam = x.jam ∧
      (d ≠ 0 → d ≠ 1 → x.target = 0 →
        t.damper d = { x with state := .atRest, estimate := some 0, plan := none, cleared := false }) ∧
      (d ≠ 0 → d ≠ 1 → x.target ≠ 0 → t.damper d = { x with
        state := .moving, estimate := some 0, cleared := false
        plan := some { direction := .opening, start := some 0, distance := x.target, began := s.now
                       ends := s.now + x.target * s.lay.travel.get d } }) ∧
      (d = 0 ∨ d = 1 →
        ((t.damper d).target = 0 → (t.damper d).state = .atRest ∨ (t.damper d).state = .seating) ∧
        ((t.damper d).target ≠ 0 → (t.damper d).state = .moving ∨ (t.damper d).state = .waiting)) ∧
      (d = 0 → t.governor.view.roofDamper.estimate = some 0) ∧
      (d = 1 → t.governor.view.bumperDamper.estimate = some 0)) ∧
    (x.state = .atRest ∨ x.state = .waiting ∨ x.state = .jammed → exec (.stall d) s = .next s) ∧
    (∀ p, x.state = .homing → x.plan = some p → p.ends ≤ s.now →
      ∃ t, exec (.homingLimit d) s = .next t ∧ jammed t .homing none)

/-- CLEAR_JAM takes the JAMMED damper that the service argument names to the Motion Queue for homing and releases its
hold; it is refused for any other argument. The model's choice: the write-back is queued last (log 41). -/
def Obligations.ClearJamQueuesForHoming : Prop :=
  ∀ s : State, s.part = .running → s.holdsDistinct → s.motionAgrees →
    let g := s.atGrant
    let w := g.forwardWrite 0x40 (.good 6)
    (∀ d : Fin 8, g.serviceArg.toNat = d.val → (g.damper d).state = .jammed →
      ∃ t, exec .clearJam s = .next t ∧ t.base = w.base ∧
        (t.damper d).estimate = none ∧ (t.damper d).jam = none ∧ (t.damper d).cleared = true ∧
        ((t.damper d).state = .waiting ∨ (t.damper d).state = .homing) ∧
        t.holds.map HoldRecord.key = (g.holds.map HoldRecord.key).erase (.damperJam d) ∧
        t.hasHold (.damperJam d) = false ∧ t.port.writes.getLast? = some ⟨0x40, 0, .plain⟩) ∧
    ((∀ d : Fin 8, g.serviceArg.toNat = d.val → (g.damper d).state ≠ .jammed) → exec .clearJam s =
      .next (w.emit { kind := .serviceRefused, subject := 6, value := g.serviceArg }))

/-! ### The Blower and Heat Unit -/

/-- A tach pulse after another gives the speed from their interval, a first pulse gives none, and 1000 ms without a pulse
give 0; a change of speed re-judges the watch. -/
def Obligations.TachMeasuresBlowerSpeed : Prop :=
  ∀ s : State, s.part = .running →
    let judged := fun (t : State) =>
      (s.heat.watch = .spent → t.heat.watch = .spent) ∧
      (t.heat.speed = s.heat.speed → t.heat.watch = s.heat.watch) ∧
      (t.heat.speed ≠ s.heat.speed → s.heat.watch = .idle →
        t.heat.watch = if 20 ≤ s.heat.blower ∧ t.heat.speed < 10 * s.lay.stallSpeed then .timing (s.now + 5000)
          else .idle) ∧
      (∀ n, t.heat.speed ≠ s.heat.speed → s.heat.watch = .timing n →
        t.heat.watch = if 20 ≤ s.heat.blower ∧ t.heat.speed < 10 * s.lay.stallSpeed then .timing n else .idle) ∧
      t.still = s.still ∧ t.lanes = s.lanes ∧ t.governor = s.governor ∧ t.drive = s.drive ∧ t.scanner = s.scanner ∧
      t.port.writes = s.port.writes ∧ t.heat.stages = s.heat.stages ∧ t.heat.blower = s.heat.blower
    (∀ p, s.heat.lastPulse = some p → ∃ t, exec .tachPulse s = .next t ∧ judged t ∧
      t.heat.speed = min (30000 / max (s.now - p) 1) 65535 ∧ t.heat.lastPulse = some s.now) ∧
    (s.heat.lastPulse = none → ∃ t, exec .tachPulse s = .next t ∧ judged t ∧
      t.heat.speed = s.heat.speed ∧ t.heat.lastPulse = some s.now) ∧
    (∀ p, s.heat.lastPulse = some p → 1000 ≤ s.now - p → ∃ t, exec .tachTimeout s = .next t ∧ judged t ∧
      t.heat.speed = 0 ∧ t.heat.lastPulse = none)

/-- The watch's expiry raises BLOWER_FAIL, which turns every stage off; CLEAR_BLOWER_FAIL releases it and restarts the
watch. The model's choice: the write-back is queued last (log 41). -/
def Obligations.BlowerWatchRunsOutAndIsCleared : Prop :=
  (∀ (s : State) (n : Nat), s.part = .running → s.heat.watch = .timing n → n ≤ s.now → s.stagesBounded →
    ∃ t, exec .blowerWatchExpiry s = .next t ∧ t.base = s.base ∧ t.heat.watch = .spent ∧
      t.hasHold .blowerFail = true ∧ t.heat.energised = 0) ∧
  (∀ s : State, s.part = .running → s.holdsDistinct →
    let g := s.atGrant
    ∃ t, exec .clearBlowerFail s = .next t ∧ t.base = (g.forwardWrite 0x40 (.good 7)).base ∧
      t.hasHold .blowerFail = false ∧
      t.heat.watch = (if 20 ≤ t.heat.blower ∧ t.heat.speed < 10 * g.lay.stallSpeed then .timing (g.now + 5000)
        else .idle) ∧
      t.port.writes.getLast? = some ⟨0x40, 0, .plain⟩)

/-- The stage-up timer's expiry energises the next stage still wanted; the restore timer's expiry gives the allowed count
its candidate, with HEAT_SHED raised or released. A verify result passes, is ignored or marks its stage DEAD; a reading of
SUPPLY_VOLTS moves the lower run, the restore timer and the allowed count by its class. -/
def Obligations.StageUpAndRestoreTimersExpire : Prop :=
  (∀ (s : State) (n : Nat), s.part = .running → s.heat.stageUpTimer = some n → n ≤ s.now →
    (∀ i, s.heat.energised < s.stageLimit → s.heat.verify = none → lowestOff s.heat.stages = some i →
      ∃ t, exec .stageUpTimerExpiry s = .next t ∧ t.still = s.still ∧ t.governor = s.governor ∧ t.drive = s.drive ∧
        t.heat = { s.heat with
          stages := vset s.heat.stages i .on, stageUpTimer := some (s.now + 1000 * s.lay.stageInterval)
          verify := some { stage := i, baseline := s.heat.lastAmps.getD 0 } } ∧
        ∃ e ∈ t.scanner.queue, e.channel = 15 ∧ e.requesters.heat = true) ∧
    (s.stageLimit ≤ s.heat.energised ∨ s.heat.verify ≠ none → exec .stageUpTimerExpiry s =
      .next { s with heat := { s.heat with stageUpTimer := none } })) ∧
  (∀ (s : State) (r : RestoreTimer), s.part = .running → s.heat.restore = some r → r.deadline ≤ s.now →
    s.holdsDistinct → s.stagesBounded →
    ∃ t, exec .restoreTimerExpiry s = .next t ∧ t.base = s.base ∧
      t.heat.allowed = r.candidate ∧ t.heat.restore = none ∧ t.heat.energised ≤ r.candidate ∧
      (s.heat.allowed = 0 → r.candidate ≠ 0 → t.hasHold .heatShed = false) ∧
      (s.heat.allowed ≠ 0 → r.candidate = 0 → t.hasHold .heatShed = true)) ∧
  (∀ (s : State) (r : SpotResult),
    (s.heat.verify = none → s.deliverHeat r = s) ∧
    (∀ v, s.heat.verify = some v →
      let u := { s with heat := { s.heat with verify := none } }
      let fails := s.heat.stages.get v.stage = .on ∧ r.isOpen = false ∧ r.value < v.baseline + s.lay.stageStep
      (¬ fails → s.deliverHeat r = u.testStageUp) ∧
      (fails → (s.deliverHeat r).heat.stages.get v.stage = .dead ∧ (s.deliverHeat r).base = s.base ∧
        s.deliverHeat r =
          (((({ u with heat := { u.heat with stages := vset u.heat.stages v.stage .dead } } : State).putHeatWord).emit
            { kind := .stageDead, subject := w16 (v.stage.val + 1), value := w16 r.value }).rejudgeHeat).testStageUp))) ∧
  (∀ (s : State) (r : Nat) (isOpen : Bool), s.part = .running → s.holdsDistinct →
    let h := s.heat
    let a := h.allowed
    let cls := if isOpen = true then 0 else if s.lay.voltA ≤ r then 4 else if s.lay.voltB ≤ r then 2 else 0
    let t := s.voltReading r isOpen
    let idle := { h with lowerRun := 0, lowerHighest := 0, restore := none }
    let takes := fun (n : Nat) =>
      t.base = s.base ∧ t.heat.allowed = n ∧ t.heat.firstReading = false ∧ t.heat.lowerRun = 0 ∧ t.heat.restore = none ∧
        (n = 0 → a ≠ 0 → t.hasHold .heatShed = true) ∧ (n ≠ 0 → a = 0 → t.hasHold .heatShed = false)
    (h.firstReading = true → takes cls) ∧
    (h.firstReading = false → isOpen = true → takes 0) ∧
    (h.firstReading = false → isOpen = false →
      let highest := if h.lowerRun = 0 then cls else max h.lowerHighest cls
      (cls < a → h.lowerRun + 1 < 3 → t = { s with heat := { h with
        lowerRun := h.lowerRun + 1, lowerHighest := highest, restore := none } }) ∧
      (cls < a → 3 ≤ h.lowerRun + 1 → takes highest) ∧
      (cls = a → t = { s with heat := idle }) ∧
      (a < cls → h.restore = none → t = { s with heat := { idle with
        restore := some { candidate := cls, deadline := s.now + 1000 * s.lay.restoreTime } } }) ∧
      (∀ n, a < cls → h.restore = some n → t = { s with heat := { idle with
        restore := some { n with candidate := min n.candidate cls } } })))

/-! ### The Pass-Through Unit -/

/-- The Window Map classes every word. A host cycle at a free port is granted at once and sets the host-passed mark while a
part cycle waits; where draining is complete the part has entered LOADING before it. What the port has brought to its end is
taken before a host write, and with the mark set one part cycle goes before it (log 10). By the class of its word and the part
state a host write is forwarded, absorbed with TRESPASS or absorbed in silence, and bad parity raises BUS_PARITY in RUNNING. -/
def Obligations.HostWritesForwardedOrAbsorbed : Prop :=
  (∀ (s : State) (L : Layout), s.layout = some L → L.regionsOk = true →
    (∀ g ∈ s.port.guards, g.2 < (L.rings.get g.1).size) →
    (∀ a, a < 0x40 → s.wordClass a = .layout) ∧ s.wordClass 0x40 = .service ∧ s.wordClass 0x41 = .service ∧
    s.wordClass 0x42 = .guarded ∧ s.wordClass 0x43 = .guarded ∧
    (∀ l : LaneId, s.wordClass (L.laneBase + 4 * l.index) = .snooped (.producer l) ∧
      s.wordClass (L.laneBase + 4 * l.index + 1) = .snooped (.command l) ∧
      s.wordClass (L.laneBase + 4 * l.index + 2) = .guarded ∧ s.wordClass (L.laneBase + 4 * l.index + 3) = .guarded) ∧
    s.wordClass L.eventBase = .guarded ∧ s.wordClass (L.eventBase + 1) = .snooped .consumer ∧
    (∀ i, i < 4 * L.eventSize → s.wordClass (L.eventBase + 2 + i) = .guarded) ∧
    (∀ i, i < 32 → s.wordClass (L.senseBase + i) = .guarded) ∧ (∀ i, i < 96 → s.wordClass (L.statusBase + i) = .guarded) ∧
    (∀ i : Fin 24, s.wordClass (L.thresholdBase + i.val) = .snooped (.threshold i)) ∧
    (∀ g ∈ s.port.guards, ∀ i, i < 8 → s.wordClass ((L.rings.get g.1).base + 8 * g.2 + i) = .guarded) ∧
    (∀ a, 0x44 ≤ a → (∀ r ∈ [(L.laneBase, 12), (L.eventBase, 2 + 4 * L.eventSize), (L.senseBase, 32),
        (L.statusBase, 96), (L.thresholdBase, 24)], a < r.1 ∨ r.1 + r.2 ≤ a) →
      (∀ g ∈ s.port.guards, a < (L.rings.get g.1).base + 8 * g.2 ∨ (L.rings.get g.1).base + 8 * g.2 + 8 ≤ a) →
      s.wordClass a = .plain)) ∧
  (∀ s : State, s.port.held = none → s.port.hostPassed = false → s.part = .draining → s.port.drained = true →
    ∃ u, LoadingEntered s u ∧ s.atGrant = { u with port := { u.port with hostPassed := true } }) ∧
  (∀ s : State, s.port.held = none → s.port.hostPassed = false → s.portSettled →
    s.atGrant = { s with port := { s.port.admitAll with hostPassed := s.port.admitAll.partWaiting } }) ∧
  (∀ (s t : State) (addr : Word) (w : RamWord), s.PortTakes t ∨ s.PortYields t →
    exec (.hostWrite addr w) s = exec (.hostWrite addr w) t) ∧
  (∀ (s : State) (addr : Word) (w : RamWord),
    let g := s.atGrant
    let a := addr.toNat
    let forwarded := g.forwardWrite a w
    (g.part = .reset → exec (.hostWrite addr w) s = .next forwarded) ∧
    (g.part = .loading → a ≠ 0x40 → exec (.hostWrite addr w) s = .next forwarded) ∧
    (g.part = .fault → a ≠ 0x40 → a ≠ 0x42 → a ≠ 0x43 → exec (.hostWrite addr w) s = .next forwarded) ∧
    (g.part = .fault → a = 0x42 ∨ a = 0x43 → exec (.hostWrite addr w) s = .next g) ∧
    (g.part = .running → g.wordClass a = .plain ∨ g.wordClass a = .layout →
      exec (.hostWrite addr w) s = .next (if w.parityOk = true then forwarded
        else forwarded.emit { kind := .busParity, qualifier := 2, subject := w16 a, value := w.data })) ∧
    (g.part = .running → g.wordClass a ≠ .guarded → w.parityOk = false → exec (.hostWrite addr w) s =
      .next (forwarded.emit { kind := .busParity, qualifier := 2, subject := w16 a, value := w.data })) ∧
    (g.part = .running → g.wordClass a = .guarded → exec (.trespass addr w) s =
      .next (g.emit { kind := .trespass, subject := w16 a, value := w.data })) ∧
    (g.part = .draining → g.wordClass a = .guarded → exec (.trespass addr w) s = .next g) ∧
    (g.part = .draining → g.wordClass a ≠ .guarded → exec (.hostWrite addr w) s = .next forwarded) ∧
    (g.ramCanonical → forwarded.port.ram.read a = w) ∧
    (∀ b, b ≠ a → forwarded.port.ram.read b = g.port.ram.read b)) ∧
  (∀ (s : State) (v : Word), s.part = .running → exec (.serviceArgumentWrite v) s =
    .next { s.atGrant.forwardWrite 0x41 (.good v) with serviceArg := v })

/-- A consumer value inside the ring and not beyond the unread records is taken and forwarded; where it frees space after
lost events, an OVERRUN record with their count follows the writes already queued and the count returns to 0; any other is
absorbed and refused. A passed last-signalled record is none; that a passed value word still queued signals no more is the
model's reading (log 23). -/
def Obligations.ConsumerWriteTakenOrAbsorbed : Prop :=
  ∀ (s : State) (L : Layout) (v : Word), s.takesHost L → s.atGrant.indexesBounded →
    let g := s.atGrant
    let n := (v.toNat + L.eventSize - g.events.consumer) % L.eventSize
    let w := g.forwardWrite (L.eventBase + 1) (.good v)
    let passed := fun (i : Nat) => decide ((i + L.eventSize - g.events.consumer) % L.eventSize < n)
    let writes := g.port.writes.map (fun e => match e.role with
      | .eventValue i true => if passed i then { e with role := .eventValue i false } else e
      | _ => e)
    let advanced := { g.events with
      consumer := v.toNat, lastSignalled := g.events.lastSignalled.filter (fun i => !passed i) }
    let p := g.events.producer
    let base := L.eventBase + 2 + 4 * p
    let next := (p + 1) % L.eventSize
    (v.toNat < L.eventSize → n ≤ g.unread → ∃ t, exec (.eventConsumerWrite v) s = .next t ∧
      t.lower = w.lower ∧ t.port.images = g.port.images ∧ t.port.reads = g.port.reads ∧ t.port.guards = g.port.guards ∧
      ({ t with port := w.port, events := w.events } : State) = w ∧
      (n = 0 ∨ g.events.overrun = 0 → t.events = advanced ∧ t.port.writes = writes) ∧
      (0 < n → 0 < g.events.overrun →
        t.events = { advanced with overrun := 0, producer := next } ∧
        t.port.writes = writes ++
          [⟨base, 28, .plain⟩, ⟨base + 1, 0, .plain⟩, ⟨base + 2, g.tagClock, .plain⟩,
           ⟨base + 3, w16 g.events.overrun, .eventValue p (L.signals .overrun)⟩,
           ⟨L.eventBase, w16 next, .plain⟩])) ∧
    (¬ (v.toNat < L.eventSize ∧ n ≤ g.unread) → exec (.eventConsumerWrite v) s = .next (g.emit
      { kind := .eventConsumerRefused, subject := v, value := w16 g.events.consumer }))

/-- The oldest read is made in the fetch source's turn, and its word goes to its placer. -/
def Obligations.FetchReadGoesToItsPlacer : Prop :=
  ∀ (s : State) (r : ReadRequest) (rs : List ReadRequest), s.port.held = none → s.port.canAdmit = false →
    s.port.reads = r :: rs → s.port.turn = some .fetch →
    ∃ t, exec .fetchReadDone s = .next t ∧ t.port.ram = s.port.ram ∧ t.port.writes = s.port.writes ∧
      t.port.images = s.port.images ∧ t.port.pointer = .record ∧ t.port.hostPassed = false ∧
      (r.placer ≠ .abandoned → t.port.reads = rs) ∧
      (∀ l o, r.placer = .lane l → s.part = .running → (s.lanes.get l).state = .fetch →
        (s.lanes.get l).order = some o →
        t.lanes = s.lanes.set l { s.lanes.get l with
          order := some { o with words := o.words ++ [s.port.ram.read r.addr] } } ∧ t.loader = s.loader) ∧
      (∀ l, r.placer = .lane l → s.part ≠ .running → t.lanes = s.lanes ∧ t.loader = s.loader) ∧
      (r.placer = .loader → t.lanes = s.lanes ∧
        t.loader = { s.loader with words := s.loader.words ++ [s.port.ram.read r.addr] }) ∧
      (r.placer = .abandoned → s.part = .loading → s.loader.phase = .abandoned →
        rs.any (fun q => q.placer == .abandoned) = false →
        t.port.reads = rs ++ (List.range 64).map (fun a => ⟨a, .loader⟩) ∧ t.loader = ⟨.layout, []⟩) ∧
      t.part = s.part ∧ t.governor = s.governor ∧ t.holds = s.holds ∧ t.purge = s.purge ∧ t.scanner = s.scanner ∧
      t.grader = s.grader ∧ t.switches = s.switches ∧ t.drive = s.drive ∧ t.heat = s.heat ∧ t.events = s.events

/-- In their turns the head of the Record Queue and the earliest entry of the Image Set are written with good parity, and
nothing else of memory; a waiting write enters the place that is free. -/
def Obligations.QueuedWritesReachMemory : Prop :=
  (∀ (s : State) (e : RecordEntry) (es : List RecordEntry), s.ramCanonical → s.port.held = none →
    s.port.canAdmit = false →
    s.port.records = e :: es → s.port.turn = some .record →
    ∃ t, exec .recordQueueWrite s = .next t ∧ t.port.ram.read e.addr = .good e.data ∧
      (∀ a, a ≠ e.addr → t.port.ram.read a = s.port.ram.read a) ∧
      t.port.records = es ∧ t.port.waiting = s.port.waiting ∧ t.port.images = s.port.images ∧
      t.port.reads = s.port.reads ∧ t.port.pointer = .image ∧ t.port.hostPassed = false ∧
      t.port.guards = (match e.role with
        | .endTag l slot => s.port.guards.erase (l, slot)
        | _ => s.port.guards) ∧
      (∀ i, e.role = .eventValue i true → s.part = .running ∨ s.part = .draining →
        t.events = { s.events with lastSignalled := some i }) ∧
      ((∀ i, e.role ≠ .eventValue i true) → t.events = s.events) ∧
      ({ t with port := s.port, events := s.events } : State) = s) ∧
  (∀ (s : State) (e : ImageEntry) (es : List ImageEntry), s.ramCanonical → s.port.held = none →
    s.port.canAdmit = false →
    s.port.images = e :: es → s.port.turn = some .image →
    ∃ t, exec .imageSetWrite s = .next t ∧ t.port.ram.read e.addr = .good e.data ∧
      (∀ a, a ≠ e.addr → t.port.ram.read a = s.port.ram.read a) ∧
      t.port.images = es ∧ t.port.writes = s.port.writes ∧ t.port.reads = s.port.reads ∧
      t.port.pointer = .fetch ∧ t.port.hostPassed = false ∧ ({ t with port := s.port } : State) = s) ∧
  (∀ (s : State) (e : RecordEntry) (es : List RecordEntry), s.port.waiting = e :: es → s.port.records.length < 32 →
    exec .waitingWriteEntersQueue s =
      .next { s with port := { s.port with records := s.port.records ++ [e], waiting := es } })

/-- A held read's flushes are written first, the image entry and then the records from the head; once none is owed the
read is granted and returns the RAM's word. -/
def Obligations.HeldReadFlushedThenGranted : Prop :=
  ∀ (s : State) (h : HeldRead), s.ramCanonical → s.port.held = some h →
    (∀ e, h.imageOwed = true → s.port.images.find? (fun x => x.addr == h.addr) = some e →
      ∃ t, exec .readFlushWrite s = .next t ∧ t.port.ram.read h.addr = .good e.data ∧
        (∀ a, a ≠ h.addr → t.port.ram.read a = s.port.ram.read a) ∧
        t.port.images = s.port.images.filter (fun x => x.addr != h.addr) ∧ t.port.writes = s.port.writes ∧
        t.port.held = some { h with imageOwed := false } ∧ t.port.pointer = s.port.pointer ∧
        t.port.hostPassed = false ∧ ({ t with port := s.port } : State) = s) ∧
    (∀ e es, h.imageOwed = false → 0 < h.recordsOwed → s.port.records = e :: es →
      ∃ t, exec .readFlushWrite s = .next t ∧ t.port.ram.read e.addr = .good e.data ∧
        (∀ a, a ≠ e.addr → t.port.ram.read a = s.port.ram.read a) ∧
        t.port.writes = s.port.writes.tail ∧ t.port.images = s.port.images ∧
        t.port.held = some { h with recordsOwed := h.recordsOwed - 1 } ∧ t.port.pointer = s.port.pointer ∧
        t.port.hostPassed = false ∧ ({ t with port := s.port, events := s.events } : State) = s) ∧
    (h.imageOwed = false → h.recordsOwed = 0 → ∃ t, exec .heldReadGranted s = .next t ∧
      t.port.held = none ∧ t.waitLine = false ∧ t.port.lastRead = some (h.addr, s.port.ram.read h.addr) ∧
      t.port.ram = s.port.ram ∧ t.port.hostPassed = (s.port.hostPassed || s.port.partWaiting) ∧
      ({ t with port := s.port, events := s.events } : State) = s ∧
      ((s.port.ram.read h.addr).parityOk = true → t.events = s.events ∧ t.port.writes = s.port.writes))

/-- A host read of a word with a pending part write is held on WAIT with the flushes it is owed; any other returns the
RAM's word. Where draining is complete the read comes after the entry to LOADING. What the port has brought to its end is
taken before a host read, and with the mark set one part cycle goes before a read that finds no pending write, which is then
granted whatever that cycle has brought about (log 10). -/
def Obligations.HostReadHeldOrForwarded : Prop :=
  (∀ (s : State) (addr : Word), s.port.held = none → s.part = .draining → s.port.drained = true →
    ∃ u t, LoadingEntered s u ∧ exec (.hostRead addr) s = .next t ∧
      (addr = 0x42 → t = { u with port := { u.port with held := some ⟨0x42, false, 1⟩ } }) ∧
      (addr = 0x43 → t = { u with port := { u.port with held := some ⟨0x43, false, 2⟩ } }) ∧
      (addr ≠ 0x42 → addr ≠ 0x43 → t = { u with port := { u.port with
        hostPassed := true, lastRead := some (addr.toNat, s.port.ram.read addr.toNat) } })) ∧
  (∀ (s t : State) (addr : Word), s.PortTakes t → exec (.hostRead addr) s = exec (.hostRead addr) t) ∧
  (∀ (s t : State) (addr : Word), s.PortYields t → s.port.pendingWrite addr.toNat = false →
    (t.portSettled → exec (.hostRead addr) s = exec (.hostRead addr) t) ∧
    ∃ u, exec (.hostRead addr) s = .next u ∧ u.port.held = none ∧
      u.port.lastRead = some (addr.toNat, t.port.ram.read addr.toNat)) ∧
  ∀ (s : State) (addr : Word), s.port.held = none → s.portSettled →
    let a := addr.toNat
    let image := ∃ e ∈ s.port.images, e.addr = a
    let record := ∃ e ∈ s.port.writes, e.addr = a
    (image ∨ record → ∃ t h, exec (.hostReadHeld addr) s = .next t ∧ t.port.held = some h ∧ t.waitLine = true ∧
      h.addr = a ∧ (h.imageOwed = true ↔ image) ∧ OwesRecords s.port.writes a h.recordsOwed ∧
      t.port.ram = s.port.ram ∧ t.port.writes = s.port.writes ∧ t.port.images = s.port.images ∧
      t.port.lastRead = s.port.lastRead ∧ ({ t with port := s.port } : State) = s) ∧
    (¬ image → ¬ record → s.port.hostPassed = false → ∃ t, exec (.hostRead addr) s = .next t ∧
      t.port.held = none ∧ t.port.lastRead = some (a, s.port.ram.read a) ∧ t.port.ram = s.port.ram ∧
      t.port.hostPassed = s.port.admitAll.partWaiting ∧
      ({ t with port := s.port, events := s.events } : State) = s ∧
      ((s.port.ram.read a).parityOk = true → t.events = s.events ∧ t.port.writes = s.port.writes) ∧
      ((s.port.ram.read a).parityOk = false →
        t.events = (s.emit { kind := .busParity, qualifier := 1, subject := w16 a
                             value := (s.port.ram.read a).data }).events))

/-! ### The Mix Governor -/

/-- The blower value of a recompute: the base, raised to the floors, lowered to the cap. -/
def Obligations.BlowerFollowsBaseFloorsAndCap : Prop :=
  ∀ (s : State) (dp : Option Nat) (base : Nat),
    ((∀ l, (s.lanes.get l).inForce = none) → base = s.lay.idleBlower) →
    ((∃ l f, (s.lanes.get l).inForce = some f) →
      (∃ l f, (s.lanes.get l).inForce = some f ∧ f.blower = base) ∧
      ∀ l f, (s.lanes.get l).inForce = some f → f.blower ≤ base) →
    let door := ∃ d, s.hasHold (.doorOpen d) = true
    let purge := s.hasHold .purge = true ∧
      (s.governor.view.purge = .run ∨ s.governor.view.purge = .scrub ∨ s.governor.view.purge = .verify)
    ∃ value,
      (¬ door → ¬ purge → value = base) ∧
      (door → ¬ purge → value = max base s.lay.curtainBlower) ∧
      (¬ door → purge → value = max base s.lay.purgeBlower) ∧
      (door → purge → value = max base (max s.lay.curtainBlower s.lay.purgeBlower)) ∧
      (s.hasHold .engineOff = false → (s.nextMix dp).1.blower = value) ∧
      (s.hasHold .engineOff = true → (s.nextMix dp).1.blower = min value s.lay.engineOffCap)

/-- The Mix Record that a recompute computes: the source by the five cases, the openings with the blend, the denied set, the
filter, the relief, the zones and the heat demand. A recompute makes it the record, and hands each changed field on as a
damper's target, to the Blower and Heat Unit and as a status word; the recompute of the entry to RUNNING hands every target on.
In RUNNING an inlet that is barred, jammed or unhomed thus stands at 0; an open inlet whose grade is not CLEAN is filtered; and
the zones stand at 100 through a purge. -/
def Obligations.MixRecordKeepsInletRules : Prop :=
  (∀ (s : State) (dp : Option Nat),
    let v := s.governor.view
    let m := (s.nextMix dp).1
    let c := (s.nextMix dp).2
    let held := s.hasHold .purge = true
    let flush := held ∧ (v.purge = .run ∨ (v.purge = .verify ∧ v.purgeOrigin = some .run))
    let scrub := held ∧ (v.purge = .scrub ∨ (v.purge = .verify ∧ v.purgeOrigin = some .scrub))
    let purge := held ∧ (v.purge = .run ∨ v.purge = .scrub ∨ v.purge = .verify)
    let door := ∃ d, s.hasHold (.doorOpen d) = true
    let free := ¬ flush ∧ ¬ scrub ∧ ¬ door
    let blend := free ∧ (s.hasHold .heatShed = true ∨ s.hasHold .engineOff = true)
    let fresh := fun (n : Nat) => (blend → n = s.lay.minFresh) ∧ (¬ blend → n = 100)
    let wants := fun (l : LaneId) (n : Nat) => ∃ f w, (s.lanes.get l).inForce = some f ∧ f.targetPresent = true ∧
      (s.channel l.channel).filtered = some w ∧ (s.channel l.channel).isOpen = false ∧
      n = min ((f.target - w) * s.lay.heatGain / 4) 100
    (flush → m.owner = .purge ∧ ∀ i, v.purgeInlet = some i → OpensFirst s i c) ∧
    (¬ flush → scrub → m.owner = .purge ∧ c = .recirc) ∧
    (¬ flush → ¬ scrub → door → m.owner = .doors ∧ OpensFirst s s.lay.preferred c) ∧
    (free → s.lay.ranksOk = true → ∀ l f, (s.lanes.get l).inForce = some f → s.Satisfiable f.source →
      (∀ k g, (s.lanes.get k).inForce = some g → s.lay.ranks.get k < s.lay.ranks.get l → ¬ s.Satisfiable g.source) →
      m.owner = .lane l ∧ s.Gives f.source c) ∧
    (free → s.lay.ranksOk = true → (∀ l f, (s.lanes.get l).inForce = some f → ¬ s.Satisfiable f.source) →
      m.owner = .default ∧ (s.lay.defaultSource = .recirc → c = .recirc) ∧
        (s.lay.defaultSource = .freshAny → OpensFirst s s.lay.preferred c)) ∧
    (c = .recirc → m.roof = 0 ∧ m.bumper = 0 ∧ m.recirc = 100) ∧
    (c = .freshRoof → fresh m.roof ∧ m.bumper = 0 ∧ m.recirc = 100 - m.roof) ∧
    (c = .freshBumper → fresh m.bumper ∧ m.roof = 0 ∧ m.recirc = 100 - m.bumper) ∧
    (∀ l, m.denied.get l = true ↔ ∃ f, (s.lanes.get l).inForce = some f ∧
      ¬ ((f.source = .recirc ∧ c = .recirc) ∨ (f.source = .freshRoof ∧ c = .freshRoof) ∨
        (f.source = .freshBumper ∧ c = .freshBumper) ∨ (f.source = .freshAny ∧ (c = .freshRoof ∨ c = .freshBumper)))) ∧
    (m.filter = .through ↔ purge ∨ door ∨ s.hasHold .cabFoul = true ∨
      (0 < m.roof ∧ v.grades.roof ≠ .clean) ∨ (0 < m.bumper ∧ v.grades.bumper ≠ .clean) ∨
      (∃ i, ((v.inlet i).jammed = true ∧ (v.inlet i).estimate ≠ some 0) ∨ (v.inlet i).cleared = true) ∨
      ∃ l f, m.owner = .lane l ∧ (s.lanes.get l).inForce = some f ∧
        (f.filter = .through ∨ (f.filter = .auto ∧ (c ≠ .recirc ∨ v.grades.cab = .suspect)))) ∧
    (door → m.relief = 0) ∧ (¬ door → purge → m.relief = s.lay.purgeRelief) ∧
    (¬ door → ¬ purge → c = .recirc → m.relief = 0) ∧
    (¬ door → ¬ purge → c ≠ .recirc →
      let r := s.governor.mix.relief
      (dp = none → m.relief = r) ∧
      (∀ f, dp = some f →
        (s.lay.dpSetpoint + s.lay.dpBand < f → m.relief = min (r + s.lay.reliefStep) 100) ∧
        (f + s.lay.dpBand < s.lay.dpSetpoint → m.relief = r - s.lay.reliefStep) ∧
        (f ≤ s.lay.dpSetpoint + s.lay.dpBand → s.lay.dpSetpoint ≤ f + s.lay.dpBand → m.relief = r))) ∧
    (∀ l, (purge → m.zones.get l = 100) ∧
      (¬ purge → (∀ f, (s.lanes.get l).inForce = some f → m.zones.get l = f.zone) ∧
        ((s.lanes.get l).inForce = none → m.zones.get l =
          if (s.lanes.get l).state = .fetch then (s.lanes.get l).carried.zone else s.lay.rest.get l))) ∧
    (m.heat = 0 ∨ ∃ l, wants l m.heat) ∧ (∀ l n, wants l n → n ≤ m.heat)) ∧
  (∀ (s : State) (dp : Option Nat), s.part = .running →
    let old := s.governor.mix
    let new := (s.nextMix dp).1
    let t := s.recomputeConversion dp
    let u := s.recomputeEntry
    (s.recompute = s.recomputeConversion none) ∧
    t.governor.mix = new ∧ t.governor.chosen = (s.nextMix dp).2 ∧ t.governor.view = s.governor.view ∧
    t.events = s.events ∧
    (∀ d : Fin 8, (t.damper d).target =
      if new.targets.get d = old.targets.get d then (s.damper d).target else new.targets.get d) ∧
    (∀ k : Fin 12,
      let entry := fun (u : State) => u.port.images.find? (fun e => e.addr == s.lay.statusBase + 9 + k.val)
      entry t = if new.imaged[k.val]? = old.imaged[k.val]? then entry s
        else new.imaged[k.val]?.map (fun w => ⟨s.lay.statusBase + 9 + k.val, w⟩)) ∧
    t.heat.blower = (if new.blower = old.blower then s.heat.blower else new.blower) ∧ t.heat.demand = new.heat ∧
    (∀ l o, new.denied.get l = true → (t.lanes.get l).order = some o → o.flags.sourceDenied = true) ∧
    u.governor.mix = (s.nextMix none).1 ∧
    (∀ d : Fin 8, (u.damper d).target = (s.nextMix none).1.targets.get d) ∧
    u.heat.blower = (s.nextMix none).1.blower) ∧
  ∀ (s : State) (i : Inlet), s.part = .running → s.mixCurrent →
    let m := s.governor.mix
    let opening := match i with
      | .roof => m.roof
      | .bumper => m.bumper
    (s.hasHold (.inletBarred i) = true → opening = 0) ∧
    ((s.governor.view.inlet i).jammed = true → opening = 0) ∧
    ((s.governor.view.inlet i).estimate = none → opening = 0) ∧
    (0 < opening → s.governor.view.inletGrade i ≠ .clean → m.filter = .through) ∧
    (s.hasHold .cabFoul = true → m.filter = .through) ∧
    ((∃ d, s.hasHold (.doorOpen d) = true) → m.filter = .through ∧ m.relief = 0) ∧
    (s.hasHold .purge = true →
      s.governor.view.purge = .run ∨ s.governor.view.purge = .scrub ∨ s.governor.view.purge = .verify →
      m.filter = .through ∧ m.zones = ⟨100, 100, 100⟩) ∧
    (s.hasHold .purge = true → s.governor.view.purge = .run ∨ s.governor.view.purge = .scrub → m.owner = .purge)

/-! ### Frames -/

/-- What the timed commands leave unchanged. The lane timers leave everything but the lanes, the Governor, the
dampers, the stages, the spots, the queues and the event ring; the timers of the holds, the purge, the dampers and the
heat unit may change those and the holds and the purge too. No RAM word changes. -/
def Obligations.TimedCommandsKeepTheRest : Prop :=
  (∀ (s t : State) (l : LaneId) (c : Instr),
    c = .orderFetchComplete l ∨ c = .settleTimerExpiry l ∨ c = .dwellTimerExpiry l →
    exec c s = .next t → t.lower = s.lower) ∧
  (∀ (s t : State) (d : Fin 8) (i : Inlet) (c : Instr),
    c = .inletHoldDownExpiry i ∨ c = .purgeTimerExpiry ∨ c = .movingPlannedEnd d ∨ c = .seatingTimeOut d ∨
      c = .stall d ∨ c = .homingLimit d ∨ c = .tachPulse ∨ c = .tachTimeout ∨ c = .blowerWatchExpiry ∨
      c = .stageUpTimerExpiry ∨ c = .restoreTimerExpiry ∨ c = .scanPeriodElapsed →
    exec c s = .next t → t.base = s.base) ∧
  (∀ (s t : State) (i : SwitchId) (c : Instr), c = .debounceTimerExpiry i ∨ c = .pressTimerExpiry →
    exec c s = .next t → t.base = { s.base with switches := t.switches })

/-! ### What every step keeps -/

/-- The RAM stays in canonical form, the Record Queue within 32 entries, the Image Set within one entry per word. A layout
in force has passed its tests, and the indices of the rings stay inside them. -/
def Obligations.StepKeepsPortLayoutAndIndexBounds : Prop :=
  ∀ s t : State, step s = .next t →
    (s.ramCanonical → t.ramCanonical) ∧ (s.queuesBounded → t.queuesBounded) ∧ (s.layoutSound → t.layoutSound) ∧
      (s.layoutSound → s.indexesBounded → t.indexesBounded)

/-- No pair stands twice in the Hold Table, which is empty outside RUNNING, and the PURGE hold follows the purge. -/
def Obligations.StepKeepsHoldTableSound : Prop :=
  ∀ s t : State, step s = .next t →
    (s.holdsDistinct → t.holdsDistinct) ∧ (s.holdsOnlyRunning → t.holdsOnlyRunning) ∧
      (s.holdsDistinct → s.purgeHeld → t.purgeHeld)

/-- The Mix Record is always the one that the Governor's latest view gives, and its ROOF, BUMPER and RECIRC openings
always sum to 100. -/
def Obligations.StepKeepsMixRecordCurrentAndWhole : Prop :=
  ∀ s t : State, step s = .next t → (s.mixCurrent → t.mixCurrent) ∧ (s.sourceWhole → t.sourceWhole)

/-- No more dampers than the motion grants are in motion at once, and the Motion Queue holds exactly the WAITING ones. -/
def Obligations.StepKeepsMotionGrantsAndQueue : Prop :=
  ∀ s t : State, step s = .next t →
    (s.grantsBounded → t.grantsBounded) ∧ (s.motionAgrees → t.motionAgrees)

/-- The energised stages never exceed the allowed count, and are 0 while HEAT_SHED, ENGINE_OFF or BLOWER_FAIL is held. -/
def Obligations.StepKeepsStagesWithinBudget : Prop :=
  ∀ s t : State, step s = .next t → s.holdsDistinct → s.stagesBounded → t.stagesBounded

/-- The open set is the doors accepted open, the purge's door view follows it, and no purge runs with a door open. -/
def Obligations.StepKeepsDoorViewsAgreed : Prop :=
  ∀ s t : State, step s = .next t → s.doorsAgree → t.doorsAgree

/-- A lane has an active order exactly in FETCH, SETTLE, DWELL and CHECK, in the slot at its consumer index. -/
def Obligations.StepKeepsLaneOrdersAgreed : Prop :=
  ∀ s t : State, step s = .next t → s.ordersAgree → t.ordersAgree

/-- The scanner is in SPOT exactly while the Spot Queue is not empty, with its head alone under conversion. -/
def Obligations.StepKeepsSpotQueueAgreed : Prop :=
  ∀ s t : State, step s = .next t → s.spotsAgree → t.spotsAgree

end
end

