-- ==== Sys2Proof/Laws/State.lean ====
section
/-! SUPPORT. What each update of the state leaves in each field, true by unfolding, so that no later proof unfolds a
record update; and the laws of the small structures (lanes, bodies, vectors). -/

namespace Sys2Proof.Machine

/-! ### One value for each lane, body, place -/

@[simp] theorem PerLane.get_set_same {α : Type} (p : PerLane α) (l : LaneId) (x : α) : (p.set l x).get l = x := by
  cases l <;> rfl

theorem PerLane.get_set_other {α : Type} (p : PerLane α) {l k : LaneId} (x : α) (h : k ≠ l) :
    (p.set l x).get k = p.get k := by
  cases l <;> cases k <;> first | rfl | exact absurd rfl h

@[simp] theorem PerLane.set_get {α : Type} (p : PerLane α) (l : LaneId) : p.set l (p.get l) = p := by cases l <;> rfl

@[simp] theorem PerBody.get_set_same {α : Type} (p : PerBody α) (b : Body) (x : α) : (p.set b x).get b = x := by
  cases b <;> rfl

theorem PerBody.get_set_other {α : Type} (p : PerBody α) {b c : Body} (x : α) (h : c ≠ b) :
    (p.set b x).get c = p.get c := by
  cases b <;> cases c <;> first | rfl | exact absurd rfl h

@[simp] theorem vset_get_same {α : Type} {n : Nat} (v : Vector α n) (i : Fin n) (x : α) : (vset v i x).get i = x := by
  show (v.set i.val x i.isLt)[i.val] = x
  simp

theorem vset_get_other {α : Type} {n : Nat} (v : Vector α n) {i j : Fin n} (x : α) (h : j ≠ i) :
    (vset v i x).get j = v.get j := by
  have h' : i.val ≠ j.val := fun e => h (Fin.ext e.symm)
  show (v.set i.val x i.isLt)[j.val] = v[j.val]
  exact Vector.getElem_set_ne _ _ h'

/-! ### The fields after each update -/

@[simp] theorem setLane_pending (s : State) (l : LaneId) (x : Lane) : (s.setLane l x).pending = s.pending := rfl
@[simp] theorem setLane_now (s : State) (l : LaneId) (x : Lane) : (s.setLane l x).now = s.now := rfl
@[simp] theorem setLane_freeIndex (s : State) (l : LaneId) (x : Lane) : (s.setLane l x).freeIndex = s.freeIndex := rfl
@[simp] theorem setLane_part (s : State) (l : LaneId) (x : Lane) : (s.setLane l x).part = s.part := rfl
@[simp] theorem setLane_faultReason (s : State) (l : LaneId) (x : Lane) : (s.setLane l x).faultReason = s.faultReason := rfl
@[simp] theorem setLane_layout (s : State) (l : LaneId) (x : Lane) : (s.setLane l x).layout = s.layout := rfl
@[simp] theorem setLane_loader (s : State) (l : LaneId) (x : Lane) : (s.setLane l x).loader = s.loader := rfl
@[simp] theorem setLane_serviceArg (s : State) (l : LaneId) (x : Lane) : (s.setLane l x).serviceArg = s.serviceArg := rfl
@[simp] theorem setLane_tagClock (s : State) (l : LaneId) (x : Lane) : (s.setLane l x).tagClock = s.tagClock := rfl
@[simp] theorem setLane_lastTick (s : State) (l : LaneId) (x : Lane) : (s.setLane l x).lastTick = s.lastTick := rfl
@[simp] theorem setLane_port (s : State) (l : LaneId) (x : Lane) : (s.setLane l x).port = s.port := rfl
@[simp] theorem setLane_governor (s : State) (l : LaneId) (x : Lane) : (s.setLane l x).governor = s.governor := rfl
@[simp] theorem setLane_holds (s : State) (l : LaneId) (x : Lane) : (s.setLane l x).holds = s.holds := rfl
@[simp] theorem setLane_purge (s : State) (l : LaneId) (x : Lane) : (s.setLane l x).purge = s.purge := rfl
@[simp] theorem setLane_scanner (s : State) (l : LaneId) (x : Lane) : (s.setLane l x).scanner = s.scanner := rfl
@[simp] theorem setLane_grader (s : State) (l : LaneId) (x : Lane) : (s.setLane l x).grader = s.grader := rfl
@[simp] theorem setLane_switches (s : State) (l : LaneId) (x : Lane) : (s.setLane l x).switches = s.switches := rfl
@[simp] theorem setLane_drive (s : State) (l : LaneId) (x : Lane) : (s.setLane l x).drive = s.drive := rfl
@[simp] theorem setLane_heat (s : State) (l : LaneId) (x : Lane) : (s.setLane l x).heat = s.heat := rfl
@[simp] theorem setLane_events (s : State) (l : LaneId) (x : Lane) : (s.setLane l x).events = s.events := rfl

@[simp] theorem setDamper_pending (s : State) (d : Fin 8) (x : Damper) : (s.setDamper d x).pending = s.pending := rfl
@[simp] theorem setDamper_now (s : State) (d : Fin 8) (x : Damper) : (s.setDamper d x).now = s.now := rfl
@[simp] theorem setDamper_freeIndex (s : State) (d : Fin 8) (x : Damper) : (s.setDamper d x).freeIndex = s.freeIndex := rfl
@[simp] theorem setDamper_part (s : State) (d : Fin 8) (x : Damper) : (s.setDamper d x).part = s.part := rfl
@[simp] theorem setDamper_faultReason (s : State) (d : Fin 8) (x : Damper) : (s.setDamper d x).faultReason = s.faultReason := rfl
@[simp] theorem setDamper_layout (s : State) (d : Fin 8) (x : Damper) : (s.setDamper d x).layout = s.layout := rfl
@[simp] theorem setDamper_loader (s : State) (d : Fin 8) (x : Damper) : (s.setDamper d x).loader = s.loader := rfl
@[simp] theorem setDamper_serviceArg (s : State) (d : Fin 8) (x : Damper) : (s.setDamper d x).serviceArg = s.serviceArg := rfl
@[simp] theorem setDamper_tagClock (s : State) (d : Fin 8) (x : Damper) : (s.setDamper d x).tagClock = s.tagClock := rfl
@[simp] theorem setDamper_lastTick (s : State) (d : Fin 8) (x : Damper) : (s.setDamper d x).lastTick = s.lastTick := rfl
@[simp] theorem setDamper_port (s : State) (d : Fin 8) (x : Damper) : (s.setDamper d x).port = s.port := rfl
@[simp] theorem setDamper_lanes (s : State) (d : Fin 8) (x : Damper) : (s.setDamper d x).lanes = s.lanes := rfl
@[simp] theorem setDamper_governor (s : State) (d : Fin 8) (x : Damper) : (s.setDamper d x).governor = s.governor := rfl
@[simp] theorem setDamper_holds (s : State) (d : Fin 8) (x : Damper) : (s.setDamper d x).holds = s.holds := rfl
@[simp] theorem setDamper_purge (s : State) (d : Fin 8) (x : Damper) : (s.setDamper d x).purge = s.purge := rfl
@[simp] theorem setDamper_scanner (s : State) (d : Fin 8) (x : Damper) : (s.setDamper d x).scanner = s.scanner := rfl
@[simp] theorem setDamper_grader (s : State) (d : Fin 8) (x : Damper) : (s.setDamper d x).grader = s.grader := rfl
@[simp] theorem setDamper_switches (s : State) (d : Fin 8) (x : Damper) : (s.setDamper d x).switches = s.switches := rfl
@[simp] theorem setDamper_heat (s : State) (d : Fin 8) (x : Damper) : (s.setDamper d x).heat = s.heat := rfl
@[simp] theorem setDamper_events (s : State) (d : Fin 8) (x : Damper) : (s.setDamper d x).events = s.events := rfl

@[simp] theorem setChannel_pending (s : State) (c : Fin 16) (x : Channel) : (s.setChannel c x).pending = s.pending := rfl
@[simp] theorem setChannel_now (s : State) (c : Fin 16) (x : Channel) : (s.setChannel c x).now = s.now := rfl
@[simp] theorem setChannel_freeIndex (s : State) (c : Fin 16) (x : Channel) : (s.setChannel c x).freeIndex = s.freeIndex := rfl
@[simp] theorem setChannel_part (s : State) (c : Fin 16) (x : Channel) : (s.setChannel c x).part = s.part := rfl
@[simp] theorem setChannel_faultReason (s : State) (c : Fin 16) (x : Channel) : (s.setChannel c x).faultReason = s.faultReason := rfl
@[simp] theorem setChannel_layout (s : State) (c : Fin 16) (x : Channel) : (s.setChannel c x).layout = s.layout := rfl
@[simp] theorem setChannel_loader (s : State) (c : Fin 16) (x : Channel) : (s.setChannel c x).loader = s.loader := rfl
@[simp] theorem setChannel_serviceArg (s : State) (c : Fin 16) (x : Channel) : (s.setChannel c x).serviceArg = s.serviceArg := rfl
@[simp] theorem setChannel_tagClock (s : State) (c : Fin 16) (x : Channel) : (s.setChannel c x).tagClock = s.tagClock := rfl
@[simp] theorem setChannel_lastTick (s : State) (c : Fin 16) (x : Channel) : (s.setChannel c x).lastTick = s.lastTick := rfl
@[simp] theorem setChannel_port (s : State) (c : Fin 16) (x : Channel) : (s.setChannel c x).port = s.port := rfl
@[simp] theorem setChannel_lanes (s : State) (c : Fin 16) (x : Channel) : (s.setChannel c x).lanes = s.lanes := rfl
@[simp] theorem setChannel_governor (s : State) (c : Fin 16) (x : Channel) : (s.setChannel c x).governor = s.governor := rfl
@[simp] theorem setChannel_holds (s : State) (c : Fin 16) (x : Channel) : (s.setChannel c x).holds = s.holds := rfl
@[simp] theorem setChannel_purge (s : State) (c : Fin 16) (x : Channel) : (s.setChannel c x).purge = s.purge := rfl
@[simp] theorem setChannel_grader (s : State) (c : Fin 16) (x : Channel) : (s.setChannel c x).grader = s.grader := rfl
@[simp] theorem setChannel_switches (s : State) (c : Fin 16) (x : Channel) : (s.setChannel c x).switches = s.switches := rfl
@[simp] theorem setChannel_drive (s : State) (c : Fin 16) (x : Channel) : (s.setChannel c x).drive = s.drive := rfl
@[simp] theorem setChannel_heat (s : State) (c : Fin 16) (x : Channel) : (s.setChannel c x).heat = s.heat := rfl
@[simp] theorem setChannel_events (s : State) (c : Fin 16) (x : Channel) : (s.setChannel c x).events = s.events := rfl

@[simp] theorem setScanner_pending (s : State) (x : Scanner) : (s.setScanner x).pending = s.pending := rfl
@[simp] theorem setScanner_now (s : State) (x : Scanner) : (s.setScanner x).now = s.now := rfl
@[simp] theorem setScanner_freeIndex (s : State) (x : Scanner) : (s.setScanner x).freeIndex = s.freeIndex := rfl
@[simp] theorem setScanner_part (s : State) (x : Scanner) : (s.setScanner x).part = s.part := rfl
@[simp] theorem setScanner_faultReason (s : State) (x : Scanner) : (s.setScanner x).faultReason = s.faultReason := rfl
@[simp] theorem setScanner_layout (s : State) (x : Scanner) : (s.setScanner x).layout = s.layout := rfl
@[simp] theorem setScanner_loader (s : State) (x : Scanner) : (s.setScanner x).loader = s.loader := rfl
@[simp] theorem setScanner_serviceArg (s : State) (x : Scanner) : (s.setScanner x).serviceArg = s.serviceArg := rfl
@[simp] theorem setScanner_tagClock (s : State) (x : Scanner) : (s.setScanner x).tagClock = s.tagClock := rfl
@[simp] theorem setScanner_lastTick (s : State) (x : Scanner) : (s.setScanner x).lastTick = s.lastTick := rfl
@[simp] theorem setScanner_port (s : State) (x : Scanner) : (s.setScanner x).port = s.port := rfl
@[simp] theorem setScanner_lanes (s : State) (x : Scanner) : (s.setScanner x).lanes = s.lanes := rfl
@[simp] theorem setScanner_governor (s : State) (x : Scanner) : (s.setScanner x).governor = s.governor := rfl
@[simp] theorem setScanner_holds (s : State) (x : Scanner) : (s.setScanner x).holds = s.holds := rfl
@[simp] theorem setScanner_purge (s : State) (x : Scanner) : (s.setScanner x).purge = s.purge := rfl
@[simp] theorem setScanner_grader (s : State) (x : Scanner) : (s.setScanner x).grader = s.grader := rfl
@[simp] theorem setScanner_switches (s : State) (x : Scanner) : (s.setScanner x).switches = s.switches := rfl
@[simp] theorem setScanner_drive (s : State) (x : Scanner) : (s.setScanner x).drive = s.drive := rfl
@[simp] theorem setScanner_heat (s : State) (x : Scanner) : (s.setScanner x).heat = s.heat := rfl
@[simp] theorem setScanner_events (s : State) (x : Scanner) : (s.setScanner x).events = s.events := rfl

@[simp] theorem setHeat_pending (s : State) (h : HeatUnit) : (s.setHeat h).pending = s.pending := rfl
@[simp] theorem setHeat_now (s : State) (h : HeatUnit) : (s.setHeat h).now = s.now := rfl
@[simp] theorem setHeat_freeIndex (s : State) (h : HeatUnit) : (s.setHeat h).freeIndex = s.freeIndex := rfl
@[simp] theorem setHeat_part (s : State) (h : HeatUnit) : (s.setHeat h).part = s.part := rfl
@[simp] theorem setHeat_faultReason (s : State) (h : HeatUnit) : (s.setHeat h).faultReason = s.faultReason := rfl
@[simp] theorem setHeat_layout (s : State) (h : HeatUnit) : (s.setHeat h).layout = s.layout := rfl
@[simp] theorem setHeat_loader (s : State) (h : HeatUnit) : (s.setHeat h).loader = s.loader := rfl
@[simp] theorem setHeat_serviceArg (s : State) (h : HeatUnit) : (s.setHeat h).serviceArg = s.serviceArg := rfl
@[simp] theorem setHeat_tagClock (s : State) (h : HeatUnit) : (s.setHeat h).tagClock = s.tagClock := rfl
@[simp] theorem setHeat_lastTick (s : State) (h : HeatUnit) : (s.setHeat h).lastTick = s.lastTick := rfl
@[simp] theorem setHeat_port (s : State) (h : HeatUnit) : (s.setHeat h).port = s.port := rfl
@[simp] theorem setHeat_lanes (s : State) (h : HeatUnit) : (s.setHeat h).lanes = s.lanes := rfl
@[simp] theorem setHeat_governor (s : State) (h : HeatUnit) : (s.setHeat h).governor = s.governor := rfl
@[simp] theorem setHeat_holds (s : State) (h : HeatUnit) : (s.setHeat h).holds = s.holds := rfl
@[simp] theorem setHeat_purge (s : State) (h : HeatUnit) : (s.setHeat h).purge = s.purge := rfl
@[simp] theorem setHeat_scanner (s : State) (h : HeatUnit) : (s.setHeat h).scanner = s.scanner := rfl
@[simp] theorem setHeat_grader (s : State) (h : HeatUnit) : (s.setHeat h).grader = s.grader := rfl
@[simp] theorem setHeat_switches (s : State) (h : HeatUnit) : (s.setHeat h).switches = s.switches := rfl
@[simp] theorem setHeat_drive (s : State) (h : HeatUnit) : (s.setHeat h).drive = s.drive := rfl
@[simp] theorem setHeat_events (s : State) (h : HeatUnit) : (s.setHeat h).events = s.events := rfl

@[simp] theorem setPurge_pending (s : State) (p : Purge) : (s.setPurge p).pending = s.pending := rfl
@[simp] theorem setPurge_now (s : State) (p : Purge) : (s.setPurge p).now = s.now := rfl
@[simp] theorem setPurge_freeIndex (s : State) (p : Purge) : (s.setPurge p).freeIndex = s.freeIndex := rfl
@[simp] theorem setPurge_part (s : State) (p : Purge) : (s.setPurge p).part = s.part := rfl
@[simp] theorem setPurge_faultReason (s : State) (p : Purge) : (s.setPurge p).faultReason = s.faultReason := rfl
@[simp] theorem setPurge_layout (s : State) (p : Purge) : (s.setPurge p).layout = s.layout := rfl
@[simp] theorem setPurge_loader (s : State) (p : Purge) : (s.setPurge p).loader = s.loader := rfl
@[simp] theorem setPurge_serviceArg (s : State) (p : Purge) : (s.setPurge p).serviceArg = s.serviceArg := rfl
@[simp] theorem setPurge_tagClock (s : State) (p : Purge) : (s.setPurge p).tagClock = s.tagClock := rfl
@[simp] theorem setPurge_lastTick (s : State) (p : Purge) : (s.setPurge p).lastTick = s.lastTick := rfl
@[simp] theorem setPurge_port (s : State) (p : Purge) : (s.setPurge p).port = s.port := rfl
@[simp] theorem setPurge_lanes (s : State) (p : Purge) : (s.setPurge p).lanes = s.lanes := rfl
@[simp] theorem setPurge_governor (s : State) (p : Purge) : (s.setPurge p).governor = s.governor := rfl
@[simp] theorem setPurge_holds (s : State) (p : Purge) : (s.setPurge p).holds = s.holds := rfl
@[simp] theorem setPurge_scanner (s : State) (p : Purge) : (s.setPurge p).scanner = s.scanner := rfl
@[simp] theorem setPurge_grader (s : State) (p : Purge) : (s.setPurge p).grader = s.grader := rfl
@[simp] theorem setPurge_switches (s : State) (p : Purge) : (s.setPurge p).switches = s.switches := rfl
@[simp] theorem setPurge_drive (s : State) (p : Purge) : (s.setPurge p).drive = s.drive := rfl
@[simp] theorem setPurge_heat (s : State) (p : Purge) : (s.setPurge p).heat = s.heat := rfl
@[simp] theorem setPurge_events (s : State) (p : Purge) : (s.setPurge p).events = s.events := rfl

@[simp] theorem setGrading_pending (s : State) (c : Fin 6) (g : Grading) : (s.setGrading c g).pending = s.pending := rfl
@[simp] theorem setGrading_now (s : State) (c : Fin 6) (g : Grading) : (s.setGrading c g).now = s.now := rfl
@[simp] theorem setGrading_freeIndex (s : State) (c : Fin 6) (g : Grading) : (s.setGrading c g).freeIndex = s.freeIndex := rfl
@[simp] theorem setGrading_part (s : State) (c : Fin 6) (g : Grading) : (s.setGrading c g).part = s.part := rfl
@[simp] theorem setGrading_faultReason (s : State) (c : Fin 6) (g : Grading) : (s.setGrading c g).faultReason = s.faultReason := rfl
@[simp] theorem setGrading_layout (s : State) (c : Fin 6) (g : Grading) : (s.setGrading c g).layout = s.layout := rfl
@[simp] theorem setGrading_loader (s : State) (c : Fin 6) (g : Grading) : (s.setGrading c g).loader = s.loader := rfl
@[simp] theorem setGrading_serviceArg (s : State) (c : Fin 6) (g : Grading) : (s.setGrading c g).serviceArg = s.serviceArg := rfl
@[simp] theorem setGrading_tagClock (s : State) (c : Fin 6) (g : Grading) : (s.setGrading c g).tagClock = s.tagClock := rfl
@[simp] theorem setGrading_lastTick (s : State) (c : Fin 6) (g : Grading) : (s.setGrading c g).lastTick = s.lastTick := rfl
@[simp] theorem setGrading_port (s : State) (c : Fin 6) (g : Grading) : (s.setGrading c g).port = s.port := rfl
@[simp] theorem setGrading_lanes (s : State) (c : Fin 6) (g : Grading) : (s.setGrading c g).lanes = s.lanes := rfl
@[simp] theorem setGrading_governor (s : State) (c : Fin 6) (g : Grading) : (s.setGrading c g).governor = s.governor := rfl
@[simp] theorem setGrading_holds (s : State) (c : Fin 6) (g : Grading) : (s.setGrading c g).holds = s.holds := rfl
@[simp] theorem setGrading_purge (s : State) (c : Fin 6) (g : Grading) : (s.setGrading c g).purge = s.purge := rfl
@[simp] theorem setGrading_scanner (s : State) (c : Fin 6) (g : Grading) : (s.setGrading c g).scanner = s.scanner := rfl
@[simp] theorem setGrading_switches (s : State) (c : Fin 6) (g : Grading) : (s.setGrading c g).switches = s.switches := rfl
@[simp] theorem setGrading_drive (s : State) (c : Fin 6) (g : Grading) : (s.setGrading c g).drive = s.drive := rfl
@[simp] theorem setGrading_heat (s : State) (c : Fin 6) (g : Grading) : (s.setGrading c g).heat = s.heat := rfl
@[simp] theorem setGrading_events (s : State) (c : Fin 6) (g : Grading) : (s.setGrading c g).events = s.events := rfl

@[simp] theorem setSwitch_pending (s : State) (i : SwitchId) (x : Switch) : (s.setSwitch i x).pending = s.pending := rfl
@[simp] theorem setSwitch_now (s : State) (i : SwitchId) (x : Switch) : (s.setSwitch i x).now = s.now := rfl
@[simp] theorem setSwitch_freeIndex (s : State) (i : SwitchId) (x : Switch) : (s.setSwitch i x).freeIndex = s.freeIndex := rfl
@[simp] theorem setSwitch_part (s : State) (i : SwitchId) (x : Switch) : (s.setSwitch i x).part = s.part := rfl
@[simp] theorem setSwitch_faultReason (s : State) (i : SwitchId) (x : Switch) : (s.setSwitch i x).faultReason = s.faultReason := rfl
@[simp] theorem setSwitch_layout (s : State) (i : SwitchId) (x : Switch) : (s.setSwitch i x).layout = s.layout := rfl
@[simp] theorem setSwitch_loader (s : State) (i : SwitchId) (x : Switch) : (s.setSwitch i x).loader = s.loader := rfl
@[simp] theorem setSwitch_serviceArg (s : State) (i : SwitchId) (x : Switch) : (s.setSwitch i x).serviceArg = s.serviceArg := rfl
@[simp] theorem setSwitch_tagClock (s : State) (i : SwitchId) (x : Switch) : (s.setSwitch i x).tagClock = s.tagClock := rfl
@[simp] theorem setSwitch_lastTick (s : State) (i : SwitchId) (x : Switch) : (s.setSwitch i x).lastTick = s.lastTick := rfl
@[simp] theorem setSwitch_port (s : State) (i : SwitchId) (x : Switch) : (s.setSwitch i x).port = s.port := rfl
@[simp] theorem setSwitch_lanes (s : State) (i : SwitchId) (x : Switch) : (s.setSwitch i x).lanes = s.lanes := rfl
@[simp] theorem setSwitch_governor (s : State) (i : SwitchId) (x : Switch) : (s.setSwitch i x).governor = s.governor := rfl
@[simp] theorem setSwitch_holds (s : State) (i : SwitchId) (x : Switch) : (s.setSwitch i x).holds = s.holds := rfl
@[simp] theorem setSwitch_purge (s : State) (i : SwitchId) (x : Switch) : (s.setSwitch i x).purge = s.purge := rfl
@[simp] theorem setSwitch_scanner (s : State) (i : SwitchId) (x : Switch) : (s.setSwitch i x).scanner = s.scanner := rfl
@[simp] theorem setSwitch_grader (s : State) (i : SwitchId) (x : Switch) : (s.setSwitch i x).grader = s.grader := rfl
@[simp] theorem setSwitch_drive (s : State) (i : SwitchId) (x : Switch) : (s.setSwitch i x).drive = s.drive := rfl
@[simp] theorem setSwitch_heat (s : State) (i : SwitchId) (x : Switch) : (s.setSwitch i x).heat = s.heat := rfl
@[simp] theorem setSwitch_events (s : State) (i : SwitchId) (x : Switch) : (s.setSwitch i x).events = s.events := rfl

@[simp] theorem putImage_pending (s : State) (a : Nat) (d : Word) : (s.putImage a d).pending = s.pending := rfl
@[simp] theorem putImage_now (s : State) (a : Nat) (d : Word) : (s.putImage a d).now = s.now := rfl
@[simp] theorem putImage_freeIndex (s : State) (a : Nat) (d : Word) : (s.putImage a d).freeIndex = s.freeIndex := rfl
@[simp] theorem putImage_part (s : State) (a : Nat) (d : Word) : (s.putImage a d).part = s.part := rfl
@[simp] theorem putImage_faultReason (s : State) (a : Nat) (d : Word) : (s.putImage a d).faultReason = s.faultReason := rfl
@[simp] theorem putImage_layout (s : State) (a : Nat) (d : Word) : (s.putImage a d).layout = s.layout := rfl
@[simp] theorem putImage_loader (s : State) (a : Nat) (d : Word) : (s.putImage a d).loader = s.loader := rfl
@[simp] theorem putImage_serviceArg (s : State) (a : Nat) (d : Word) : (s.putImage a d).serviceArg = s.serviceArg := rfl
@[simp] theorem putImage_tagClock (s : State) (a : Nat) (d : Word) : (s.putImage a d).tagClock = s.tagClock := rfl
@[simp] theorem putImage_lastTick (s : State) (a : Nat) (d : Word) : (s.putImage a d).lastTick = s.lastTick := rfl
@[simp] theorem putImage_lanes (s : State) (a : Nat) (d : Word) : (s.putImage a d).lanes = s.lanes := rfl
@[simp] theorem putImage_governor (s : State) (a : Nat) (d : Word) : (s.putImage a d).governor = s.governor := rfl
@[simp] theorem putImage_holds (s : State) (a : Nat) (d : Word) : (s.putImage a d).holds = s.holds := rfl
@[simp] theorem putImage_purge (s : State) (a : Nat) (d : Word) : (s.putImage a d).purge = s.purge := rfl
@[simp] theorem putImage_scanner (s : State) (a : Nat) (d : Word) : (s.putImage a d).scanner = s.scanner := rfl
@[simp] theorem putImage_grader (s : State) (a : Nat) (d : Word) : (s.putImage a d).grader = s.grader := rfl
@[simp] theorem putImage_switches (s : State) (a : Nat) (d : Word) : (s.putImage a d).switches = s.switches := rfl
@[simp] theorem putImage_drive (s : State) (a : Nat) (d : Word) : (s.putImage a d).drive = s.drive := rfl
@[simp] theorem putImage_heat (s : State) (a : Nat) (d : Word) : (s.putImage a d).heat = s.heat := rfl
@[simp] theorem putImage_events (s : State) (a : Nat) (d : Word) : (s.putImage a d).events = s.events := rfl

@[simp] theorem offerAs_pending (s : State) (r : EntryRole) (a : Nat) (d : Word) : (s.offerAs r a d).pending = s.pending := rfl
@[simp] theorem offerAs_now (s : State) (r : EntryRole) (a : Nat) (d : Word) : (s.offerAs r a d).now = s.now := rfl
@[simp] theorem offerAs_freeIndex (s : State) (r : EntryRole) (a : Nat) (d : Word) : (s.offerAs r a d).freeIndex = s.freeIndex := rfl
@[simp] theorem offerAs_part (s : State) (r : EntryRole) (a : Nat) (d : Word) : (s.offerAs r a d).part = s.part := rfl
@[simp] theorem offerAs_faultReason (s : State) (r : EntryRole) (a : Nat) (d : Word) : (s.offerAs r a d).faultReason = s.faultReason := rfl
@[simp] theorem offerAs_layout (s : State) (r : EntryRole) (a : Nat) (d : Word) : (s.offerAs r a d).layout = s.layout := rfl
@[simp] theorem offerAs_loader (s : State) (r : EntryRole) (a : Nat) (d : Word) : (s.offerAs r a d).loader = s.loader := rfl
@[simp] theorem offerAs_serviceArg (s : State) (r : EntryRole) (a : Nat) (d : Word) : (s.offerAs r a d).serviceArg = s.serviceArg := rfl
@[simp] theorem offerAs_tagClock (s : State) (r : EntryRole) (a : Nat) (d : Word) : (s.offerAs r a d).tagClock = s.tagClock := rfl
@[simp] theorem offerAs_lastTick (s : State) (r : EntryRole) (a : Nat) (d : Word) : (s.offerAs r a d).lastTick = s.lastTick := rfl
@[simp] theorem offerAs_lanes (s : State) (r : EntryRole) (a : Nat) (d : Word) : (s.offerAs r a d).lanes = s.lanes := rfl
@[simp] theorem offerAs_governor (s : State) (r : EntryRole) (a : Nat) (d : Word) : (s.offerAs r a d).governor = s.governor := rfl
@[simp] theorem offerAs_holds (s : State) (r : EntryRole) (a : Nat) (d : Word) : (s.offerAs r a d).holds = s.holds := rfl
@[simp] theorem offerAs_purge (s : State) (r : EntryRole) (a : Nat) (d : Word) : (s.offerAs r a d).purge = s.purge := rfl
@[simp] theorem offerAs_scanner (s : State) (r : EntryRole) (a : Nat) (d : Word) : (s.offerAs r a d).scanner = s.scanner := rfl
@[simp] theorem offerAs_grader (s : State) (r : EntryRole) (a : Nat) (d : Word) : (s.offerAs r a d).grader = s.grader := rfl
@[simp] theorem offerAs_switches (s : State) (r : EntryRole) (a : Nat) (d : Word) : (s.offerAs r a d).switches = s.switches := rfl
@[simp] theorem offerAs_drive (s : State) (r : EntryRole) (a : Nat) (d : Word) : (s.offerAs r a d).drive = s.drive := rfl
@[simp] theorem offerAs_heat (s : State) (r : EntryRole) (a : Nat) (d : Word) : (s.offerAs r a d).heat = s.heat := rfl
@[simp] theorem offerAs_events (s : State) (r : EntryRole) (a : Nat) (d : Word) : (s.offerAs r a d).events = s.events := rfl

@[simp] theorem offer_pending (s : State) (a : Nat) (d : Word) : (s.offer a d).pending = s.pending := rfl
@[simp] theorem offer_now (s : State) (a : Nat) (d : Word) : (s.offer a d).now = s.now := rfl
@[simp] theorem offer_freeIndex (s : State) (a : Nat) (d : Word) : (s.offer a d).freeIndex = s.freeIndex := rfl
@[simp] theorem offer_part (s : State) (a : Nat) (d : Word) : (s.offer a d).part = s.part := rfl
@[simp] theorem offer_faultReason (s : State) (a : Nat) (d : Word) : (s.offer a d).faultReason = s.faultReason := rfl
@[simp] theorem offer_layout (s : State) (a : Nat) (d : Word) : (s.offer a d).layout = s.layout := rfl
@[simp] theorem offer_loader (s : State) (a : Nat) (d : Word) : (s.offer a d).loader = s.loader := rfl
@[simp] theorem offer_serviceArg (s : State) (a : Nat) (d : Word) : (s.offer a d).serviceArg = s.serviceArg := rfl
@[simp] theorem offer_tagClock (s : State) (a : Nat) (d : Word) : (s.offer a d).tagClock = s.tagClock := rfl
@[simp] theorem offer_lastTick (s : State) (a : Nat) (d : Word) : (s.offer a d).lastTick = s.lastTick := rfl
@[simp] theorem offer_lanes (s : State) (a : Nat) (d : Word) : (s.offer a d).lanes = s.lanes := rfl
@[simp] theorem offer_governor (s : State) (a : Nat) (d : Word) : (s.offer a d).governor = s.governor := rfl
@[simp] theorem offer_holds (s : State) (a : Nat) (d : Word) : (s.offer a d).holds = s.holds := rfl
@[simp] theorem offer_purge (s : State) (a : Nat) (d : Word) : (s.offer a d).purge = s.purge := rfl
@[simp] theorem offer_scanner (s : State) (a : Nat) (d : Word) : (s.offer a d).scanner = s.scanner := rfl
@[simp] theorem offer_grader (s : State) (a : Nat) (d : Word) : (s.offer a d).grader = s.grader := rfl
@[simp] theorem offer_switches (s : State) (a : Nat) (d : Word) : (s.offer a d).switches = s.switches := rfl
@[simp] theorem offer_drive (s : State) (a : Nat) (d : Word) : (s.offer a d).drive = s.drive := rfl
@[simp] theorem offer_heat (s : State) (a : Nat) (d : Word) : (s.offer a d).heat = s.heat := rfl
@[simp] theorem offer_events (s : State) (a : Nat) (d : Word) : (s.offer a d).events = s.events := rfl

@[simp] theorem putStatus_pending (s : State) (a : Nat) (d : Word) : (s.putStatus a d).pending = s.pending := rfl
@[simp] theorem putStatus_now (s : State) (a : Nat) (d : Word) : (s.putStatus a d).now = s.now := rfl
@[simp] theorem putStatus_freeIndex (s : State) (a : Nat) (d : Word) : (s.putStatus a d).freeIndex = s.freeIndex := rfl
@[simp] theorem putStatus_part (s : State) (a : Nat) (d : Word) : (s.putStatus a d).part = s.part := rfl
@[simp] theorem putStatus_faultReason (s : State) (a : Nat) (d : Word) : (s.putStatus a d).faultReason = s.faultReason := rfl
@[simp] theorem putStatus_layout (s : State) (a : Nat) (d : Word) : (s.putStatus a d).layout = s.layout := rfl
@[simp] theorem putStatus_loader (s : State) (a : Nat) (d : Word) : (s.putStatus a d).loader = s.loader := rfl
@[simp] theorem putStatus_serviceArg (s : State) (a : Nat) (d : Word) : (s.putStatus a d).serviceArg = s.serviceArg := rfl
@[simp] theorem putStatus_tagClock (s : State) (a : Nat) (d : Word) : (s.putStatus a d).tagClock = s.tagClock := rfl
@[simp] theorem putStatus_lastTick (s : State) (a : Nat) (d : Word) : (s.putStatus a d).lastTick = s.lastTick := rfl
@[simp] theorem putStatus_lanes (s : State) (a : Nat) (d : Word) : (s.putStatus a d).lanes = s.lanes := rfl
@[simp] theorem putStatus_governor (s : State) (a : Nat) (d : Word) : (s.putStatus a d).governor = s.governor := rfl
@[simp] theorem putStatus_holds (s : State) (a : Nat) (d : Word) : (s.putStatus a d).holds = s.holds := rfl
@[simp] theorem putStatus_purge (s : State) (a : Nat) (d : Word) : (s.putStatus a d).purge = s.purge := rfl
@[simp] theorem putStatus_scanner (s : State) (a : Nat) (d : Word) : (s.putStatus a d).scanner = s.scanner := rfl
@[simp] theorem putStatus_grader (s : State) (a : Nat) (d : Word) : (s.putStatus a d).grader = s.grader := rfl
@[simp] theorem putStatus_switches (s : State) (a : Nat) (d : Word) : (s.putStatus a d).switches = s.switches := rfl
@[simp] theorem putStatus_drive (s : State) (a : Nat) (d : Word) : (s.putStatus a d).drive = s.drive := rfl
@[simp] theorem putStatus_heat (s : State) (a : Nat) (d : Word) : (s.putStatus a d).heat = s.heat := rfl
@[simp] theorem putStatus_events (s : State) (a : Nat) (d : Word) : (s.putStatus a d).events = s.events := rfl

@[simp] theorem setLane_lanes (s : State) (l : LaneId) (x : Lane) : (s.setLane l x).lanes = s.lanes.set l x := rfl
@[simp] theorem setScanner_scanner (s : State) (x : Scanner) : (s.setScanner x).scanner = x := rfl
@[simp] theorem setHeat_heat (s : State) (h : HeatUnit) : (s.setHeat h).heat = h := rfl
@[simp] theorem setPurge_purge (s : State) (p : Purge) : (s.setPurge p).purge = p := rfl
@[simp] theorem setDamper_queue (s : State) (d : Fin 8) (x : Damper) : (s.setDamper d x).drive.queue = s.drive.queue := rfl
@[simp] theorem setGrading_grades (s : State) (c : Fin 6) (g : Grading) :
    (s.setGrading c g).grader.grades = s.grader.grades := rfl
@[simp] theorem setDamper_damper_same (s : State) (d : Fin 8) (x : Damper) : (s.setDamper d x).damper d = x :=
  vset_get_same _ _ _
theorem setDamper_damper_other (s : State) {d e : Fin 8} (x : Damper) (h : e ≠ d) :
    (s.setDamper d x).damper e = s.damper e := vset_get_other _ _ h
@[simp] theorem setChannel_channel_same (s : State) (c : Fin 16) (x : Channel) : (s.setChannel c x).channel c = x :=
  vset_get_same _ _ _
theorem setChannel_channel_other (s : State) {c e : Fin 16} (x : Channel) (h : e ≠ c) :
    (s.setChannel c x).channel e = s.channel e := vset_get_other _ _ h
@[simp] theorem setGrading_grading_same (s : State) (c : Fin 6) (g : Grading) : (s.setGrading c g).grading c = g :=
  vset_get_same _ _ _
theorem setGrading_grading_other (s : State) {c e : Fin 6} (g : Grading) (h : e ≠ c) :
    (s.setGrading c g).grading e = s.grading e := vset_get_other _ _ h

end Sys2Proof.Machine
end

