-- ==== Sys2Proof/Laws/Memory.lean ====
section
/-! SUPPORT. The laws of the climate RAM: a write keeps the canonical form, and what a read gives after a write. -/

namespace Sys2Proof.Machine

theorem Memory.wf_cons {a : Nat} {w : RamWord} {m : Memory} :
    Memory.wf ((a, w) :: m) = true ↔ w ≠ unlisted ∧ (∀ c ∈ m, a < c.1) ∧ Memory.wf m = true := by
  simp [Memory.wf, and_assoc]

/-- Every address of a written RAM is an old one or the one written. -/
theorem Memory.mem_write {m : Memory} {a : Nat} {w : RamWord} {c : RamCell} (h : c ∈ m.write a w) :
    c ∈ m ∨ c = (a, w) := by
  induction m with
  | nil => simp only [Memory.write] at h; split at h <;> simp_all
  | cons d m ih =>
    obtain ⟨b, x⟩ := d
    simp only [Memory.write] at h
    split at h
    · split at h
      · exact .inl h
      · rcases List.mem_cons.1 h with h | h
        · exact .inr h
        · exact .inl h
    · split at h
      · rename_i hab
        subst hab
        split at h
        · exact .inl (List.mem_cons_of_mem _ h)
        · rcases List.mem_cons.1 h with h | h
          · exact .inr h
          · exact .inl (List.mem_cons_of_mem _ h)
      · rcases List.mem_cons.1 h with h | h
        · exact .inl (by simp [h])
        · rcases ih h with h | h
          · exact .inl (List.mem_cons_of_mem _ h)
          · exact .inr h

/-- A write keeps the canonical form. -/
theorem Memory.wf_write {m : Memory} (h : Memory.wf m = true) (a : Nat) (w : RamWord) :
    Memory.wf (m.write a w) = true := by
  induction m with
  | nil => simp only [Memory.write]; split <;> simp_all [Memory.wf]
  | cons d m ih =>
    obtain ⟨b, x⟩ := d
    obtain ⟨hx, hb, hm⟩ := Memory.wf_cons.1 h
    simp only [Memory.write]
    split
    · rename_i hab
      split
      · exact h
      · rename_i hw
        refine Memory.wf_cons.2 ⟨hw, ?_, h⟩
        intro c hc
        rcases List.mem_cons.1 hc with rfl | hc
        · exact hab
        · exact Nat.lt_trans hab (hb c hc)
    · split
      · rename_i hab
        split
        · exact hm
        · rename_i hw
          exact Memory.wf_cons.2 ⟨hw, fun c hc => hab ▸ hb c hc, hm⟩
      · rename_i h1 h2
        refine Memory.wf_cons.2 ⟨hx, ?_, ih hm⟩
        intro c hc
        rcases Memory.mem_write hc with hc | rfl
        · exact hb c hc
        · show b < a
          omega

/-- Below the least address of a canonical RAM every word is unlisted. -/
theorem Memory.read_below {m : Memory} {a : Nat} (h : ∀ c ∈ m, a < c.1) : m.read a = unlisted := by
  induction m with
  | nil => rfl
  | cons d m ih =>
    obtain ⟨b, x⟩ := d
    have hb : a < b := h (b, x) (by simp)
    have : b ≠ a := by omega
    simp only [Memory.read, this, if_false]
    exact ih (fun c hc => h c (List.mem_cons_of_mem _ hc))

/-- A word written is read back. -/
theorem Memory.read_write_same {m : Memory} (h : Memory.wf m = true) (a : Nat) (w : RamWord) :
    (m.write a w).read a = w := by
  induction m with
  | nil => simp only [Memory.write]; split <;> simp_all [Memory.read]
  | cons d m ih =>
    obtain ⟨b, x⟩ := d
    obtain ⟨hx, hb, hm⟩ := Memory.wf_cons.1 h
    simp only [Memory.write]
    split
    · rename_i hab
      split
      · rename_i hw
        have hne : b ≠ a := by omega
        simp only [Memory.read, hne, if_false]
        rw [hw]
        exact Memory.read_below (fun c hc => Nat.lt_trans hab (hb c hc))
      · simp [Memory.read]
    · split
      · rename_i hab
        subst hab
        split
        · rename_i hw
          rw [hw]
          exact Memory.read_below hb
        · simp [Memory.read]
      · rename_i h1 h2
        have hne : b ≠ a := fun e => h2 e.symm
        simp only [Memory.read, hne, if_false]
        exact ih hm

/-- A write leaves every other word. -/
theorem Memory.read_write_other (m : Memory) {a b : Nat} (w : RamWord) (h : b ≠ a) :
    (m.write a w).read b = m.read b := by
  induction m with
  | nil =>
    simp only [Memory.write]
    split
    · rfl
    · simp [Memory.read, Ne.symm h]
  | cons d m ih =>
    obtain ⟨c, x⟩ := d
    simp only [Memory.write]
    split
    · split
      · rfl
      · simp [Memory.read, Ne.symm h]
    · split
      · rename_i hac
        subst hac
        split
        · simp [Memory.read, Ne.symm h]
        · simp [Memory.read, Ne.symm h]
      · simp only [Memory.read]
        split
        · rfl
        · exact ih

/-! ### Part writes and host writes over the RAM -/

theorem forwardWrite_ramCanonical {s : State} (h : s.ramCanonical) (a : Nat) (w : RamWord) :
    (s.forwardWrite a w).ramCanonical := Memory.wf_write h a w

theorem partWrite_ramCanonical {s : State} (h : s.ramCanonical) (a : Nat) (d : Word) :
    (s.partWrite a d).ramCanonical := Memory.wf_write h a _

theorem reset_ramCanonical : State.reset.ramCanonical := rfl

/-- R160: a word that the part writes has good parity. -/
theorem RamWord.good_parityOk (d : Word) : (RamWord.good d).parityOk = true := by simp [RamWord.good, RamWord.parityOk]

end Sys2Proof.Machine
end

