-- ==== Sys2Proof/Laws/Port.lean ====
section
/-! SUPPORT. The laws of the three sources of part cycles: what an offer adds, and that their bounds are kept. -/

namespace Sys2Proof.Machine

/-- R164: an offer adds one write behind all those not yet made, whether or not it has to wait. -/
theorem Port.offer_writes (p : Port) (e : RecordEntry) : (p.offer e).writes = p.writes ++ [e] := by
  unfold Port.offer Port.writes
  split
  · rename_i h
    have : p.waiting = [] := by simp_all
    simp [this]
  · simp

theorem offerAs_writes (s : State) (r : EntryRole) (a : Nat) (d : Word) :
    (s.offerAs r a d).port.writes = s.port.writes ++ [{ addr := a, data := d, role := r }] := Port.offer_writes _ _

theorem offer_writes (s : State) (a : Nat) (d : Word) :
    (s.offer a d).port.writes = s.port.writes ++ [{ addr := a, data := d, role := .plain }] := Port.offer_writes _ _

/-- R164: an offer keeps the queue within its 32 entries. -/
theorem Port.offer_bounded {p : Port} (h : p.records.length ≤ 32) (e : RecordEntry) : (p.offer e).records.length ≤ 32 := by
  unfold Port.offer
  split
  · rename_i hc
    have : p.records.length < 32 := of_decide_eq_true ((Bool.and_eq_true _ _).mp hc).2
    simp
    omega
  · exact h

/-- R164: writes enter the queue only as far as places are free. -/
theorem Port.admit_bounded {p : Port} (h : p.records.length ≤ 32) : p.admitAll.records.length ≤ 32 := by
  simp [Port.admitAll, Config.recordQueueSize]
  omega

/-- R164: entering the queue keeps the order of the writes. -/
theorem Port.admit_writes (p : Port) : p.admitAll.writes = p.writes := by
  simp [Port.admitAll, Port.writes]

theorem admitWaiting_none {s : State} (h : s.port.waiting = []) : s.admitWaiting = s := by
  cases s with
  | mk _ _ _ _ _ _ _ _ _ _ port => cases port; simp_all [State.admitWaiting, Port.admitAll]

theorem Port.offer_images (p : Port) (e : RecordEntry) : (p.offer e).images = p.images := by
  unfold Port.offer; split <;> rfl

theorem Port.offer_ram (p : Port) (e : RecordEntry) : (p.offer e).ram = p.ram := by unfold Port.offer; split <;> rfl

theorem Port.offer_reads (p : Port) (e : RecordEntry) : (p.offer e).reads = p.reads := by unfold Port.offer; split <;> rfl

theorem Port.offer_hostPassed (p : Port) (e : RecordEntry) : (p.offer e).hostPassed = p.hostPassed := by
  unfold Port.offer; split <;> rfl

theorem Port.offer_pointer (p : Port) (e : RecordEntry) : (p.offer e).pointer = p.pointer := by
  unfold Port.offer; split <;> rfl

theorem Port.offer_held (p : Port) (e : RecordEntry) : (p.offer e).held = p.held := by unfold Port.offer; split <;> rfl

theorem Port.offer_guards (p : Port) (e : RecordEntry) : (p.offer e).guards = p.guards := by
  unfold Port.offer; split <;> rfl

theorem Port.offer_lastRead (p : Port) (e : RecordEntry) : (p.offer e).lastRead = p.lastRead := by
  unfold Port.offer; split <;> rfl

/-! ### The Image Set (R165) -/

/-- An offer of an image write adds at most the word's own address. -/
theorem putImageEntry_addr {xs : List ImageEntry} {a : Nat} {d : Word} {e : ImageEntry} (h : e ∈ putImageEntry xs a d) :
    e.addr = a ∨ e ∈ xs := by
  induction xs with
  | nil => simp [putImageEntry] at h; simp [h]
  | cons x xs ih =>
    simp only [putImageEntry] at h
    split at h
    · rcases List.mem_cons.1 h with rfl | h
      · exact .inl rfl
      · exact .inr (List.mem_cons_of_mem _ h)
    · rcases List.mem_cons.1 h with rfl | h
      · exact .inr (by simp)
      · rcases ih h with h | h
        · exact .inl h
        · exact .inr (List.mem_cons_of_mem _ h)

/-- R165: the set holds at most one entry per word. -/
theorem putImageEntry_nodup {xs : List ImageEntry} (h : (xs.map ImageEntry.addr).Nodup) (a : Nat) (d : Word) :
    ((putImageEntry xs a d).map ImageEntry.addr).Nodup := by
  induction xs with
  | nil => simp [putImageEntry]
  | cons x xs ih =>
    simp only [List.map_cons, List.nodup_cons] at h
    simp only [putImageEntry]
    split
    · rename_i hx
      subst hx
      exact List.nodup_cons.2 h
    · rename_i hx
      refine List.nodup_cons.2 ⟨?_, ih h.2⟩
      intro hm
      obtain ⟨e, he, hea⟩ := List.mem_map.1 hm
      rcases putImageEntry_addr he with h1 | h1
      · exact hx (hea ▸ h1)
      · exact h.1 (hea ▸ List.mem_map_of_mem (f := ImageEntry.addr) h1)

/-- R165: after an offer, the word's entry holds the data offered. -/
theorem putImageEntry_find (xs : List ImageEntry) (a : Nat) (d : Word) :
    (putImageEntry xs a d).find? (fun e => e.addr == a) = some { addr := a, data := d } := by
  induction xs with
  | nil => simp [putImageEntry]
  | cons x xs ih =>
    simp only [putImageEntry]
    split
    · simp
    · rename_i hx
      simp [hx, ih]

/-- R165: an offer leaves the entries of other words as they stand. -/
theorem putImageEntry_find_other (xs : List ImageEntry) {a b : Nat} (d : Word) (h : b ≠ a) :
    (putImageEntry xs a d).find? (fun e => e.addr == b) = xs.find? (fun e => e.addr == b) := by
  induction xs with
  | nil => simp [putImageEntry, Ne.symm h]
  | cons x xs ih =>
    simp only [putImageEntry]
    split
    · rename_i hx
      simp [hx, Ne.symm h]
    · simp only [List.find?_cons, ih]

theorem reset_queuesBounded : State.reset.queuesBounded := by constructor <;> simp [State.reset, Port.reset]

end Sys2Proof.Machine
end

