-- ==== Sys2Proof/Laws/Frames.lean ====
section
/-! SUPPORT. What the shared operations leave unchanged, said once for each: a recompute with all that it brings about
leaves `State.still`. -/

namespace Sys2Proof.Machine

theorem State.lower_of_still {s t : State} (h : t.still = s.still) : t.lower = s.lower := congrArg Still.toLower h
theorem State.below_of_lower {s t : State} (h : t.lower = s.lower) : t.below = s.below := congrArg Lower.toBelow h
theorem State.below_of_still {s t : State} (h : t.still = s.still) : t.below = s.below :=
  State.below_of_lower (State.lower_of_still h)
theorem State.base_of_below {s t : State} (h : t.below = s.below) : t.base = s.base := congrArg Below.toBase h
theorem State.ground_of_base {s t : State} (h : t.base = s.base) : t.ground = s.ground := congrArg Base.toGround h

/-- An operation folded over a list leaves what each of its steps leaves. -/
theorem each_leaves {α β : Type} (g : State → β) (f : α → State → State) (h : ∀ x t, g (f x t) = g t) (xs : List α)
    (s : State) : g (s.each xs f) = g s := by
  unfold State.each
  induction xs generalizing s with
  | nil => rfl
  | cons x xs ih => exact (ih (f x s)).trans (h x s)

/-! ### Writes and requests -/

theorem offerAs_still (s : State) (r : EntryRole) (a : Nat) (d : Word) : (s.offerAs r a d).still = s.still := by
  simp only [State.still, State.lower, State.below, State.base, State.ground, State.offerAs, Port.offer_ram, Port.offer_reads,
    Port.offer_hostPassed, Port.offer_pointer, Port.offer_held, Port.offer_guards, Port.offer_lastRead]

theorem offer_still (s : State) (a : Nat) (d : Word) : (s.offer a d).still = s.still := offerAs_still s _ a d

theorem putImage_still (s : State) (a : Nat) (d : Word) : (s.putImage a d).still = s.still := rfl

theorem putStatus_still (s : State) (a : Nat) (d : Word) : (s.putStatus a d).still = s.still := rfl

theorem setHeat_still (s : State) (h : HeatUnit) : (s.setHeat h).still = s.still := rfl

theorem setDamper_still (s : State) (d : Fin 8) (x : Damper) : (s.setDamper d x).still = s.still := rfl

theorem putHeatWord_still (s : State) : s.putHeatWord.still = s.still := rfl

theorem serveHead_still (s : State) : s.serveHead.still = s.still := by unfold State.serveHead; split <;> rfl

theorem enterSpot_still (s : State) (r : Resume) : (s.enterSpot r).still = s.still := serveHead_still _

theorem preemptScan_still (s : State) : s.preemptScan.still = s.still := by
  unfold State.preemptScan
  split
  · split <;> exact enterSpot_still _ _
  · exact enterSpot_still _ _

theorem requestSpot_still (s : State) (r : Requester) (c : Fin 16) : (s.requestSpot r c).still = s.still := by
  unfold State.requestSpot
  split
  · simp only
    split
    · rfl
    · split
      · exact preemptScan_still _
      · rfl
    · exact enterSpot_still _ _
    · exact enterSpot_still _ _
  · rfl

theorem withdrawSpot_still (s : State) (r : Requester) (c : Fin 16) : (s.withdrawSpot r c).still = s.still := rfl

/-! ### The Blower and Heat Unit -/

theorem rejudgeWatch_still (s : State) : s.rejudgeWatch.still = s.still := by unfold State.rejudgeWatch; split <;> rfl

theorem handBlower_still (s : State) (v : Nat) : (s.handBlower v).still = s.still := rejudgeWatch_still _

theorem setSpeed_still (s : State) (v : Nat) : (s.setSpeed v).still = s.still := by
  unfold State.setSpeed; split
  · rfl
  · exact rejudgeWatch_still _

theorem energise_still (s : State) (i : Fin 4) : (s.energise i).still = s.still := requestSpot_still _ _ _

theorem testStageUp_still (s : State) : s.testStageUp.still = s.still := by
  unfold State.testStageUp
  split
  · split
    · exact energise_still _ _
    · rfl
  · rfl

theorem rejudgeHeat_still (s : State) : s.rejudgeHeat.still = s.still := by
  have judged (t : State) : (if t.stageLimit < t.heat.energised then
      (t.setHeat { t.heat with stages := stageFalls (t.heat.energised - t.stageLimit) t.heat.stages }).putHeatWord
      else t.testStageUp).still = t.still := by
    split
    · rfl
    · exact testStageUp_still t
  exact judged _

theorem handHeat_still (s : State) (d : Nat) : (s.handHeat d).still = s.still := rejudgeHeat_still _

theorem tellHeat_still (s : State) (k : HoldKey) (b : Bool) : (s.tellHeat k b).still = s.still := by
  unfold State.tellHeat; split <;> first | exact rejudgeHeat_still _ | rfl

/-! ### Lanes told of dampers -/

theorem setLane_still {s : State} {l : LaneId} {x : Lane} (h : x.still = (s.lanes.get l).still) :
    (s.setLane l x).still = s.still := by
  cases l <;> simp only [PerLane.get] at h <;>
    simp only [State.still, State.lower, State.below, State.base, State.ground, State.setLane, PerLane.set, h]

theorem putLaneStatus_still (s : State) (l : LaneId) : (s.putLaneStatus l).still = s.still := offer_still _ _ _

theorem leaveSettle_still {again : State → State} (ha : ∀ t, (again t).still = t.still) (slow : Bool) {l : LaneId}
    {s : State} (hs : (s.lanes.get l).state = .settle) : (s.leaveSettle again slow l).still = s.still := by
  unfold State.leaveSettle
  split
  · rfl
  · rename_i o ho
    rw [ha, putLaneStatus_still]
    refine setLane_still ?_
    simp [Lane.still, Lane.engaged, ActiveOrder.core, ho, hs]

theorem setOrder_flags_still {s : State} {l : LaneId} {o : ActiveOrder} (ho : (s.lanes.get l).order = some o)
    (he : (s.lanes.get l).engaged = true) (f : StickyFlags) : (s.setOrder l { o with flags := f }).still = s.still := by
  refine setLane_still ?_
  simp only [Lane.still, Lane.engaged] at he ⊢
  simp [ActiveOrder.core, ho, he]

/-- R17, R130: noting a jam leaves the lane's state. -/
theorem noteJam_state (d : Fin 8) (l : LaneId) (s : State) :
    ((s.noteJam d l).lanes.get l).state = (s.lanes.get l).state := by
  unfold State.noteJam
  split
  · split
    · simp [State.setOrder]
    · rfl
  · rfl

theorem noteJam_still {d : Fin 8} {l : LaneId} {s : State} (he : (s.lanes.get l).engaged = true) :
    (s.noteJam d l).still = s.still := by
  unfold State.noteJam
  split
  · split
    · exact setOrder_flags_still ‹_› he _
    · rfl
  · rfl

theorem testSettle_still {again : State → State} (ha : ∀ t, (again t).still = t.still) (e : Option LaneId) {l : LaneId}
    {s : State} (hs : (s.lanes.get l).state = .settle) : (s.testSettle again e l).still = s.still := by
  unfold State.testSettle
  split
  · exact leaveSettle_still ha _ hs
  · rfl

theorem tellLane_still {again : State → State} (ha : ∀ t, (again t).still = t.still) (e : Option LaneId) (d : Fin 8)
    (l : LaneId) (s : State) : (s.tellLane again e d l).still = s.still := by
  have note {x : LaneState} (hs : (s.lanes.get l).state = x) (hx : x = .settle ∨ x = .dwell ∨ x = .check) :
      (s.noteJam d l).still = s.still := by
    refine noteJam_still ?_
    rcases hx with rfl | rfl | rfl <;> simp [Lane.engaged, hs]
  unfold State.tellLane
  split
  · split
    · rename_i hs
      by_cases hd : d = l.damper
      · rw [if_pos hd]
        exact (testSettle_still ha e ((noteJam_state d l s).trans hs)).trans (note hs (by simp))
      · rw [if_neg hd]
        exact testSettle_still ha e hs
    · exact note ‹_› (by simp)
    · exact note ‹_› (by simp)
    · rfl
  · rfl

theorem handOnDamper_still {again : State → State} (ha : ∀ t, (again t).still = t.still) (e : Option LaneId) (d : Fin 8)
    (s : State) : (s.handOnDamper again e d).still = s.still :=
  (each_leaves State.still _ (fun l t => tellLane_still ha e d l t) _ _).trans (putStatus_still _ _ _)

/-! ### Motion -/

theorem reachTarget_still {again : State → State} (ha : ∀ t, (again t).still = t.still) (e : Option LaneId) (d : Fin 8)
    (p : Plan) (s : State) : (s.reachTarget again e d p).still = s.still := handOnDamper_still ha _ _ _

theorem moveFrom_still {again : State → State} (ha : ∀ t, (again t).still = t.still) (e : Option LaneId) (d : Fin 8)
    (n : Nat) (s : State) : (s.moveFrom again e d n).still = s.still := by
  unfold State.moveFrom
  simp only
  split
  · exact reachTarget_still ha _ _ _ _
  · exact handOnDamper_still ha _ _ _

theorem startHoming_still {again : State → State} (ha : ∀ t, (again t).still = t.still) (e : Option LaneId) (d : Fin 8)
    (s : State) : (s.startHoming again e d).still = s.still := handOnDamper_still ha _ _ _

theorem grantHead_still {again : State → State} (ha : ∀ t, (again t).still = t.still) (e : Option LaneId) (s : State) :
    (s.grantHead again e).still = s.still := by
  unfold State.grantHead
  split
  · rfl
  · simp only
    split
    · exact startHoming_still ha _ _ _
    · exact moveFrom_still ha _ _ _ _

theorem giveGrants_still {again : State → State} (ha : ∀ t, (again t).still = t.still) (e : Option LaneId) (n : Nat)
    (s : State) : (State.giveGrants again e n s).still = s.still := by
  induction n generalizing s with
  | zero => rfl
  | succ n ih =>
    unfold State.giveGrants
    split
    · exact (ih _).trans (grantHead_still ha _ _)
    · rfl

theorem grant_still {again : State → State} (ha : ∀ t, (again t).still = t.still) (e : Option LaneId) (s : State) :
    (s.grant again e).still = s.still := giveGrants_still ha _ _ _

theorem joinMotion_still {again : State → State} (ha : ∀ t, (again t).still = t.still) (e : Option LaneId) (d : Fin 8)
    (s : State) : (s.joinMotion again e d).still = s.still :=
  (grant_still ha _ _).trans (handOnDamper_still ha _ _ _)

theorem replan_still {again : State → State} (ha : ∀ t, (again t).still = t.still) (e : Option LaneId) (d : Fin 8)
    (n : Nat) (s : State) : (s.replan again e d n).still = s.still := by
  unfold State.replan
  simp only
  split
  · exact (grant_still ha _ _).trans (moveFrom_still ha _ _ _ _)
  · exact moveFrom_still ha _ _ _ _

theorem takeTarget_still {again : State → State} (ha : ∀ t, (again t).still = t.still) (e : Option LaneId) (d : Fin 8)
    (g : Nat) (s : State) : (s.takeTarget again e d g).still = s.still := by
  unfold State.takeTarget
  simp only
  split
  · split
    · rfl
    · exact joinMotion_still ha _ _ _
  · split
    · exact handOnDamper_still ha _ _ _
    · rfl
  · exact replan_still ha _ _ _ _
  · exact replan_still ha _ _ _ _
  · rfl

/-! ### The recompute -/

theorem putMixWords_still (s : State) (old new : Mix) : (s.putMixWords old new).still = s.still := by
  refine each_leaves State.still _ (fun w t => ?_) _ _
  split <;> rfl

theorem tellDenied_still {m : Mix} {l : LaneId} {s : State}
    (h : m.denied.get l = true → (s.lanes.get l).engaged = true) : (s.tellDenied m l).still = s.still := by
  unfold State.tellDenied
  split
  · rename_i hd
    split
    · rename_i ho
      exact setOrder_flags_still ho (h hd) _
    · rfl
  · rfl

/-- A lane is engaged as long as the rest of it stands still. -/
theorem engaged_of_still {s t : State} (h : t.still = s.still) (l : LaneId) :
    (t.lanes.get l).engaged = (s.lanes.get l).engaged := by
  have hl := congrArg Still.lanes h
  cases l
  · exact congrArg (fun p => LaneStill.engaged p.front) hl
  · exact congrArg (fun p => LaneStill.engaged p.crew) hl
  · exact congrArg (fun p => LaneStill.engaged p.screen) hl

theorem tellsDenied_still {m : Mix} {s : State}
    (h : ∀ l, m.denied.get l = true → (s.lanes.get l).engaged = true) :
    (s.each allLanes (State.tellDenied m)).still = s.still := by
  have h1 := tellDenied_still (h .front)
  have h2 := tellDenied_still (m := m) (l := .crew) (s := s.tellDenied m .front)
    (fun d => (engaged_of_still h1 .crew).trans (h .crew d))
  have h3 := tellDenied_still (m := m) (l := .screen) (s := (s.tellDenied m .front).tellDenied m .crew)
    (fun d => (engaged_of_still (h2.trans h1) .screen).trans (h .screen d))
  exact h3.trans (h2.trans h1)

/-- R42: a denied lane has an order in SETTLE, DWELL or CHECK. -/
theorem denied_engaged (s : State) (dp : Option Nat) (l : LaneId) (h : (s.nextMix dp).1.denied.get l = true) :
    (s.lanes.get l).engaged = true := by
  have hd : s.deniedLane (s.nextMix dp).2 l = true := by cases l <;> exact h
  unfold State.deniedLane Lane.inForce at hd
  split at hd
  · rename_i hf
    split at hf
    · assumption
    · exact absurd hf (by simp)
  · exact absurd hd (by simp)

theorem handTarget_still {again : State → State} (ha : ∀ t, (again t).still = t.still) (e : Option LaneId) (b : Bool)
    (old new : Mix) (d : Fin 8) (s : State) : (s.handTarget again e b old new d).still = s.still := by
  unfold State.handTarget
  split
  · exact takeTarget_still ha _ _ _ _
  · rfl

theorem recomputeOnce_still {again : State → State} (ha : ∀ t, (again t).still = t.still) (e : Option LaneId) (b : Bool)
    (dp : Option Nat) (s : State) : (s.recomputeOnce again e b dp).still = s.still := by
  unfold State.recomputeOnce
  simp only
  have targets (t : State) (old new : Mix) :
      ((t.putMixWords old new).each allDampers (State.handTarget again e b old new)).still = t.still :=
    (each_leaves State.still _ (fun d t => handTarget_still ha e b _ _ d t) _ _).trans (putMixWords_still _ _ _)
  have told (t : State) (h : t.still = s.still) : (t.each allLanes (State.tellDenied (s.nextMix dp).1)).still = s.still :=
    (tellsDenied_still (fun l d => (engaged_of_still h l).trans (denied_engaged s dp l d))).trans h
  refine told _ ((handHeat_still _ _).trans ?_)
  split
  · exact (handBlower_still _ _).trans ((targets _ _ _).trans rfl)
  · exact (targets _ _ _).trans rfl

theorem recomputeAt_still (e : Option LaneId) (n : Nat) (b : Bool) (dp : Option Nat) (s : State) :
    (State.recomputeAt e n b dp s).still = s.still := by
  induction n generalizing b dp s with
  | zero => exact recomputeOnce_still (fun _ => rfl) _ _ _ _
  | succ n ih => exact recomputeOnce_still (fun t => ih _ _ t) _ _ _ _

theorem recomputeFor_still (e : Option LaneId) (s : State) : (s.recomputeFor e).still = s.still := by
  unfold State.recomputeFor
  split
  · exact recomputeAt_still _ _ _ _ _
  · rfl

/-- R30 to R33: what a recompute with all that it brings about leaves unchanged. -/
theorem recompute_still (s : State) : s.recompute.still = s.still := recomputeFor_still _ _

theorem recomputeConversion_still (s : State) (dp : Option Nat) : (s.recomputeConversion dp).still = s.still := by
  unfold State.recomputeConversion
  split
  · exact recomputeAt_still _ _ _ _ _
  · rfl

theorem recomputeEntry_still (s : State) : s.recomputeEntry.still = s.still := by
  unfold State.recomputeEntry
  split
  · exact recomputeAt_still _ _ _ _ _
  · rfl

/-- R33: the record of a recompute is computed as a whole from the view before it. -/
theorem recompute_not_running {s : State} (h : s.part ≠ .running) : s.recompute = s := by
  simp [State.recompute, State.recomputeFor, h]

end Sys2Proof.Machine
end

