-- ==== Sys2Proof/Laws/BlockFrames.lean ====
section
/-! SUPPORT. What the operations of the blocks leave unchanged: the lanes leave `State.lower`, the Hold Table's records
`State.below`, the notices, the purge, the dampers and the heat unit `State.base`, the grader and the deliveries
`State.ground`. -/

namespace Sys2Proof.Machine

/-! ### Events -/

theorem offerAs_lower (s : State) (r : EntryRole) (a : Nat) (d : Word) : (s.offerAs r a d).lower = s.lower :=
  State.lower_of_still (offerAs_still s r a d)

theorem offer_lower (s : State) (a : Nat) (d : Word) : (s.offer a d).lower = s.lower := offerAs_lower s _ a d

theorem putStatus_lower (s : State) (a : Nat) (d : Word) : (s.putStatus a d).lower = s.lower := rfl

theorem recompute_lower (s : State) : s.recompute.lower = s.lower := State.lower_of_still (recompute_still s)

theorem setLane_lower (s : State) (l : LaneId) (x : Lane) : (s.setLane l x).lower = s.lower := rfl

theorem setOrder_lower (s : State) (l : LaneId) (o : ActiveOrder) : (s.setOrder l o).lower = s.lower := rfl

theorem putLaneStatus_lower (s : State) (l : LaneId) : (s.putLaneStatus l).lower = s.lower := offer_lower _ _ _

theorem placeReads_lower (s : State) (p : Placer) (as : List Nat) : (s.placeReads p as).lower = s.lower := rfl

theorem setEvents_lower (s : State) (e : EventWriter) : ({ s with events := e } : State).lower = s.lower := rfl

theorem appendRecord_lower (s : State) (e : Event) : (s.appendRecord e).lower = s.lower := by
  unfold State.appendRecord
  simp only
  rw [offer_lower]
  exact (setEvents_lower _ _).trans (by simp only [offerAs_lower, offer_lower])

theorem emit_lower (s : State) (e : Event) : (s.emit e).lower = s.lower := by
  unfold State.emit
  split
  · split
    · exact appendRecord_lower s e
    · rfl
  · rfl

theorem relamp_lower (s : State) : s.relamp.lower = s.lower := by
  unfold State.relamp
  simp only
  split <;> rfl

/-! ### Lanes -/

theorem beginFetch_lower (l : LaneId) (s : State) : (s.beginFetch l).lower = s.lower := by
  unfold State.beginFetch
  simp only [recompute_lower, placeReads_lower, putLaneStatus_lower]
  rfl

theorem goIdle_lower (l : LaneId) (s : State) : (s.goIdle l).lower = s.lower := by
  unfold State.goIdle
  simp only [recompute_lower, putLaneStatus_lower, setLane_lower]

theorem goStopped_lower (l : LaneId) (c : Completion) (s : State) : (s.goStopped l c).lower = s.lower := by
  unfold State.goStopped
  simp only [recompute_lower, emit_lower, putLaneStatus_lower, setLane_lower]

theorem fetchOrIdle_lower (l : LaneId) (s : State) : (s.fetchOrIdle l).lower = s.lower := by
  unfold State.fetchOrIdle
  split
  · exact beginFetch_lower l s
  · exact goIdle_lower l s

theorem queueEnd_lower (l : LaneId) (o : ActiveOrder) (c : Completion) (s : State) :
    (s.queueEnd l o c).lower = s.lower := by
  unfold State.queueEnd
  simp only [offer_lower, setLane_lower, offerAs_lower]

theorem endOrder_lower (l : LaneId) (c : Completion) (f : Bool) (s : State) : (s.endOrder l c f).lower = s.lower := by
  unfold State.endOrder
  split
  · rfl
  · simp only
    split <;> split <;>
      simp only [goStopped_lower, fetchOrIdle_lower, emit_lower, queueEnd_lower]

theorem withdrawSpot_lower (s : State) (r : Requester) (c : Fin 16) : (s.withdrawSpot r c).lower = s.lower := rfl

theorem requestSpot_lower (s : State) (r : Requester) (c : Fin 16) : (s.requestSpot r c).lower = s.lower :=
  State.lower_of_still (requestSpot_still s r c)

theorem withdrawLane_lower (l : LaneId) (s : State) : (s.withdrawLane l).lower = s.lower := by
  unfold State.withdrawLane
  split
  · rfl
  · exact each_leaves State.lower _ (fun c t => withdrawSpot_lower t _ c) _ _

theorem cutOrder_lower (l : LaneId) (c : Completion) (s : State) : (s.cutOrder l c).lower = s.lower := by
  unfold State.cutOrder
  rw [endOrder_lower, withdrawLane_lower]

theorem leaveSettle_lower (slow : Bool) (l : LaneId) (s : State) :
    (s.leaveSettle State.recompute slow l).lower = s.lower := by
  unfold State.leaveSettle
  split
  · rfl
  · rw [recompute_lower, putLaneStatus_lower, setLane_lower]

theorem enterSettle_lower (l : LaneId) (s : State) : (s.enterSettle l).lower = s.lower := by
  unfold State.enterSettle
  split
  · rfl
  · simp only
    split <;>
      simp only [leaveSettle_lower, State.lower_of_still (recomputeFor_still _ _), putLaneStatus_lower, setLane_lower]

theorem offerHold_lower (k : HoldKey) (l : LaneId) (s : State) : (s.offerHold k l).lower = s.lower := by
  unfold State.offerHold
  simp only
  split
  · split
    · split
      · exact cutOrder_lower l _ s
      · rfl
    · rfl
  · rfl

theorem startOrder_lower (l : LaneId) (f : OrderFields) (s : State) : (s.startOrder l f).lower = s.lower := by
  unfold State.startOrder
  split
  · rfl
  · simp only
    split <;> simp only [enterSettle_lower, setLane_lower, emit_lower, offer_lower]

theorem completeFetch_lower (l : LaneId) (o : ActiveOrder) (s : State) : (s.completeFetch l o).lower = s.lower := by
  unfold State.completeFetch
  split
  · exact endOrder_lower _ _ _ _
  · split
    · exact endOrder_lower _ _ _ _
    · exact startOrder_lower _ _ _

theorem enterCheck_lower (l : LaneId) (o : ActiveOrder) (cs : List (Fin 16)) (s : State) :
    (s.enterCheck l o cs).lower = s.lower := by
  unfold State.enterCheck
  simp only
  rw [each_leaves State.lower _ (fun c t => requestSpot_lower t _ c), recompute_lower, putLaneStatus_lower, setLane_lower]

theorem dwellExpires_lower (l : LaneId) (s : State) : (s.dwellExpires l).lower = s.lower := by
  unfold State.dwellExpires
  split
  · rfl
  · split
    · rfl
    · split
      · exact endOrder_lower _ _ _ _
      · exact enterCheck_lower _ _ _ _

theorem swapOnRetry_lower (l : LaneId) (o : ActiveOrder) (f : OrderFields) (s : State) :
    (s.swapOnRetry l o f).lower = s.lower := by
  unfold State.swapOnRetry
  split
  · simp only [recompute_lower, setLane_lower]
  · rfl

theorem retry_lower (l : LaneId) (o : ActiveOrder) (f : OrderFields) (s : State) : (s.retry l o f).lower = s.lower := by
  unfold State.retry
  simp only
  split
  · exact swapOnRetry_lower _ _ _ _
  · rw [enterSettle_lower, offer_lower, swapOnRetry_lower]

theorem judgeCheck_lower (l : LaneId) (o : ActiveOrder) (f : OrderFields) (s : State) :
    (s.judgeCheck l o f).lower = s.lower := by
  unfold State.judgeCheck
  split
  · rw [endOrder_lower, setOrder_lower]
  · split
    · exact endOrder_lower _ _ _ _
    · split
      · exact retry_lower _ _ _ _
      · exact endOrder_lower _ _ _ _

theorem deliverLane_lower (l : LaneId) (r : SpotResult) (s : State) : (s.deliverLane l r).lower = s.lower := by
  unfold State.deliverLane
  split
  · rfl
  · split
    · simp only
      split
      · split
        · rw [judgeCheck_lower, setOrder_lower]
        · rfl
      · rfl
    · rfl

/-! ### What `State.below` keeps of these -/

theorem emit_below (s : State) (e : Event) : (s.emit e).below = s.below := State.below_of_lower (emit_lower s e)

theorem recompute_below (s : State) : s.recompute.below = s.below := State.below_of_lower (recompute_lower s)

theorem relamp_below (s : State) : s.relamp.below = s.below := State.below_of_lower (relamp_lower s)

theorem withdrawSpot_below (s : State) (r : Requester) (c : Fin 16) : (s.withdrawSpot r c).below = s.below := rfl

theorem requestSpot_below (s : State) (r : Requester) (c : Fin 16) : (s.requestSpot r c).below = s.below :=
  State.below_of_lower (requestSpot_lower s r c)

theorem offerHold_below (k : HoldKey) (l : LaneId) (s : State) : (s.offerHold k l).below = s.below :=
  State.below_of_lower (offerHold_lower k l s)

theorem deliverLane_below (l : LaneId) (r : SpotResult) (s : State) : (s.deliverLane l r).below = s.below :=
  State.below_of_lower (deliverLane_lower l r s)

/-! ### The Hold Table -/

theorem putHoldEntry_below (j : Nat) (r : Option HoldRecord) (s : State) : (s.putHoldEntry j r).below = s.below := rfl

theorem createHold_below (k : HoldKey) (c : HoldCause) (p : Option PurgeState) (s : State) :
    (s.createHold k c p).below = s.below := by
  unfold State.createHold
  simp only
  rw [each_leaves State.below _ (fun l t => offerHold_below k l t), recompute_below, emit_below]
  rfl

theorem closeGap_below (k : Nat) (rs : List HoldRecord) (s : State) : (s.closeGap k rs).below = s.below :=
  each_leaves State.below _ (fun j t => putHoldEntry_below j _ t) _ _

theorem removeHold_below (r : HoldRecord) (s : State) : (s.removeHold r).below = s.below := by
  unfold State.removeHold
  simp only
  rw [recompute_below, emit_below, closeGap_below]
  rfl

theorem editHold_below (k : HoldKey) (f : HoldRecord → HoldRecord) (s : State) : (s.editHold k f).below = s.below := rfl

theorem changePhase_below (p : PurgeState) (s : State) : (s.changePhase p).below = s.below := by
  unfold State.changePhase
  simp only
  split <;> rfl

theorem tellLamp_below (k : HoldKey) (b : Bool) (s : State) : (s.tellLamp k b).below = s.below := by
  unfold State.tellLamp
  split <;> first | exact relamp_below _ | rfl

theorem tellHeat_below (s : State) (k : HoldKey) (b : Bool) : (s.tellHeat k b).below = s.below :=
  State.below_of_still (tellHeat_still s k b)

/-! ### The records of the Hold Table -/

/-- R52, R54: a raise of an absent pair puts one record at the end. -/
theorem createHold_holds (k : HoldKey) (c : HoldCause) (p : Option PurgeState) (s : State) :
    (s.createHold k c p).holds =
      s.holds ++ [{ key := k, cause := c, raised := s.tagClock, notBefore := none, phase := p }] := by
  unfold State.createHold
  simp only
  refine (each_leaves State.holds _ (fun l t => congrArg Lower.holds (offerHold_lower k l t)) _ _).trans ?_
  refine (congrArg Lower.holds (recompute_lower _)).trans ?_
  exact (congrArg Lower.holds (emit_lower _ _)).trans rfl

/-- R52, R55: a release takes the record of the pair out, and the rest keep their order. -/
theorem removeHold_holds (r : HoldRecord) (s : State) :
    (s.removeHold r).holds = s.holds.eraseIdx (holdIndex r.key s.holds) := by
  unfold State.removeHold
  simp only
  refine (congrArg Lower.holds (recompute_lower _)).trans ?_
  refine (congrArg Lower.holds (emit_lower _ _)).trans ?_
  exact each_leaves State.holds (fun j t => t.putHoldEntry j _) (fun _ _ => rfl) _ _

/-! ### The Purge Controller -/

theorem recompute_base (s : State) : s.recompute.base = s.base := State.base_of_below (recompute_below s)

theorem emit_base (s : State) (e : Event) : (s.emit e).base = s.base := State.base_of_below (emit_below s e)

theorem putPurgeWords_below (old : Purge) (s : State) : (s.putPurgeWords old).below = s.below := by
  unfold State.putPurgeWords
  simp only
  split <;> split <;> rfl

theorem putPurgeWords_base (old : Purge) (s : State) : (s.putPurgeWords old).base = s.base :=
  State.base_of_below (putPurgeWords_below old s)

theorem tellGovernorPurge_base (s : State) : s.tellGovernorPurge.base = s.base :=
  (recompute_base _).trans rfl

theorem purgeSpots_below (old new : Purge) (s : State) : (s.purgeSpots old new).below = s.below := by
  unfold State.purgeSpots
  simp only
  split <;> split <;>
    simp only [each_leaves State.below _ (fun c t => requestSpot_below t _ c),
      each_leaves State.below _ (fun c t => withdrawSpot_below t _ c)]

theorem purgeHold_below (old new : Purge) (s : State) : (s.purgeHold old new).below = s.below := by
  unfold State.purgeHold
  split
  · split
    · rfl
    · exact createHold_below _ _ _ _
  · split
    · split
      · exact removeHold_below _ _
      · rfl
    · exact changePhase_below _ _

theorem purgeLamp_below (old new : Purge) (s : State) : (s.purgeLamp old new).below = s.below := by
  unfold State.purgeLamp
  split
  · exact (relamp_below _).trans rfl
  · rfl

theorem purgeGo_base (new : Purge) (e : Option Event) (s : State) : (s.purgeGo new e).base = s.base := by
  unfold State.purgeGo
  simp only
  rw [State.base_of_below (purgeLamp_below _ _ _), putPurgeWords_base, tellGovernorPurge_base,
    State.base_of_below (purgeHold_below _ _ _)]
  split
  · rw [emit_base, State.base_of_below (purgeSpots_below _ _ _)]; rfl
  · rw [State.base_of_below (purgeSpots_below _ _ _)]; rfl

theorem purgeKeep_base (new : Purge) (s : State) : (s.purgeKeep new).base = s.base := putPurgeWords_base _ _

theorem purgeTrigger_base (c : PurgeCause) (s : State) : (s.purgeTrigger c).base = s.base := by
  unfold State.purgeTrigger
  simp only
  split <;> first | exact purgeGo_base _ _ _ | exact purgeKeep_base _ _

theorem purgeDoorOpened_base (s : State) : s.purgeDoorOpened.base = s.base := by
  unfold State.purgeDoorOpened
  simp only
  split <;> first | exact purgeGo_base _ _ _ | rfl

theorem purgeResume_base (s : State) : s.purgeResume.base = s.base := by
  unfold State.purgeResume
  simp only
  split <;> first | exact purgeGo_base _ _ _ | rfl

theorem purgeEpisodeEnded_base (b : Bool) (s : State) : (s.purgeEpisodeEnded b).base = s.base := by
  unfold State.purgeEpisodeEnded
  split
  · rw [purgeTrigger_base, purgeResume_base]
  · exact purgeResume_base s

theorem purgeSwitch_base (i : Inlet) (s : State) : (s.purgeSwitch i).base = s.base := by
  unfold State.purgeSwitch
  simp only
  rw [putPurgeWords_base, tellGovernorPurge_base]
  rfl

theorem purgeRejudge_base (s : State) : s.purgeRejudge.base = s.base := by
  unfold State.purgeRejudge
  simp only
  split
  · split
    · rfl
    · split
      · exact purgeSwitch_base _ _
      · exact purgeGo_base _ _ _
  · split
    · exact purgeGo_base _ _ _
    · rfl
  · rfl

theorem purgeVerify_base (s : State) : s.purgeVerify.base = s.base := by
  unfold State.purgeVerify
  exact purgeGo_base _ _ _

theorem purgeEnd_base (k : EventKind) (v : Word) (s : State) : (s.purgeEnd k v).base = s.base := by
  unfold State.purgeEnd
  exact purgeGo_base _ _ _

theorem purgeJudge_base (s : State) : s.purgeJudge.base = s.base := by
  unfold State.purgeJudge
  simp only
  split
  · exact purgeEnd_base _ _ _
  · split
    · exact purgeEnd_base _ _ _
    · split
      · exact purgeGo_base _ _ _
      · exact purgeEnd_base _ _ _

theorem deliverPurge_base (r : SpotResult) (s : State) : (s.deliverPurge r).base = s.base := by
  unfold State.deliverPurge
  simp only
  split
  · split
    · rw [purgeJudge_base]; rfl
    · rfl
  · rfl

/-! ### Notices -/

theorem tellFollowers_base (k : HoldKey) (b : Bool) (s : State) : (s.tellFollowers k b).base = s.base := by
  unfold State.tellFollowers
  simp only
  rw [State.base_of_below (tellLamp_below _ _ _), State.base_of_below (tellHeat_below _ _ _)]
  split
  · exact purgeRejudge_base s
  · split
    · exact purgeTrigger_base _ s
    · rfl
  · rfl

theorem takeRaise_base (k : HoldKey) (c : HoldCause) (s : State) : (s.takeRaise k c).base = s.base := by
  unfold State.takeRaise
  split
  · split
    · rfl
    · rw [tellFollowers_base, State.base_of_below (createHold_below _ _ _ _)]
  · rfl

theorem takeRelease_base (k : HoldKey) (s : State) : (s.takeRelease k).base = s.base := by
  unfold State.takeRelease
  split
  · split
    · rw [tellFollowers_base, State.base_of_below (removeHold_below _ _)]
    · rfl
  · rfl

theorem tableGradeNotice_base (b : Body) (g : Grade) (s : State) : (s.tableGradeNotice b g).base = s.base := by
  have inlet (i : Inlet) : (s.inletGradeNotice i g).base = s.base := by
    unfold State.inletGradeNotice
    split <;> first | exact takeRaise_base _ _ _ | rfl
  unfold State.tableGradeNotice
  split
  · exact inlet _
  · exact inlet _
  · split
    · exact takeRaise_base _ _ _
    · exact takeRelease_base _ _

/-! ### The Damper Drive -/

theorem tellLane_still_recompute (e : Option LaneId) (d : Fin 8) (l : LaneId) (s : State) :
    (s.tellLane State.recompute e d l).still = s.still := tellLane_still recompute_still e d l s

theorem handOnEvent_base (d : Fin 8) (e : Option Event) (s : State) : (s.handOnEvent d e).base = s.base := by
  unfold State.handOnEvent
  simp only
  rw [each_leaves State.base _
    (fun l t => State.base_of_below (State.below_of_still (tellLane_still_recompute none d l t)))]
  split
  · rw [emit_base]; rfl
  · rfl

theorem tellGovernorDamper_base (d : Fin 8) (s : State) : (s.tellGovernorDamper d).base = s.base :=
  (recompute_base _).trans rfl

theorem tellPurgeDamper_base (d : Fin 8) (s : State) : (s.tellPurgeDamper d).base = s.base := by
  unfold State.tellPurgeDamper
  split
  · exact purgeRejudge_base s
  · rfl

theorem freeGrant_base (s : State) : s.freeGrant.base = s.base :=
  State.base_of_below (State.below_of_still (grant_still recompute_still _ s))

theorem comeToRest_base (d : Fin 8) (e : Option Nat) (s : State) : (s.comeToRest d e).base = s.base := by
  unfold State.comeToRest
  rw [freeGrant_base, handOnEvent_base]
  rfl

theorem reachStop_base (d : Fin 8) (n : Nat) (s : State) : (s.reachStop d n).base = s.base := by
  unfold State.reachStop
  simp only
  split
  · rw [State.base_of_below (State.below_of_still (joinMotion_still recompute_still _ _ _)), comeToRest_base]
  · exact comeToRest_base _ _ _

theorem jamDamper_base (d : Fin 8) (c : JamCause) (e : Option Nat) (s : State) : (s.jamDamper d c e).base = s.base := by
  unfold State.jamDamper
  simp only
  rw [freeGrant_base, tellPurgeDamper_base, tellGovernorDamper_base, takeRaise_base, handOnEvent_base]
  rfl

theorem homeDamper_base (d : Fin 8) (s : State) : (s.homeDamper d).base = s.base := by
  unfold State.homeDamper
  simp only
  split <;> simp only [freeGrant_base, tellPurgeDamper_base, tellGovernorDamper_base, handOnEvent_base] <;> rfl

theorem stallDamper_base (d : Fin 8) (s : State) : (s.stallDamper d).base = s.base := by
  unfold State.stallDamper
  simp only
  split
  · split <;> split <;> first | exact reachStop_base _ _ _ | exact jamDamper_base _ _ _ _
  · exact comeToRest_base _ _ _
  · exact homeDamper_base _ _
  · rfl

theorem endMoving_base (d : Fin 8) (s : State) : (s.endMoving d).base = s.base := by
  unfold State.endMoving
  split
  · have h := State.base_of_below (State.below_of_still (reachTarget_still recompute_still none d ‹Plan› s))
    simp only
    split
    · exact h
    · rw [freeGrant_base, h]
  · rfl

theorem clearDamper_base (d : Fin 8) (s : State) : (s.clearDamper d).base = s.base := by
  unfold State.clearDamper
  simp only
  rw [freeGrant_base, tellPurgeDamper_base, tellGovernorDamper_base, takeRelease_base, handOnEvent_base]
  rfl

/-! ### The Blower and Heat Unit -/

theorem rejudgeHeat_base (s : State) : s.rejudgeHeat.base = s.base :=
  State.base_of_below (State.below_of_still (rejudgeHeat_still s))

theorem testStageUp_base (s : State) : s.testStageUp.base = s.base :=
  State.base_of_below (State.below_of_still (testStageUp_still s))

theorem setSpeed_base (s : State) (v : Nat) : (s.setSpeed v).base = s.base :=
  State.base_of_below (State.below_of_still (setSpeed_still s v))

theorem tachPulse_base (s : State) : s.tachPulse.base = s.base := by
  unfold State.tachPulse
  split
  · rw [setSpeed_base]; rfl
  · rfl

theorem commandClearBlowerFail_base (s : State) : s.commandClearBlowerFail.base = s.base := by
  unfold State.commandClearBlowerFail
  simp only
  rw [State.base_of_below (State.below_of_still (rejudgeWatch_still _)), ← takeRelease_base .blowerFail s]
  rfl

theorem stageDies_base (i : Fin 4) (r : Nat) (s : State) : (s.stageDies i r).base = s.base := by
  unfold State.stageDies
  simp only
  rw [rejudgeHeat_base, emit_base]
  rfl

theorem deliverHeat_base (r : SpotResult) (s : State) : (s.deliverHeat r).base = s.base := by
  unfold State.deliverHeat
  split
  · rfl
  · simp only
    split
    · rw [testStageUp_base]; rfl
    · rw [testStageUp_base, stageDies_base]; rfl

theorem setAllowed_base (n : Nat) (s : State) : (s.setAllowed n).base = s.base := by
  unfold State.setAllowed
  simp only
  split
  · rfl
  · rw [rejudgeHeat_base]
    split
    · rw [takeRaise_base]; rfl
    · split
      · rw [takeRelease_base]; rfl
      · rfl

theorem voltReading_base (r : Nat) (b : Bool) (s : State) : (s.voltReading r b).base = s.base := by
  unfold State.voltReading
  simp only
  split
  · rw [setAllowed_base]; rfl
  · split
    · rw [setAllowed_base]; rfl
    · split
      · unfold State.lowerReading
        simp only
        split
        · rw [setAllowed_base]; rfl
        · rfl
      · split
        · rfl
        · unfold State.higherReading
          simp only
          split <;> rfl

theorem restoreExpires_base (s : State) : s.restoreExpires.base = s.base := by
  unfold State.restoreExpires
  split
  · rw [setAllowed_base]; rfl
  · rfl

theorem heatReading_base (c : Fin 16) (r : Nat) (b : Bool) (s : State) : (s.heatReading c r b).base = s.base := by
  unfold State.heatReading
  split
  · rw [rejudgeHeat_base]; rfl
  · split
    · exact voltReading_base _ _ _
    · split <;> rfl

/-! ### The Air Grader -/

theorem putLevelWord_base (c : Fin 6) (s : State) : (s.putLevelWord c).base = s.base := rfl

theorem governorGradeNotice_base (b : Body) (g : Grade) (s : State) : (s.governorGradeNotice b g).base = s.base :=
  (recompute_base _).trans rfl

theorem gradeNotices_base (f : Bool) (b : Body) (g : Grade) (s : State) : (s.gradeNotices f b g).base = s.base := by
  unfold State.gradeNotices
  split
  · rw [governorGradeNotice_base, tableGradeNotice_base]
  · rw [tableGradeNotice_base, governorGradeNotice_base]

theorem changeGrade_ground (f : Bool) (b : Body) (g : Grade) (s : State) : (s.changeGrade f b g).ground = s.ground := by
  unfold State.changeGrade
  simp only
  rw [State.ground_of_base (gradeNotices_base _ _ _ _)]
  exact (State.ground_of_base (emit_base _ _)).trans rfl

theorem levelChanged_ground (c : Fin 6) (s : State) : (s.levelChanged c).ground = s.ground := by
  unfold State.levelChanged
  simp only
  split
  · rfl
  · rw [changeGrade_ground]; rfl

theorem graderReading_ground (c : Fin 6) (r : Nat) (x y : Bool) (s : State) :
    (s.graderReading c r x y).ground = s.ground := by
  unfold State.graderReading
  simp only
  split
  · rfl
  · rw [levelChanged_ground]; rfl

theorem thresholdEvent_base (c : Fin 6) (v : Vector RamWord 4) (s : State) : (s.thresholdEvent c v).base = s.base := by
  unfold State.thresholdEvent
  split
  · exact emit_base _ _
  · rfl

theorem judgeEntry_ground (c : Fin 6) (v : Vector RamWord 4) (s : State) : (s.judgeEntry c v).ground = s.ground := by
  have set : ((s.setGrading c ((s.grading c).judged v)).thresholdEvent c v).ground = s.ground :=
    (State.ground_of_base (thresholdEvent_base _ _ _)).trans rfl
  unfold State.judgeEntry
  simp only
  split
  · rw [levelChanged_ground, set]
  · split
    · exact set
    · exact set

theorem takeThreshold_ground (i : Fin 24) (v : Word) (s : State) : (s.takeThreshold i v).ground = s.ground :=
  judgeEntry_ground _ _ _

/-! ### What a conversion is handed to -/

theorem governorReading_base (c : Fin 16) (u : Bool) (s : State) : (s.governorReading c u).base = s.base := by
  unfold State.governorReading
  split
  · exact State.base_of_below (State.below_of_still (recomputeConversion_still _ _))
  · split
    · exact State.base_of_below (State.below_of_still (recomputeConversion_still _ _))
    · rfl

theorem handConversion_ground (c : Fin 16) (r : Nat) (x u : Bool) (s : State) :
    (s.handConversion c r x u).ground = s.ground := by
  unfold State.handConversion
  simp only
  rw [State.ground_of_base (heatReading_base _ _ _ _), State.ground_of_base (governorReading_base _ _ _)]
  split
  · exact graderReading_ground _ _ _ _ _
  · rfl

theorem deliverTo_base (q : Requester) (r : SpotResult) (s : State) : (s.deliverTo q r).base = s.base := by
  unfold State.deliverTo
  split
  · exact State.base_of_below (deliverLane_below _ _ _)
  · exact deliverPurge_base _ _
  · exact deliverHeat_base _ _
  · exact emit_base _ _

theorem deliver_base (q : Requester) (r : SpotResult) (s : State) : (s.deliver r q).base = s.base := by
  unfold State.deliver
  split
  · rw [deliverTo_base]
    unfold State.leaveEntry
    split <;> rfl
  · rfl

theorem endPass_below (s : State) : s.endPass.below = s.below := by
  unfold State.endPass
  simp only
  split <;> rfl

theorem endScan_below (s : State) : s.endScan.below = s.below := by
  rw [← endPass_below s]
  unfold State.endScan
  simp only
  split <;> rfl

theorem serveHead_below (s : State) : s.serveHead.below = s.below := State.below_of_still (serveHead_still s)

theorem afterScan_below (s : State) : s.afterScan.below = s.below := by
  unfold State.afterScan
  simp only
  split
  · split
    · exact endScan_below s
    · rfl
  · exact serveHead_below _

theorem leaveSpot_below (s : State) : s.leaveSpot.below = s.below := by
  unfold State.leaveSpot
  split <;> first | exact endPass_below s | rfl

theorem afterSpot_below (s : State) : s.afterSpot.below = s.below := by
  unfold State.afterSpot
  simp only
  split
  · rw [leaveSpot_below]; rfl
  · rw [serveHead_below]; rfl

/-! ### Switches -/

theorem engineChanges_base (b : Bool) (s : State) : (s.engineChanges b).base = s.base := by
  unfold State.engineChanges
  split
  · exact takeRelease_base _ _
  · exact takeRaise_base _ _ _

theorem purgeTrigger_ground (c : PurgeCause) (s : State) : (s.purgeTrigger c).ground = s.ground :=
  State.ground_of_base (purgeTrigger_base c s)

/-! ### Service commands -/

theorem commandScanStop_below (s : State) : s.commandScanStop.below = s.below := by
  unfold State.commandScanStop
  split <;> rfl

theorem commandScanStart_below (s : State) : s.commandScanStart.below = s.below := by
  unfold State.commandScanStart
  split <;> rfl

end Sys2Proof.Machine
end

