-- ==== Sys2Proof/Laws/Follows.lean ====
section
/-! SUPPORT. What a recompute with all that it brings about may do to the lanes and to the Record Queue: writes are only
offered behind those that stand, a lane only passes from SETTLE to DWELL, and sticky flags are only set. -/

namespace Sys2Proof.Machine

/-- The two timers of an order. -/
def ActiveOrder.timers (o : ActiveOrder) : Nat × Nat := (o.settleTimer, o.dwellTimer)

/-- The timers of an order that has just passed to DWELL (R18). -/
def ActiveOrder.dwelling (o : ActiveOrder) : Nat × Nat := (0, (o.fields.map OrderFields.dwell).getD 0)

/-- The six sticky flags. -/
def stickyFlags : List (StickyFlags → Bool) :=
  [StickyFlags.slowSettle, StickyFlags.damperJammed, StickyFlags.overridden, StickyFlags.sourceDenied,
    StickyFlags.retried, StickyFlags.sensorOpen]

/-- Whether a lane's order has a sticky flag set. -/
def Lane.flagged (x : Lane) (p : StickyFlags → Bool) : Bool := x.order.any (fun o => p o.flags)

/-- How a lane stands after a recompute. -/
structure LaneFollows (x y : Lane) : Prop where
  fields : y.order.map ActiveOrder.fields = x.order.map ActiveOrder.fields
  stays : x.state ≠ .settle → y.state = x.state ∧ y.order.map ActiveOrder.timers = x.order.map ActiveOrder.timers
  passes : x.state = .settle →
    (y.state = .settle ∧ y.order.map ActiveOrder.timers = x.order.map ActiveOrder.timers) ∨
      (y.state = .dwell ∧ y.order.map ActiveOrder.timers = x.order.map ActiveOrder.dwelling)
  flags : ∀ p ∈ stickyFlags, x.flagged p = true → y.flagged p = true

theorem dwelling_of_fields {x y : Lane} (h : y.order.map ActiveOrder.fields = x.order.map ActiveOrder.fields) :
    y.order.map ActiveOrder.dwelling = x.order.map ActiveOrder.dwelling := by
  have g (o : Option ActiveOrder) : o.map ActiveOrder.dwelling =
      (o.map ActiveOrder.fields).map (fun f => (0, (f.map OrderFields.dwell).getD 0)) := by cases o <;> rfl
  rw [g, g, h]

theorem LaneFollows.refl (x : Lane) : LaneFollows x x :=
  ⟨rfl, fun _ => ⟨rfl, rfl⟩, fun h => .inl ⟨h, rfl⟩, fun _ _ h => h⟩

theorem LaneFollows.trans {x y z : Lane} (h : LaneFollows x y) (k : LaneFollows y z) : LaneFollows x z where
  fields := k.fields.trans h.fields
  stays hx := by
    have hy := h.stays hx
    have hz := k.stays (by rw [hy.1]; exact hx)
    exact ⟨hz.1.trans hy.1, hz.2.trans hy.2⟩
  passes hx := by
    rcases h.passes hx with hy | hy
    · rcases k.passes hy.1 with hz | hz
      · exact .inl ⟨hz.1, hz.2.trans hy.2⟩
      · exact .inr ⟨hz.1, hz.2.trans (dwelling_of_fields h.fields)⟩
    · have hz := k.stays (by rw [hy.1]; decide)
      exact .inr ⟨hz.1.trans hy.1, hz.2.trans hy.2⟩
  flags p hp hx := k.flags p hp (h.flags p hp hx)

/-- How the lanes and the writes offered stand after a recompute. -/
structure Follows (s t : State) : Prop where
  writes : s.port.writes <+: t.port.writes
  lanes : ∀ l, LaneFollows (s.lanes.get l) (t.lanes.get l)

theorem Follows.refl (s : State) : Follows s s := ⟨List.prefix_refl _, fun _ => .refl _⟩

theorem Follows.trans {s t u : State} (h : Follows s t) (k : Follows t u) : Follows s u :=
  ⟨h.writes.trans k.writes, fun l => (h.lanes l).trans (k.lanes l)⟩

/-- A state with the same port and lanes follows. -/
theorem Follows.of_eq {s t : State} (hp : t.port.writes = s.port.writes) (hl : t.lanes = s.lanes) : Follows s t :=
  ⟨⟨[], by rw [hp, List.append_nil]⟩, fun l => by rw [hl]; exact .refl _⟩

/-- What follows a state with the same port and lanes follows it. -/
theorem Follows.after {s u t : State} (h : Follows u t) (hp : u.port.writes = s.port.writes) (hl : u.lanes = s.lanes) :
    Follows s t :=
  Follows.trans (.of_eq hp hl) h

/-- The last of two steps first. -/
theorem Follows.behind {s t u : State} (k : Follows t u) (h : Follows s t) : Follows s u := h.trans k

theorem each_follows {α : Type} (f : α → State → State) (h : ∀ x t, Follows t (f x t)) (xs : List α) (s : State) :
    Follows s (s.each xs f) := by
  unfold State.each
  induction xs generalizing s with
  | nil => exact .refl s
  | cons x xs ih => exact (h x s).trans (ih (f x s))

theorem offerAs_follows (s : State) (r : EntryRole) (a : Nat) (d : Word) : Follows s (s.offerAs r a d) :=
  ⟨by rw [show (s.offerAs r a d).port.writes = s.port.writes ++ [⟨a, d, r⟩] from Port.offer_writes _ _]
      exact List.prefix_append _ _,
    fun _ => .refl _⟩

theorem putStatus_follows (s : State) (a : Nat) (d : Word) : Follows s (s.putStatus a d) := .of_eq rfl rfl

theorem serveHead_follows (s : State) : Follows s s.serveHead := by
  unfold State.serveHead
  split
  · exact .refl s
  · exact .of_eq rfl rfl

theorem enterSpot_follows (s : State) (x : Resume) : Follows s (s.enterSpot x) := (serveHead_follows _).after rfl rfl

theorem preemptScan_follows (s : State) : Follows s s.preemptScan := by
  unfold State.preemptScan
  split
  · split
    · exact (enterSpot_follows _ _).after rfl rfl
    · exact enterSpot_follows _ _
  · exact enterSpot_follows _ _

theorem requestSpot_follows (s : State) (r : Requester) (c : Fin 16) : Follows s (s.requestSpot r c) := by
  unfold State.requestSpot
  split
  · simp only
    split
    · exact .of_eq rfl rfl
    · split
      · exact (preemptScan_follows _).after rfl rfl
      · exact .of_eq rfl rfl
    all_goals exact (enterSpot_follows _ _).after rfl rfl
  · exact .refl s

/-! ### The Blower and Heat Unit -/

theorem rejudgeWatch_follows (s : State) : Follows s s.rejudgeWatch := by
  unfold State.rejudgeWatch
  split <;> exact .of_eq rfl rfl

theorem handBlower_follows (s : State) (v : Nat) : Follows s (s.handBlower v) :=
  (rejudgeWatch_follows (s.setHeat { s.heat with blower := v })).after rfl rfl

theorem testStageUp_follows (s : State) : Follows s s.testStageUp := by
  unfold State.testStageUp
  split
  · split
    · unfold State.energise
      simp only
      refine (putStatus_follows _ _ _).behind ?_
      exact (requestSpot_follows _ _ _).after rfl rfl
    · exact .refl s
  · exact .refl s

theorem rejudgeHeat_follows (s : State) : Follows s s.rejudgeHeat := by
  have judged (t : State) : Follows t (if t.stageLimit < t.heat.energised then
      (t.setHeat { t.heat with stages := stageFalls (t.heat.energised - t.stageLimit) t.heat.stages }).putHeatWord
      else t.testStageUp) := by
    split
    · exact .of_eq rfl rfl
    · exact testStageUp_follows t
  exact (judged (s.setHeat { s.heat with valve := if s.coolantUsable then s.heat.demand else 0 })).after rfl rfl

theorem handHeat_follows (s : State) (d : Nat) : Follows s (s.handHeat d) :=
  (rejudgeHeat_follows (s.setHeat { s.heat with demand := d })).after rfl rfl

/-! ### Lanes told of dampers -/

theorem setLane_follows {s : State} {l : LaneId} {x : Lane} (h : LaneFollows (s.lanes.get l) x) :
    Follows s (s.setLane l x) :=
  ⟨List.prefix_refl _, fun m => by cases l <;> cases m <;> first | exact h | exact .refl _⟩

theorem leaveSettle_follows {again : State → State} (ha : ∀ t, Follows t (again t)) (slow : Bool) {l : LaneId}
    {s : State} (hs : (s.lanes.get l).state = .settle) : Follows s (s.leaveSettle again slow l) := by
  unfold State.leaveSettle
  split
  · exact .refl s
  · rename_i o ho
    refine Follows.trans (Follows.trans (setLane_follows ?_) (offerAs_follows _ _ _ _)) (ha _)
    refine ⟨?_, fun h => absurd hs h, fun _ => .inr ⟨rfl, ?_⟩, ?_⟩
    · simp [ho]
    · simp [ho, ActiveOrder.timers, ActiveOrder.dwelling]
    · intro p hp
      simp only [stickyFlags, List.mem_cons, List.not_mem_nil, or_false] at hp
      rcases hp with rfl | rfl | rfl | rfl | rfl | rfl <;> simp_all [Lane.flagged]

theorem setOrder_flags_follows {s : State} {l : LaneId} {o : ActiveOrder} (ho : (s.lanes.get l).order = some o)
    {f : StickyFlags} (hf : ∀ p ∈ stickyFlags, p o.flags = true → p f = true) :
    Follows s (s.setOrder l { o with flags := f }) := by
  refine setLane_follows ⟨?_, fun _ => ⟨rfl, ?_⟩, fun h => .inl ⟨h, ?_⟩, ?_⟩
  · simp [ho]
  · simp [ho, ActiveOrder.timers]
  · simp [ho, ActiveOrder.timers]
  · intro p hp hx
    simp only [Lane.flagged, ho, Option.any_some] at hx ⊢
    exact hf p hp hx

theorem jammed_rises (f : StickyFlags) : ∀ p ∈ stickyFlags, p f = true → p { f with damperJammed := true } = true := by
  intro p hp
  simp only [stickyFlags, List.mem_cons, List.not_mem_nil, or_false] at hp
  rcases hp with rfl | rfl | rfl | rfl | rfl | rfl <;> simp

theorem denied_rises (f : StickyFlags) : ∀ p ∈ stickyFlags, p f = true → p { f with sourceDenied := true } = true := by
  intro p hp
  simp only [stickyFlags, List.mem_cons, List.not_mem_nil, or_false] at hp
  rcases hp with rfl | rfl | rfl | rfl | rfl | rfl <;> simp

theorem noteJam_follows (d : Fin 8) (l : LaneId) (s : State) : Follows s (s.noteJam d l) := by
  unfold State.noteJam
  split
  · split
    · exact setOrder_flags_follows ‹_› (jammed_rises _)
    · exact .refl s
  · exact .refl s

theorem testSettle_follows {again : State → State} (ha : ∀ t, Follows t (again t)) (e : Option LaneId) {l : LaneId}
    {s : State} (hs : (s.lanes.get l).state = .settle) : Follows s (s.testSettle again e l) := by
  unfold State.testSettle
  split
  · exact leaveSettle_follows ha _ hs
  · exact .refl s

theorem tellLane_follows {again : State → State} (ha : ∀ t, Follows t (again t)) (e : Option LaneId) (d : Fin 8)
    (l : LaneId) (s : State) : Follows s (s.tellLane again e d l) := by
  unfold State.tellLane
  split
  · split
    · rename_i hs
      by_cases hd : d = l.damper
      · rw [if_pos hd]
        exact (testSettle_follows ha e ((noteJam_state d l s).trans hs)).behind (noteJam_follows _ _ _)
      · rw [if_neg hd]
        exact testSettle_follows ha e hs
    · exact noteJam_follows _ _ _
    · exact noteJam_follows _ _ _
    · exact .refl s
  · exact .refl s

theorem handOnDamper_follows {again : State → State} (ha : ∀ t, Follows t (again t)) (e : Option LaneId) (d : Fin 8)
    (s : State) : Follows s (s.handOnDamper again e d) :=
  Follows.trans (putStatus_follows _ _ _) (each_follows _ (fun l t => tellLane_follows ha e d l t) _ _)

/-! ### Motion -/

theorem setDamper_follows (s : State) (d : Fin 8) (x : Damper) : Follows s (s.setDamper d x) := .of_eq rfl rfl

theorem reachTarget_follows {again : State → State} (ha : ∀ t, Follows t (again t)) (e : Option LaneId) (d : Fin 8)
    (p : Plan) (s : State) : Follows s (s.reachTarget again e d p) :=
  Follows.trans (setDamper_follows _ _ _) (handOnDamper_follows ha _ _ _)

theorem moveFrom_follows {again : State → State} (ha : ∀ t, Follows t (again t)) (e : Option LaneId) (d : Fin 8)
    (n : Nat) (s : State) : Follows s (s.moveFrom again e d n) := by
  unfold State.moveFrom
  simp only
  split
  · exact reachTarget_follows ha _ _ _ _
  · exact Follows.trans (setDamper_follows _ _ _) (handOnDamper_follows ha _ _ _)

theorem startHoming_follows {again : State → State} (ha : ∀ t, Follows t (again t)) (e : Option LaneId) (d : Fin 8)
    (s : State) : Follows s (s.startHoming again e d) :=
  Follows.trans (setDamper_follows _ _ _) (handOnDamper_follows ha _ _ _)

theorem grantHead_follows {again : State → State} (ha : ∀ t, Follows t (again t)) (e : Option LaneId) (s : State) :
    Follows s (s.grantHead again e) := by
  unfold State.grantHead
  split
  · exact .refl s
  · simp only
    split
    · exact (startHoming_follows ha _ _ _).after rfl rfl
    · exact (moveFrom_follows ha _ _ _ _).after rfl rfl

theorem grant_follows {again : State → State} (ha : ∀ t, Follows t (again t)) (e : Option LaneId) (s : State) :
    Follows s (s.grant again e) := by
  have given (n : Nat) (t : State) : Follows t (State.giveGrants again e n t) := by
    induction n generalizing t with
    | zero => exact .refl t
    | succ n ih =>
      unfold State.giveGrants
      split
      · exact (grantHead_follows ha _ _).trans (ih _)
      · exact .refl t
  exact given _ _

theorem joinMotion_follows {again : State → State} (ha : ∀ t, Follows t (again t)) (e : Option LaneId) (d : Fin 8)
    (s : State) : Follows s (s.joinMotion again e d) := by
  unfold State.joinMotion
  refine (grant_follows ha _ _).behind ?_
  exact (handOnDamper_follows ha _ _ _).after rfl rfl

theorem replan_follows {again : State → State} (ha : ∀ t, Follows t (again t)) (e : Option LaneId) (d : Fin 8)
    (n : Nat) (s : State) : Follows s (s.replan again e d n) := by
  unfold State.replan
  simp only
  split
  · exact (grant_follows ha _ _).behind (moveFrom_follows ha _ _ _ _)
  · exact moveFrom_follows ha _ _ _ _

theorem takeTarget_follows {again : State → State} (ha : ∀ t, Follows t (again t)) (e : Option LaneId) (d : Fin 8)
    (g : Nat) (s : State) : Follows s (s.takeTarget again e d g) := by
  unfold State.takeTarget
  simp only
  split
  · split
    · exact .of_eq rfl rfl
    · exact (joinMotion_follows ha _ _ _).after rfl rfl
  · split
    · exact (handOnDamper_follows ha _ _ _).after rfl rfl
    · exact .of_eq rfl rfl
  · exact (replan_follows ha _ _ _ _).after rfl rfl
  · exact (replan_follows ha _ _ _ _).after rfl rfl
  · exact .of_eq rfl rfl

/-! ### The recompute -/

theorem putMixWords_follows (s : State) (old new : Mix) : Follows s (s.putMixWords old new) :=
  each_follows _ (fun _ _ => by split <;> exact .of_eq rfl rfl) _ _

theorem tellDenied_follows (m : Mix) (l : LaneId) (s : State) : Follows s (s.tellDenied m l) := by
  unfold State.tellDenied
  split
  · split
    · rename_i ho
      exact setOrder_flags_follows ho (denied_rises _)
    · exact .refl s
  · exact .refl s

theorem handTarget_follows {again : State → State} (ha : ∀ t, Follows t (again t)) (e : Option LaneId) (b : Bool)
    (old new : Mix) (d : Fin 8) (s : State) : Follows s (s.handTarget again e b old new d) := by
  unfold State.handTarget
  split
  · exact takeTarget_follows ha _ _ _ _
  · exact .refl s

theorem recomputeOnce_follows {again : State → State} (ha : ∀ t, Follows t (again t)) (e : Option LaneId) (b : Bool)
    (dp : Option Nat) (s : State) : Follows s (s.recomputeOnce again e b dp) := by
  unfold State.recomputeOnce
  simp only
  have targets (t : State) (old new : Mix) :
      Follows t ((t.putMixWords old new).each allDampers (State.handTarget again e b old new)) :=
    (putMixWords_follows _ _ _).trans (each_follows _ (fun d t => handTarget_follows ha e b _ _ d t) _ _)
  refine Follows.trans ?_ (each_follows _ (fun l t => tellDenied_follows _ l t) _ _)
  refine Follows.trans ?_ (handHeat_follows _ _)
  split
  · refine (handBlower_follows _ _).behind ?_
    exact (targets _ _ _).after rfl rfl
  · exact (targets _ _ _).after rfl rfl

theorem recomputeAt_follows (e : Option LaneId) (n : Nat) (b : Bool) (dp : Option Nat) (s : State) :
    Follows s (State.recomputeAt e n b dp s) := by
  induction n generalizing b dp s with
  | zero => exact recomputeOnce_follows (fun t => .refl t) _ _ _ _
  | succ n ih => exact recomputeOnce_follows (fun t => ih _ _ t) _ _ _ _

theorem recomputeFor_follows (e : Option LaneId) (s : State) : Follows s (s.recomputeFor e) := by
  unfold State.recomputeFor
  split
  · exact recomputeAt_follows _ _ _ _ _
  · exact .refl s

/-- R17, R26: how the lanes and the writes stand after a recompute. -/
theorem recompute_follows (s : State) : Follows s s.recompute := recomputeFor_follows _ _

end Sys2Proof.Machine
end

