-- ==== Sys2Proof/Laws/Host.lean ====
section
/-! SUPPORT. What a host write comes to: the arbiter leaves the layout and the part state as they are, and the words that
a sound layout places are classed as R155 says. -/

namespace Sys2Proof.Machine

/-- What the memory port leaves of the rest while it makes its own cycles in RUNNING, with the fetches that these bring to
their end. -/
structure PortStill where
  pending : List Instr
  now : Nat
  part : PartState
  faultReason : Option FaultReason
  layout : Option Layout
  serviceArg : Word
  tagClock : Word
  lastTick : Nat
  switches : Switches
  channels : Vector Channel 16
  grader : Grader
  freeIndex : Nat
  purge : Purge
  view : GovernorView
  holds : List HoldRecord

def Lower.portStill (w : Lower) : PortStill :=
  { pending := w.pending, now := w.now, part := w.part, faultReason := w.faultReason, layout := w.layout
    serviceArg := w.serviceArg, tagClock := w.tagClock, lastTick := w.lastTick, switches := w.switches
    channels := w.channels, grader := w.grader, freeIndex := w.freeIndex, purge := w.purge, view := w.view
    holds := w.holds }

def State.portStill (s : State) : PortStill := s.lower.portStill

theorem offerAs_portStill (s : State) (r : EntryRole) (a : Nat) (d : Word) :
    (s.offerAs r a d).portStill = s.portStill := rfl

theorem offer_portStill (s : State) (a : Nat) (d : Word) : (s.offer a d).portStill = s.portStill := rfl

theorem setEvents_portStill (s : State) (e : EventWriter) : ({ s with events := e } : State).portStill = s.portStill := rfl

theorem appendRecord_portStill (s : State) (e : Event) : (s.appendRecord e).portStill = s.portStill := by
  unfold State.appendRecord
  simp only
  rw [offer_portStill]
  exact (setEvents_portStill _ _).trans (by simp only [offerAs_portStill, offer_portStill])

theorem emit_portStill (s : State) (e : Event) : (s.emit e).portStill = s.portStill := by
  unfold State.emit
  split
  · split
    · exact appendRecord_portStill s e
    · rfl
  · rfl

theorem writeRecord_portStill (s : State) : s.writeRecord.portStill = s.portStill := by
  unfold State.writeRecord
  split
  · rfl
  · unfold State.recordReached
    split
    · rfl
    · split <;> rfl
    · rfl

theorem writeImage_portStill (s : State) : s.writeImage.portStill = s.portStill := by
  unfold State.writeImage; split <;> rfl

theorem makeRead_portStill (s : State) : s.makeRead.portStill = s.portStill := by
  unfold State.makeRead
  split
  · rfl
  · unfold State.giveRead
    split
    · unfold State.giveLane
      split
      · split <;> rfl
      · rfl
    · rfl
    · unfold State.abandonedMade
      split <;> rfl

theorem servePart_portStill (x : Source) (s : State) : (s.servePart x).portStill = s.portStill := by
  cases x
  · exact makeRead_portStill _
  · exact writeRecord_portStill _
  · exact writeImage_portStill _

theorem flushImage_portStill (h : HeldRead) (s : State) : (s.flushImage h).portStill = s.portStill := by
  unfold State.flushImage
  simp only
  split <;> rfl

theorem flushRecord_portStill (h : HeldRead) (s : State) : (s.flushRecord h).portStill = s.portStill :=
  (writeRecord_portStill _).trans rfl

theorem forwardRead_portStill (a : Nat) (s : State) : (s.forwardRead a).portStill = s.portStill := by
  unfold State.forwardRead
  simp only
  split
  · rfl
  · exact emit_portStill _ _

/-! ### What the port has brought to its end -/

theorem finishDraining_not {s : State} (h : ¬ (s.part = .draining ∧ s.port.drained = true)) : s.finishDraining = s :=
  if_neg h

theorem loaderReturned_iff {s : State} {p : LoaderPhase} {n : Nat} :
    s.loaderReturned p n = true ↔ s.part = .loading ∧ s.loader.phase = p ∧ s.loader.words.length = n := by
  simp [State.loaderReturned, and_assoc]

theorem runningReady_iff {s : State} :
    s.runningReady = true ↔ s.part = .loading ∧ s.loader.phase = .writes ∧ s.port.initialLeft = false := by
  simp [State.runningReady, and_assoc]

theorem finishFetch_lower (l : LaneId) (s : State) : (s.finishFetch l).lower = s.lower := by
  unfold State.finishFetch
  split
  · split
    · exact completeFetch_lower _ _ _
    · rfl
  · rfl

/-- R167, R169, R170: outside LOADING and DRAINING the port brings fetches alone to their end. -/
theorem settlePort_fetches {s : State} (hl : s.part ≠ .loading) (hd : s.part ≠ .draining) :
    s.settlePort = s.each allLanes State.finishFetch := by
  have drains : s.finishDraining = s := finishDraining_not fun k => hd k.1
  have layout : s.finishLayoutRead = s := if_neg fun k => hl (loaderReturned_iff.1 k).1
  have thresholds : s.finishThresholdRead = s := if_neg fun k => hl (loaderReturned_iff.1 k).1
  have writes : s.finishInitialWrites = s := if_neg fun k => hl (runningReady_iff.1 k).1
  rw [State.settlePort, drains, layout, thresholds, writes]

theorem settlePort_portStill {s : State} (h : s.part = .running) : s.settlePort.portStill = s.portStill := by
  rw [settlePort_fetches (by rw [h]; decide) (by rw [h]; decide)]
  exact congrArg Lower.portStill (each_leaves State.lower _ finishFetch_lower allLanes s)

/-- Where nothing has come to its end untaken, nothing is taken. -/
theorem settlePort_of_settled {s : State} (h : s.portSettled) : s.settlePort = s := by
  obtain ⟨hd, hl, ht, hw, hf⟩ := h
  have drains : s.finishDraining = s := finishDraining_not hd
  have layout : s.finishLayoutRead = s := if_neg fun k => hl (loaderReturned_iff.1 k)
  have thresholds : s.finishThresholdRead = s := if_neg fun k => ht (loaderReturned_iff.1 k)
  have writes : s.finishInitialWrites = s := if_neg fun k => hw (runningReady_iff.1 k)
  have fetch (l : LaneId) : s.finishFetch l = s := by
    unfold State.finishFetch
    split
    · exact if_neg fun k => by simp [hf k.1 l] at k
    · rfl
  rw [State.settlePort, drains, layout, thresholds, writes]
  simp only [State.each, allLanes, List.foldl_cons, List.foldl_nil, fetch]

/-! ### The arbiter's own cycles -/

/-- The part stays in RUNNING where `portStill` does. -/
theorem running_of_portStill {s t : State} (h : t.portStill = s.portStill) (k : s.part = .running) : t.part = .running :=
  (congrArg PortStill.part h).trans k

theorem flushAll_portStill (n : Nat) {s : State} (hr : s.part = .running) :
    (State.flushAll n s).portStill = s.portStill := by
  induction n generalizing s with
  | zero => rfl
  | succ n ih =>
    unfold State.flushAll
    split
    · rename_i h _
      have flushed := flushRecord_portStill h s
      have settled := (settlePort_portStill (running_of_portStill flushed hr)).trans flushed
      exact (ih (running_of_portStill settled hr)).trans settled
    · rfl

theorem finishHeld_portStill {s : State} (hr : s.part = .running) : s.finishHeld.portStill = s.portStill := by
  unfold State.finishHeld
  split
  · rfl
  · rename_i h _
    have image : (if h.imageOwed then (s.flushImage h).settlePort else s).portStill = s.portStill := by
      split
      · have flushed := flushImage_portStill h s
        exact (settlePort_portStill (running_of_portStill flushed hr)).trans flushed
      · rfl
    exact (forwardRead_portStill _ _).trans
      ((flushAll_portStill h.recordsOwed (running_of_portStill image hr)).trans image)

theorem yieldPort_portStill {s : State} (hr : s.part = .running) : s.yieldPort.portStill = s.portStill := by
  unfold State.yieldPort
  split
  · split
    · rename_i x _
      have served : (s.servePart x).admitWaiting.portStill = s.portStill := servePart_portStill x s
      exact (settlePort_portStill (running_of_portStill served hr)).trans served
    · rfl
  · rfl

/-- R161: the arbiter's own cycles before a host cycle, in RUNNING. -/
theorem atGrant_portStill {s : State} (hr : s.part = .running) : s.atGrant.portStill = s.portStill := by
  have admitted : s.admitWaiting.settlePort.portStill = s.portStill := settlePort_portStill (s := s.admitWaiting) hr
  have arrived : s.atArrival.portStill = s.portStill :=
    (finishHeld_portStill (running_of_portStill admitted hr)).trans admitted
  have yielded := (yieldPort_portStill (running_of_portStill arrived hr)).trans arrived
  generalize hx : s.atArrival.yieldPort = x at yielded
  have granted : s.atGrant = x.hostGranted := by rw [State.atGrant, hx]
  rw [granted]
  exact yielded

theorem atGrant_layout {s : State} (h : s.part = .running) : s.atGrant.layout = s.layout :=
  congrArg PortStill.layout (atGrant_portStill h)

theorem atGrant_running {s : State} (h : s.part = .running) : s.atGrant.part = .running :=
  running_of_portStill (atGrant_portStill h) h

/-- The layout that a granted host write meets. -/
theorem takesHost_lay {s : State} {L : Layout} (h : s.takesHost L) : s.atGrant.lay = L := by
  simp [State.lay, atGrant_layout h.2.2, h.1]

/-- R164: letting the waiting writes enter leaves what the port has brought to its end. -/
theorem admitWaiting_settled {s : State} (h : s.portSettled) : s.admitWaiting.portSettled := by
  obtain ⟨hd, hl, ht, hw, hf⟩ := h
  refine ⟨fun k => hd ⟨k.1, ?_⟩, hl, ht, fun k => hw ⟨k.1, k.2.1, ?_⟩, hf⟩
  · have full : s.port.admitAll.drained = true := k.2
    simp only [Port.drained, Port.admitAll, Bool.and_eq_true, List.isEmpty_iff, List.append_eq_nil_iff] at full ⊢
    obtain ⟨⟨⟨⟨records, first⟩, later⟩, images⟩, reads⟩ := full
    have waiting := List.take_append_drop (Config.recordQueueSize - s.port.records.length) s.port.waiting
    rw [first, later] at waiting
    exact ⟨⟨⟨records, waiting.symm⟩, images⟩, reads⟩
  · have left : s.port.admitAll.initialLeft = false := k.2.2
    have waiting := List.take_append_drop (Config.recordQueueSize - s.port.records.length) s.port.waiting
    simp only [Port.initialLeft, Port.admitAll, List.any_append, Bool.or_eq_false_iff] at left ⊢
    refine ⟨left.1.1, ?_⟩
    rw [← waiting, List.any_append, left.1.2, left.2]
    rfl

/-- At a free port with nothing to take the arbiter only admits the waiting writes and sets the host-passed mark. -/
theorem atGrant_of_free {s : State} (hh : s.port.held = none) (hp : s.port.hostPassed = false) (hs : s.portSettled) :
    s.atGrant = { s with port := { s.port.admitAll with hostPassed := s.port.admitAll.partWaiting } } := by
  have admitted : s.atArrival = s.admitWaiting := by
    unfold State.atArrival
    rw [settlePort_of_settled (admitWaiting_settled hs)]
    unfold State.finishHeld
    rw [show s.admitWaiting.port.held = none from hh]
  have yielded : s.admitWaiting.yieldPort = s.admitWaiting := by
    unfold State.yieldPort
    simp [show s.admitWaiting.port.hostPassed = false from hp]
  unfold State.atGrant
  rw [admitted, yielded]
  unfold State.hostGranted State.admitWaiting
  simp [show s.port.admitAll.hostPassed = false from hp]

/-! ### The words that a sound layout places -/

theorem apart_iff {a b : Region} : apart a b = true ↔ a.1 + a.2 ≤ b.1 ∨ b.1 + b.2 ≤ a.1 := by simp [apart]

/-- R169, test 4: what a sound layout says of its fixed regions. -/
theorem regions_of_ok {L : Layout} (h : L.regionsOk = true) :
    0x4F < L.laneBase ∧ 0x4F < L.eventBase ∧ 0x4F < L.senseBase ∧ 0x4F < L.statusBase ∧ 0x4F < L.thresholdBase ∧
      8 ≤ L.eventSize ∧
      (L.laneBase + 12 ≤ L.eventBase ∨ L.eventBase + (2 + L.eventSize * 4) ≤ L.laneBase) ∧
      (L.laneBase + 12 ≤ L.thresholdBase ∨ L.thresholdBase + 24 ≤ L.laneBase) ∧
      (L.eventBase + (2 + L.eventSize * 4) ≤ L.thresholdBase ∨ L.thresholdBase + 24 ≤ L.eventBase) ∧
      (L.senseBase + 32 ≤ L.thresholdBase ∨ L.thresholdBase + 24 ≤ L.senseBase) ∧
      (L.statusBase + 96 ≤ L.thresholdBase ∨ L.thresholdBase + 24 ≤ L.statusBase) := by
  have pairs : ∀ {rs : List Region} {a b : Region}, regionsApart rs = true → List.Sublist [a, b] rs →
      (a.1 + a.2 ≤ b.1 ∨ b.1 + b.2 ≤ a.1) := by
    intro rs a b hr hs
    induction rs with
    | nil => simp at hs
    | cons x rs ih =>
      simp only [regionsApart, Bool.and_eq_true, List.all_eq_true] at hr
      cases hs with
      | cons _ hs => exact ih hr.2 hs
      | cons_cons _ hs => exact apart_iff.1 (hr.1 b (List.singleton_sublist.1 hs))
  have h' := h
  simp only [Layout.regionsOk, Bool.and_eq_true, List.all_eq_true, decide_eq_true_eq] at h'
  obtain ⟨⟨⟨_, hsize⟩, hwithin⟩, hpart⟩ := h'
  simp only [within, Bool.and_eq_true, decide_eq_true_eq] at hsize
  have mem (r : Region) (hr : r ∈ L.regions) := (hwithin r hr).1
  have tail (a b : Region) (hs : List.Sublist [a, b]
      [(L.eventBase, 2 + L.eventSize * 4), (L.senseBase, 32), (L.statusBase, 96), (L.thresholdBase, 24)]) :=
    pairs hpart (hs.trans (List.sublist_append_right _ _))
  have head (b : Region) (hs : b ∈ [(L.eventBase, 2 + L.eventSize * 4), (L.senseBase, 32), (L.statusBase, 96),
      (L.thresholdBase, 24)]) : L.laneBase + 12 ≤ b.1 ∨ b.1 + b.2 ≤ L.laneBase := by
    refine pairs (a := (L.laneBase, 12)) hpart ?_
    simp only [Layout.regions, List.cons_append, List.nil_append]
    refine List.Sublist.cons_cons _ (List.singleton_sublist.2 ?_)
    simp only [List.mem_append]
    exact .inr hs
  have late (r : Region) (hr : r ∈ [(L.eventBase, 2 + L.eventSize * 4), (L.senseBase, 32), (L.statusBase, 96),
      (L.thresholdBase, 24)]) : 0x4F < r.1 := mem r (List.mem_append_right _ hr)
  refine ⟨mem (L.laneBase, 12) (by simp [Layout.regions]), late (L.eventBase, 2 + L.eventSize * 4) (by simp),
    late (L.senseBase, 32) (by simp), late (L.statusBase, 96) (by simp), late (L.thresholdBase, 24) (by simp), hsize.1,
    head (L.eventBase, 2 + L.eventSize * 4) (by simp), head (L.thresholdBase, 24) (by simp),
    tail (L.eventBase, 2 + L.eventSize * 4) (L.thresholdBase, 24) ?_, tail (L.senseBase, 32) (L.thresholdBase, 24) ?_,
    tail (L.statusBase, 96) (L.thresholdBase, 24) ?_⟩
  · exact .cons_cons _ (.cons _ (.cons _ (.cons_cons _ (.slnil))))
  · exact .cons _ (.cons_cons _ (.cons _ (.cons_cons _ (.slnil))))
  · exact .cons _ (.cons _ (.cons_cons _ (.cons_cons _ (.slnil))))

/-- R155: the producer word of a lane. -/
theorem wordClass_producer {s : State} (h : s.lay.regionsOk = true) (l : LaneId) :
    s.wordClass (s.lay.laneBase + 4 * l.index + 0) = .snooped (.producer l) := by
  have r := (regions_of_ok h).1
  have n0 : ¬ s.lay.laneBase + 4 * l.index + 0 < 0x40 := by omega
  have n1 : ¬ (s.lay.laneBase + 4 * l.index + 0 = 0x40 ∨ s.lay.laneBase + 4 * l.index + 0 = 0x41) := by omega
  have n2 : ¬ (s.lay.laneBase + 4 * l.index + 0 = 0x42 ∨ s.lay.laneBase + 4 * l.index + 0 = 0x43) := by omega
  have n3 : inBlock s.lay.laneBase 12 (s.lay.laneBase + 4 * l.index + 0) = true := by
    cases l <;> simp [inBlock, LaneId.index]
  have n4 : s.lay.laneBase + 4 * l.index + 0 - s.lay.laneBase = 4 * l.index + 0 := by omega
  simp only [State.wordClass, n0, n1, n2, n3, n4, if_false, if_true]
  cases l <;> rfl

/-- R155: the command word of a lane. -/
theorem wordClass_command {s : State} (h : s.lay.regionsOk = true) (l : LaneId) :
    s.wordClass (s.lay.laneBase + 4 * l.index + 1) = .snooped (.command l) := by
  have r := (regions_of_ok h).1
  have n0 : ¬ s.lay.laneBase + 4 * l.index + 1 < 0x40 := by omega
  have n1 : ¬ (s.lay.laneBase + 4 * l.index + 1 = 0x40 ∨ s.lay.laneBase + 4 * l.index + 1 = 0x41) := by omega
  have n2 : ¬ (s.lay.laneBase + 4 * l.index + 1 = 0x42 ∨ s.lay.laneBase + 4 * l.index + 1 = 0x43) := by omega
  have n3 : inBlock s.lay.laneBase 12 (s.lay.laneBase + 4 * l.index + 1) = true := by
    simp only [inBlock, Bool.and_eq_true, decide_eq_true_eq]
    cases l <;> simp only [LaneId.index] <;> omega
  have n4 : s.lay.laneBase + 4 * l.index + 1 - s.lay.laneBase = 4 * l.index + 1 := by omega
  simp only [State.wordClass, n0, n1, n2, n3, n4, if_false, if_true]
  cases l <;> rfl

/-- R155: the event consumer word. -/
theorem wordClass_consumer {s : State} (h : s.lay.regionsOk = true) :
    s.wordClass (s.lay.eventBase + 1) = .snooped .consumer := by
  obtain ⟨_, r, _, _, _, _, a, _⟩ := regions_of_ok h
  have n : inBlock s.lay.laneBase 12 (s.lay.eventBase + 1) = false := by simp [inBlock]; omega
  have n0 : ¬ s.lay.eventBase + 1 < 0x40 := by omega
  have n1 : ¬ (s.lay.eventBase + 1 = 0x40 ∨ s.lay.eventBase + 1 = 0x41) := by omega
  have n2 : ¬ (s.lay.eventBase + 1 = 0x42 ∨ s.lay.eventBase + 1 = 0x43) := by omega
  simp only [State.wordClass, n, n0, n1, n2, if_false, if_true]
  simp

/-- R155: the words of the threshold table. -/
theorem wordClass_threshold {s : State} (h : s.lay.regionsOk = true) (i : Fin 24) :
    s.wordClass (s.lay.thresholdBase + i.val) = .snooped (.threshold i) := by
  obtain ⟨_, _, _, _, r, _, _, b, c, d, e⟩ := regions_of_ok h
  have i24 := i.isLt
  have n1 : inBlock s.lay.laneBase 12 (s.lay.thresholdBase + i.val) = false := by simp [inBlock]; omega
  have n2 : inBlock s.lay.eventBase (2 + 4 * s.lay.eventSize) (s.lay.thresholdBase + i.val) = false := by
    simp [inBlock]; omega
  have n3 : inBlock s.lay.senseBase 32 (s.lay.thresholdBase + i.val) = false := by simp [inBlock]; omega
  have n4 : inBlock s.lay.statusBase 96 (s.lay.thresholdBase + i.val) = false := by simp [inBlock]; omega
  have n5 : s.lay.thresholdBase + i.val ≠ s.lay.eventBase + 1 := by omega
  have n6 : ¬ s.lay.thresholdBase + i.val < 0x40 := by omega
  have n7 : ¬ (s.lay.thresholdBase + i.val = 0x40 ∨ s.lay.thresholdBase + i.val = 0x41) := by omega
  have n8 : ¬ (s.lay.thresholdBase + i.val = 0x42 ∨ s.lay.thresholdBase + i.val = 0x43) := by omega
  simp [State.wordClass, n1, n2, n3, n4, n5, n6, n7, n8]

theorem wordClass_service (s : State) : s.wordClass 0x40 = .service ∧ s.wordClass 0x41 = .service := by
  constructor <;> simp [State.wordClass]

/-! ### Host writes with good parity in RUNNING -/

/-- R157: a good-parity write to a SNOOPED word goes to its owner. -/
theorem writeRunning_snooped {s : State} {a : Nat} {o : SnoopOwner} (h : s.wordClass a = .snooped o) (v : Word) :
    s.writeRunning a (.good v) = s.handSnooped o a (.good v) := by
  simp [State.writeRunning, h, RamWord.good_parityOk]

/-- R5: a host write to a lane's producer word. -/
theorem hostWriteLane_producer {s : State} {L : Layout} (h : s.takesHost L) (l : LaneId) (v : Word) :
    s.hostWriteLane l 0 v = s.atGrant.writeProducer l (s.atGrant.laneWord l 0) (.good v) := by
  have hc := wordClass_producer (s := s.atGrant) (by rw [takesHost_lay h]; exact h.2.1) l
  unfold State.hostWriteLane State.hostWritePlaced State.laneWord
  rw [takesHost_lay h] at hc ⊢
  simp only [h.1, State.hostWriteAt, State.writeGranted, atGrant_running h.2.2]
  exact writeRunning_snooped hc v

/-- R6: a host write to a lane's command word. -/
theorem hostWriteLane_command {s : State} {L : Layout} (h : s.takesHost L) (l : LaneId) (v : Word) :
    s.hostWriteLane l 1 v =
      (s.atGrant.forwardWrite (s.atGrant.laneWord l 1) (.good v)).writeCommand l v := by
  have hc := wordClass_command (s := s.atGrant) (by rw [takesHost_lay h]; exact h.2.1) l
  unfold State.hostWriteLane State.hostWritePlaced State.laneWord
  rw [takesHost_lay h] at hc ⊢
  simp only [h.1, State.hostWriteAt, State.writeGranted, atGrant_running h.2.2]
  exact writeRunning_snooped hc v

/-- R171: a host write of a code to the service command word in RUNNING. -/
theorem hostWriteService_running {s : State} (h : s.part = .running) (v : Word) :
    s.hostWriteService v = (s.atGrant.forwardWrite 0x40 (.good v)).writeService v := by
  simp [State.hostWriteService, State.hostWriteAt, State.writeGranted, atGrant_running h, State.writeRunning, wordClass_service,
    RamWord.good_parityOk, State.handService, show (RamWord.good v).data = v from rfl]

/-- R176: a host write to the event consumer word. -/
theorem hostWritePlaced_consumer {s : State} {L : Layout} (h : s.takesHost L) (v : Word) :
    s.hostWritePlaced (fun L => L.eventBase + 1) v = s.atGrant.writeConsumer (L.eventBase + 1) (.good v) := by
  have hc := wordClass_consumer (s := s.atGrant) (by rw [takesHost_lay h]; exact h.2.1)
  unfold State.hostWritePlaced
  rw [takesHost_lay h] at hc
  simp only [h.1, State.hostWriteAt, State.writeGranted, atGrant_running h.2.2]
  exact writeRunning_snooped hc v

/-- R176: the writes that a consumer advance leaves queued: a passed value word signals no more (log 23). -/
theorem advanceConsumer_writes (v : Nat) (s : State) :
    (s.advanceConsumer v).port.writes =
      s.port.writes.map (unsignal (fun i => decide (s.fromConsumer i < s.fromConsumer v))) := by
  simp [State.advanceConsumer, Port.writes]

/-- R176: lost events are reported where the ring has room. -/
theorem reportOverrun_appends {s : State} (hp : s.part = .running) (hl : 0 < s.events.overrun)
    (hr : s.unread + 1 < s.lay.eventSize) :
    s.reportOverrun = ({ s with events := { s.events with overrun := 0 } } : State).appendRecord
      { kind := .overrun, subject := 0, value := w16 s.events.overrun } := by
  rw [State.reportOverrun, if_pos hl, State.emit, if_pos hp]
  exact if_pos hr

/-! ### The entry to DRAINING -/

/-- R27, R105: the lanes at the entry to DRAINING. -/
theorem enterDraining_lanes (s : State) (l : LaneId) : s.enterDraining.lanes.get l = (s.lanes.get l).stopped := by
  dsimp only [State.enterDraining, State.relamp]
  split <;> cases l <;> rfl

@[simp] theorem Lane.stopped_state (x : Lane) : x.stopped.state = x.state := rfl
@[simp] theorem Lane.stopped_order (x : Lane) :
    x.stopped.order = x.order.map (fun o => { o with awaited := [] }) := rfl

end Sys2Proof.Machine
end

