-- ==== Sys2Proof/WellFormed.lean ====
section
/-! DEFINITION. Which commands are occurrences of their row at all: what the row's own words ask of its operands.
(The operands' types already bound the lanes, inputs, dampers, threshold words and conversion counts.) -/

namespace Sys2Proof

/-- R6: the lane command codes are 1 to 4; a write of 0 is no command. -/
def laneCodeKnown (code : Word) : Bool := code.toNat ≤ 4

/-- R171: the service codes are 1 to 7; a write of 0 is no command. -/
def serviceCodeKnown (code : Word) : Bool := code.toNat ≤ 7

/-- Whether a command is well formed: an unknown-code row carries a nonzero code outside the listed ones. -/
def Instr.wellFormed : Instr → Bool
  | .laneCommandUnknown _ code => !laneCodeKnown code
  | .serviceCodeUnknown code => !serviceCodeKnown code
  | _ => true

end Sys2Proof
end

