-- ==== Sys2Proof/Tests/Slice0.lean ====
section
/-! SUPPORT. The model's own tests: what the well-formedness check refuses, worked steps of the spec, and for every
statement with hypotheses (`test_hyps_…`) states and operands that meet them, one for each of its clauses. -/

namespace Sys2Proof.Tests

open Sys2Proof Sys2Proof.Machine

set_option Elab.async false

/-! ### Small states -/

/-- A good-parity word of a count. -/
def word (n : Nat) : RamWord := .good (w16 n)

/-- A layout block: FRONT and CREW with rings of four slots, no SCREEN lane, an event ring of eight records. -/
def layoutHead : List Nat := [1, 4, 0x100, 0x200, 4, 0x220, 4, 0, 0, 57, 0x300, 8, 0x400, 0x440, 0x500]
def layoutScan : List Nat := [0x0A02, 0x0086, 0, 0, 0, 0, 0]
def layoutTimes : List Nat := [0x3228, 0x11F4, 50, 90, 0x102D, 120, 0x3250, 0x280F, 0x053C]
def layoutAir : List Nat := [2048, 100, 60, 3, 0x1414, 0x140A, 16, 2000, 2900, 2600, 10, 0x5002, 2]
def layoutDampers : List Nat := [100, 100, 100, 100, 100, 100, 100, 40, 60, 0xFFFE, 0x7FFF, 0, 0, 0, 0, 0, 0, 0, 0]
def layoutNumbers : List Nat := layoutHead ++ layoutScan ++ layoutTimes ++ layoutAir ++ layoutDampers

/-- The block with word `i` set to `v` and the sum word set to match. -/
def blockWith (i v : Nat) : List RamWord :=
  let ns := layoutNumbers.set i v
  (ns ++ [65536 - ns.sum % 65536]).map word

/-- The layout block as it passes. -/
def block : List RamWord := blockWith 0 1

/-- Its layout. -/
def lay : Layout := parseLayout block

/-- A part in RUNNING with both lanes STOPPED and nothing under way. -/
def quiet : State :=
  { State.reset with
    part := .running, layout := some lay, now := 1000, lastTick := 950
    lanes := ⟨lay.startLane .front, lay.startLane .crew, lay.startLane .screen⟩
    governor := .reset lay.rest }

/-- The same with the Mix Record that the Governor's view gives. -/
def mixed : State :=
  { quiet with governor := { quiet.governor with mix := (quiet.nextMix none).1, chosen := (quiet.nextMix none).2 } }

/-- The fields of an order for fresh air, with the given check of air quality. -/
def fields (quality : Bool) : OrderFields :=
  { source := .freshAny, filter := .auto, retryLimit := 1, swapInlet := false, checkQuality := quality
    stopOnFail := false, stopOnHold := false, reportStart := true, reportEnd := true, targetPresent := false, zone := 50
    blower := 40, target := 0, tolerance := 0, settleLimit := 30, dwell := 10 }

/-- An active order in slot 0, with the given fields. -/
def order (f : Option OrderFields) : ActiveOrder := { ActiveOrder.fresh 0 with fields := f }

/-- The FRONT lane in a state, with the given order. -/
def laneIn (x : LaneState) (o : Option ActiveOrder) : Lane := { lay.startLane .front with state := x, mirror := 1, order := o }

/-- The quiet part with FRONT in a state. -/
def frontIn (x : LaneState) (o : Option ActiveOrder) : State := quiet.setLane .front (laneIn x o)

/-- Eight order words that pass: fresh air, zone 50, blower 40, settle limit 30, dwell 10. -/
def orderWords : List RamWord := [0x3003, 0x2832, 0, 0x1E00, 10, 0, 0, 0].map word

/-- The quiet part with damper `d` in a state. -/
def damperIn (d : Fin 8) (x : Damper) : State := mixed.setDamper d x

/-- Every other damper of `mixed` waits in the Motion Queue. -/
def queued (d : Fin 8) (x : Damper) : State :=
  { damperIn d x with drive := { (damperIn d x).drive with
      queue := (allDampers.filter (fun e => e ≠ d)).map (fun e => { damper := e, homing := true }) } }

/-- A damper with a plan that ends at the moment `ends`. -/
def travelling (x : DamperState) (target : Nat) (direction : Direction) (start ends : Nat) : Damper :=
  { Damper.reset with
    state := x, estimate := some start, target := target
    plan := some { direction := direction, start := some start, distance := 50, began := 1000, ends := ends } }

/-- A record of a hold. -/
def hold (k : HoldKey) : HoldRecord := { key := k, cause := .start, raised := 0, notBefore := none, phase := none }

/-- The quiet part with the given purge record and the PURGE hold that goes with it. -/
def purging (p : Purge) : State :=
  { quiet with purge := p, holds := [{ hold .purge with phase := some p.state }] }

/-- The purge record in a state. -/
def purgeIn (x : PurgeState) : Purge := { Purge.reset with state := x, cause := some .doors }

/-- The quiet part with a switch input's record. -/
def switchIn (i : SwitchId) (raw accepted : Bool) : State :=
  quiet.setSwitch i { raw := raw, accepted := accepted, debounce := some 1000 }

/-- The part in LOADING, with the loader in a phase. -/
def loadingIn (x : LoaderPhase) (ws : List RamWord) : State :=
  { State.reset with part := .loading, loader := { phase := x, words := ws } }

/-- What a command's step answers. -/
def after (c : Instr) (s : State) : State :=
  match exec c s with
  | .next t => t
  | .fault _ => s
  | .refused _ => s

/-! ### Well-formedness and decoding -/

theorem test_wellFormed_refuses_listed_lane_codes :
    [0, 1, 2, 3, 4].all (fun n => !(Instr.laneCommandUnknown .front (w16 n)).wellFormed) = true := by decide

theorem test_wellFormed_refuses_listed_service_codes :
    [0, 1, 2, 3, 4, 5, 6, 7].all (fun n => !(Instr.serviceCodeUnknown (w16 n)).wellFormed) = true := by decide

theorem test_wellFormed_takes_unknown_codes :
    (Instr.laneCommandUnknown .screen 5).wellFormed = true ∧ (Instr.laneCommandUnknown .crew 0xFFFF).wellFormed = true ∧
      (Instr.serviceCodeUnknown 8).wellFormed = true ∧ Instr.restart.wellFormed = true := by decide

theorem test_no_word_spells_a_command : decodeTableWord 16 0x1234 = none := rfl

theorem test_withFetchWord_leaves_the_queue : (quiet.withFetchWord 16 1).pending = [] := rfl

/-! ### The layout block -/

theorem test_block_passes : layoutFault block = none := by decide +kernel

theorem test_block_settings :
    lay.rings = ⟨⟨0x200, 4⟩, ⟨0x220, 4⟩, ⟨0, 0⟩⟩ ∧ lay.scanned = [6, 8] ∧ lay.ranks = ⟨1, 2, 3⟩ ∧ lay.eventSize = 8 ∧
      lay.doorDebounce = 40 ∧ lay.longPress = 1 ∧ lay.extensionLimit = 1 ∧ lay.purgeBlower = 80 ∧
      lay.motionGrants = 2 := by decide +kernel

/-! ### Hypotheses: the machine -/

theorem test_hyps_EmptyQueueStepPassesTime :
    State.reset.pending = [] ∧ State.reset.due = false ∧
      ({ State.reset with part := .draining } : State).pending = [] ∧
      ({ State.reset with part := .draining } : State).due = true := by decide +kernel

/-- A read held at RESET, and none. -/
theorem test_hyps_ResetEntersResetFromAnyState :
    ({ quiet with port := { quiet.port with held := some ⟨0x42, false, 1⟩ } } : State).port.held = some ⟨0x42, false, 1⟩ ∧
      quiet.port.held = none := by decide +kernel

/-- A part in DRAINING with every source empty. -/
def drained : State := { State.reset with part := .draining }

theorem test_hyps_LoadingEnteredFromResetAndDraining :
    State.reset.part = .reset ∧ drained.part = .draining ∧ drained.port.records = [] ∧ drained.port.waiting = [] ∧
      drained.port.images = [] ∧ drained.port.reads = [] := by decide +kernel

theorem test_hyps_LayoutReadJudgesLayout :
    (loadingIn .layout block).part = .loading ∧ (loadingIn .layout block).loader.phase = .layout ∧
      (loadingIn .layout block).loader.words.length = 64 ∧ layoutFault block = none ∧
      (blockWith 0 2).length = 64 ∧ layoutFault (blockWith 0 2) = some .version := by decide +kernel

/-- One block for each reason: a bad parity bit, version 2, a wrong sum, a ring of three slots, an extension time of 9 s,
a channel scanned twice, two lanes of rank 1. -/
theorem test_hyps_LayoutAcceptedExactlyByItsTests :
    layoutFault block = none ∧ layoutFault (block.set 63 ⟨0, false⟩) = some .parity ∧
      layoutFault (blockWith 0 2) = some .version ∧ layoutFault (block.set 63 (word 0)) = some .sum ∧
      layoutFault (blockWith 4 3) = some .region ∧ layoutFault (blockWith 26 0x1009) = some .range ∧
      layoutFault (blockWith 16 0x0066) = some .scanList ∧ layoutFault (blockWith 9 53) = some .ranks := by
  decide +kernel

/-- The part after the layout has been latched, with 24 threshold words read. -/
def thresholdsRead : State :=
  { loadingIn .thresholds (List.replicate 24 (word 0)) with layout := some lay }

theorem test_hyps_ThresholdReadOffersInitialWrites :
    thresholdsRead.part = .loading ∧ thresholdsRead.loader.phase = .thresholds ∧
      thresholdsRead.loader.words.length = 24 ∧ thresholdsRead.layout = some lay := by decide +kernel

/-- The part once the last initial write has been made. -/
def written : State := { loadingIn .writes [] with layout := some lay }

theorem test_hyps_RunningEntryStartsEveryBlock :
    written.part = .loading ∧ written.loader.phase = .writes ∧ written.port.initialLeft = false ∧
      written.layout = some lay ∧ lay.rangesOk = true ∧ lay.scanListOk = true := by decide +kernel

/-- LOADING with a read of an abandoned start-up left, and with a write that waits. -/
def abandonedRead : State :=
  { loadingIn .abandoned [] with port := { State.reset.port with reads := [⟨0, .abandoned⟩] } }

def writeWaits : State :=
  { loadingIn .writes [] with port := { State.reset.port with
      records := List.replicate 32 ⟨0x900, 0, .plain⟩, waiting := [⟨0x900, 0, .lastInitial⟩] } }

/-- A part in DRAINING with one write left in the Record Queue. -/
def draining : State := { drained with layout := some lay, port := { drained.port with records := [⟨0x900, 1, .plain⟩] } }

theorem test_hyps_RestartActsByPartState :
    quiet.atGrant.part = .running ∧ ({ State.reset with part := .fault } : State).atGrant.part = .fault ∧
      (abandonedRead.atGrant.part = .loading ∧ abandonedRead.atGrant.port.abandonedLeft = true) ∧
      (writeWaits.atGrant.part = .loading ∧ writeWaits.atGrant.port.waiting ≠ []) ∧
      ((loadingIn .layout []).atGrant.part = .loading ∧ (loadingIn .layout []).atGrant.port.abandonedLeft = false ∧
        (loadingIn .layout []).atGrant.port.waiting = []) ∧
      State.reset.atGrant.part = .reset ∧ draining.atGrant.part = .draining := by decide +kernel

/-- The tag clock at its last count, 100 ms after the last tick, with an order in SETTLE. -/
def ticking : State :=
  { frontIn .settle (some (order (some (fields false)))) with tagClock := 0xFFFF, lastTick := 900 }

theorem test_hyps_TagClockTickCountsTimers :
    ticking.part = .running ∧ ticking.lastTick + 100 ≤ ticking.now ∧
      (ticking.lanes.get .front).order = some (order (some (fields false))) ∧
      (ticking.lanes.get .crew).order = none := by decide +kernel

/-- An event ring with `n` unread records. -/
def unreadIs (n : Nat) : State := { quiet with events := { quiet.events with producer := n } }

theorem test_hyps_EventAppendedOrCounted :
    State.reset.part ≠ .running ∧ (unreadIs 6).unread + 1 < (unreadIs 6).lay.eventSize ∧
      ¬ (unreadIs 7).unread + 1 < (unreadIs 7).lay.eventSize := by decide +kernel

/-- The quiet part with the given holds. -/
def holdingKeys (keys : List HoldKey) : State := { quiet with holds := keys.map hold }

/-- The lamp's notices find their pair absent and present, and SCRUB entered and left; each lamp mode. -/
theorem test_hyps_EventAppendedOrCounted_lamp :
    [HoldKey.damperJam 3, .blowerFail, .cabFoul].all (fun k =>
        !quiet.hasHold k && (holdingKeys [k]).hasHold k) = true ∧
      quiet.purge.state ≠ .scrub ∧ (purging (purgeIn .scrub)).purge.state = .scrub ∧
      ([EventWriter.reset, { EventWriter.reset with jams := 1 }, { EventWriter.reset with scrub := true }].map
        (lampMode .running)) = [.off, .slowFlash, .steady] ∧ lampMode .fault .reset = .fastFlash := by decide +kernel

/-- Record 1 signals and is unread; a consumer index of 2 has passed it. -/
theorem test_interrupt_line :
    let s := { quiet with events := { quiet.events with producer := 2, lastSignalled := some 1 } }
    s.interruptLine = true ∧ { s with events := { s.events with consumer := 2 } }.interruptLine = false ∧
      { s with part := .fault }.interruptLine = false := by decide +kernel

theorem test_hyps_CommandsBeforeTheirOccasionChangeNothing :
    quiet.part ≠ .reset ∧ quiet.part ≠ .draining ∧ draining.port.records ≠ [] ∧ quiet.part ≠ .loading ∧
      (loadingIn .layout (block.drop 1)).loader.words.length ≠ 64 ∧ (loadingIn .writes []).loader.phase ≠ .thresholds ∧
      State.reset.part ≠ .running ∧ quiet.now < quiet.lastTick + 100 ∧ (quiet.lanes.get .front).state ≠ .fetch ∧
      (quiet.holdRecord (.inletBarred .roof)) = none ∧ quiet.purge.remaining ≠ some 0 ∧
      quiet.scanner.conversion = none ∧ quiet.scanner.state ≠ .waiting ∧ (quiet.switch .doorFL).debounce = none ∧
      quiet.switches.pressDeadline = none ∧ (quiet.damper 7).state ≠ .moving ∧ quiet.heat.lastPulse = none ∧
      quiet.heat.watch = .idle ∧ quiet.heat.stageUpTimer = none ∧ quiet.heat.restore = none ∧
      quiet.port.turn ≠ some .fetch ∧ quiet.port.waiting = [] ∧ quiet.port.held = none := by decide +kernel

/-- A damper whose homing limit is 1 ms away. -/
def homingYet : Damper :=
  { Damper.reset with
    state := .homing, plan := some { direction := .closing, start := none, distance := 0, began := 0, ends := 1001 } }

/-- Every timer runs and none has run out: the moment is one millisecond, or one tick, too early. -/
def early : State :=
  let o := { order (some (fields false)) with settleTimer := 1, dwellTimer := 1, words := [word 0] }
  { quiet.setLane .front (laneIn .settle (some o)) with
    lastTick := 901
    holds := [{ hold (.inletBarred .roof) with notBefore := some 1 }]
    purge := { purgeIn .run with remaining := some 1 }
    scanner := { quiet.scanner with
      state := .waiting, passStart := some 901, conversion := some { channel := 6, began := 998 } }
    switches := { quiet.switches with
      inputs := Vector.replicate 7 { raw := true, accepted := false, debounce := some 1001 }
      pressDeadline := some 1001 }
    drive := { quiet.drive with dampers := Vector.replicate 8 homingYet }
    heat := { quiet.heat with
      lastPulse := some 1, watch := .timing 1001, stageUpTimer := some 1001
      restore := some { candidate := 2, deadline := 1001 } }
    port := { quiet.port with held := some ⟨0x440, true, 0⟩ } }

theorem test_early_timers_change_nothing :
    ([Instr.tagClockTick, .settleTimerExpiry .front, .dwellTimerExpiry .front, .orderFetchComplete .front,
        .inletHoldDownExpiry .roof, .purgeTimerExpiry, .conversionComplete 5, .scanPeriodElapsed,
        .debounceTimerExpiry .hatch, .pressTimerExpiry, .homingLimit 3, .movingPlannedEnd 3, .tachTimeout,
        .blowerWatchExpiry, .stageUpTimerExpiry, .restoreTimerExpiry, .heldReadGranted].all
      (fun c => decide (after c early = early))) = true := by decide +kernel

/-! ### Hypotheses: lanes -/

theorem quiet_takesHost : quiet.takesHost lay := ⟨rfl, by decide +kernel, rfl⟩

theorem frontIn_takesHost (x : LaneState) (o : Option ActiveOrder) : (frontIn x o).takesHost lay :=
  ⟨rfl, by decide +kernel, rfl⟩

theorem test_hyps_ProducerWriteTakenOrAbsorbed :
    (frontIn .idle none).takesHost lay ∧ (frontIn .idle none).atGrant.ramCanonical ∧
      ((frontIn .idle none).atGrant.lanes.get .front).state = .idle ∧ (3 : Word).toNat < (lay.rings.get .front).size ∧
      (3 : Word).toNat ≠ ((frontIn .idle none).atGrant.lanes.get .front).consumer ∧
      (0 : Word).toNat = ((frontIn .idle none).atGrant.lanes.get .front).consumer ∧
      ¬ (4 : Word).toNat < (lay.rings.get .front).size :=
  ⟨frontIn_takesHost _ _, rfl, by decide +kernel⟩

theorem test_hyps_StartTakenInStopped :
    quiet.takesHost lay ∧ (frontIn .stopped none).takesHost lay ∧ (quiet.atGrant.lanes.get .front).state = .stopped ∧
      (quiet.atGrant.lanes.get .front).consumer = (quiet.atGrant.lanes.get .front).mirror ∧
      ((frontIn .stopped none).atGrant.lanes.get .front).consumer ≠
        ((frontIn .stopped none).atGrant.lanes.get .front).mirror ∧
      (quiet.atGrant.lanes.get .screen).state ≠ .stopped :=
  ⟨quiet_takesHost, frontIn_takesHost _ _, by decide +kernel⟩

/-- The same states serve STOP_AFTER, ABORT and FLUSH. -/
theorem test_hyps_StopAfterActsByLaneState :
    quiet.takesHost lay ∧ (quiet.atGrant.lanes.get .screen).state = .disabled ∧
      (quiet.atGrant.lanes.get .front).state = .stopped ∧
      ((frontIn .idle none).atGrant.lanes.get .front).state = .idle ∧
      [LaneState.fetch, .settle, .dwell, .check].all (fun x =>
        ((frontIn x (some (order none))).atGrant.lanes.get .front).state == x &&
          ((frontIn x (some (order none))).atGrant.lanes.get .front).order == some (order none)) = true :=
  ⟨quiet_takesHost, by decide +kernel⟩

theorem test_hyps_AbortActsByLaneState :
    (frontIn .dwell (some (order (some (fields true))))).takesHost lay ∧
      ((frontIn .dwell (some (order (some (fields true))))).atGrant.lanes.get .front).state = .dwell ∧
      ((frontIn .fetch (some (order none))).atGrant.lanes.get .front).state = .fetch :=
  ⟨frontIn_takesHost _ _, by decide +kernel⟩

theorem test_hyps_FlushTakenInStopped :
    (frontIn .stopped none).takesHost lay ∧
      ((frontIn .stopped none).atGrant.lanes.get .front).consumer ≠
        ((frontIn .stopped none).atGrant.lanes.get .front).mirror ∧
      (quiet.atGrant.lanes.get .front).consumer = (quiet.atGrant.lanes.get .front).mirror ∧
      ((frontIn .idle none).atGrant.lanes.get .front).state ≠ .stopped :=
  ⟨frontIn_takesHost _ _, by decide +kernel⟩

theorem test_hyps_UnknownCodesForwardedAndRefused :
    quiet.takesHost lay ∧ 4 < (5 : Word).toNat ∧ quiet.part = .running ∧ 7 < (8 : Word).toNat :=
  ⟨quiet_takesHost, by decide +kernel⟩

/-- An order whose eight words have returned. -/
def fetched (ws : List RamWord) (aborted : Bool) : State :=
  frontIn .fetch (some { order none with words := ws, abortPending := aborted })

theorem test_hyps_ValidOrderStarts :
    (fetched orderWords false).part = .running ∧ ((fetched orderWords false).lanes.get .front).state = .fetch ∧
      ((fetched orderWords false).lanes.get .front).order = some { order none with words := orderWords } ∧
      8 ≤ orderWords.length ∧ orderRejected orderWords = none := by decide +kernel

/-- The last accepted value of each field that can be out of range, and the value after it: filter 2 and 3, zone, blower, a
target with and without its flag, settle limit, dwell; and a bad parity bit. -/
theorem test_order_fields :
    let rejects := fun (i n : Nat) => orderRejected (orderWords.set i (word n))
    [rejects 0 0x3008, rejects 0 0x300C, rejects 1 0x2864, rejects 1 0x2865, rejects 1 0x6432, rejects 1 0x6532,
        orderRejected ((orderWords.set 0 (word 0x7003)).set 2 (word 4095)),
        orderRejected ((orderWords.set 0 (word 0x7003)).set 2 (word 4096)), rejects 2 4096, rejects 3 0x0100,
        rejects 3 0x00FF, rejects 4 1, rejects 4 0] =
      [none, some .rejectedField, none, some .rejectedField, none, some .rejectedField, none, some .rejectedField, none,
        none, some .rejectedField, none, some .rejectedField] ∧
      orderRejected (orderWords.set 7 ⟨0, false⟩) = some .rejectedParity := by decide +kernel

/-- Aborted; a zone of 101; bad parity of the flags word. -/
theorem test_hyps_AbortedOrRejectedFetchEnds :
    ((fetched orderWords true).lanes.get .front).order =
        some { order none with words := orderWords, abortPending := true } ∧
      ((fetched orderWords true).lanes.get .front).state = .fetch ∧
      orderRejected (orderWords.set 1 (word 0x2865)) = some .rejectedField ∧
      orderRejected (orderWords.set 0 ⟨0x3003, false⟩) = some .rejectedParity := by decide +kernel

theorem test_hyps_SettleExpiryEntersDwell :
    ticking.part = .running ∧ (ticking.lanes.get .front).state = .settle ∧
      (ticking.lanes.get .front).order = some (order (some (fields false))) ∧
      (order (some (fields false))).settleTimer = 0 ∧ (order (some (fields false))).fields = some (fields false) := by
  decide +kernel

/-- An order without a check and one with. -/
theorem test_hyps_DwellExpiryEndsOrChecks :
    ((frontIn .dwell (some (order (some (fields false))))).lanes.get .front).state = .dwell ∧
      ((frontIn .dwell (some (order (some (fields false))))).lanes.get .front).order =
        some (order (some (fields false))) ∧
      (order (some (fields false))).dwellTimer = 0 ∧ (fields false).targetPresent = false ∧
      (fields false).checkQuality = false ∧ (fields true).checkQuality = true := by decide +kernel

/-- FRONT in CHECK: it awaits CAB_CO and CAB_PM, or CAB_PM alone; the CAB_CO result open or not; with retries used. -/
def checking (awaited : List (Fin 16)) (isOpen : Bool) (retries : Nat) : State :=
  frontIn .check (some { order (some (fields true)) with
    awaited := awaited, results := [⟨4, 10, isOpen⟩], retries := retries })

/-- One result left and two; an open channel; without limits every reading is SEVERE (failed, with a retry left and without);
with limits a reading of 10 passes. -/
theorem test_hyps_DwellExpiryEndsOrChecks_check :
    ((checking [5] true 0).lanes.get .front).state = .check ∧ (5 : Fin 16) ∈ [(5 : Fin 16)] ∧
      [(4 : Fin 16), 5].filter (fun c => c ≠ 5) ≠ [] ∧ [(5 : Fin 16)].filter (fun c => c ≠ 5) = [] ∧
      (∃ q ∈ [(⟨4, 10, true⟩ : SpotResult)], q.isOpen = true) ∧ (checking [5] false 0).spotClass 5 10 ≠ .ok ∧
      (0 : Nat) < (fields true).retryLimit ∧ (fields true).retryLimit ≤ 1 ∧ (5 : Fin 16) ≠ LaneId.front.channel := by
  decide +kernel

/-- R20, R21: the four outcomes of a check. -/
theorem test_check_judged :
    let t := fun s => State.deliverLane .front ⟨5, 10, false⟩ s
    ((t (checking [5] true 0)).port.records.map RecordEntry.data).head? = some (w16 (3 + 512)) ∧
      ((t (checking [5] false 1)).port.records.map RecordEntry.data).head? = some (w16 (3 + 4096)) ∧
      ((t (checking [5] false 0)).port.records.map RecordEntry.data).head? = some (w16 (1 + 256 + 4096)) ∧
      ((t (checking [5] false 0)).lanes.get .front).state = .settle ∧
      ((t (checking [4, 5] false 0)).lanes.get .front).state = .check := by decide +kernel

/-! ### Hypotheses: holds and purge -/

/-- A bar whose hold-down has run out. -/
def barred : State := { quiet with holds := [{ hold (.inletBarred .roof) with notBefore := some 0 }] }

theorem test_hyps_HoldsRaisedAndReleased :
    quiet.part = .running ∧ HoldKey.cabFoul ≠ .purge ∧ quiet.hasHold .cabFoul = false ∧
      barred.hasHold (.inletBarred .roof) = true ∧
      barred.holdRecord (.inletBarred .roof) = some { hold (.inletBarred .roof) with notBefore := some 0 } ∧
      barred.tagClock = 0 ∧ quiet.purge.state = .idle ∧ quiet.hasHold .purge = false ∧
      (purgeIn .scrub).cause = some .doors := by decide +kernel

/-- A raise that affects FRONT and one that does not, with stop-on-hold set and clear, and no order in force. -/
theorem test_hyps_HoldsRaisedAndReleased_offer :
    ((frontIn .dwell (some (order (some (fields false))))).lanes.get .front).inForce = some (fields false) ∧
      (fields false).stopOnHold = false ∧ ({ fields false with stopOnHold := true } : OrderFields).stopOnHold = true ∧
      ((frontIn .idle none).lanes.get .front).inForce = none ∧ HoldKey.damperJam 4 = .damperJam LaneId.front.damper ∧
      HoldKey.damperJam 5 ≠ .damperJam LaneId.front.damper := by decide +kernel

/-- R15, R16: DOOR_OPEN(FL) ends FRONT's order HOLD_ENDED or overrides it; DOOR_OPEN(CL) leaves it. -/
theorem test_hold_offered :
    let s := fun (stops : Bool) => frontIn .dwell (some (order (some { fields false with stopOnHold := stops })))
    (((s true).offerHold (.doorOpen .fl) .front).port.records.map RecordEntry.data).head? = some 7 ∧
      (((s true).offerHold (.doorOpen .fl) .front).lanes.get .front).state = .stopped ∧
      ((((s false).offerHold (.doorOpen .fl) .front).lanes.get .front).order.map
        (fun o => o.flags.overridden)) = some true ∧
      (s true).offerHold (.doorOpen .cl) .front = s true := by decide +kernel

/-- R57, R58, R59: a FOUL roof is barred, a clean one starts the hold-down (60 s), and a FOUL cab triggers a purge. -/
theorem test_grade_notices :
    (quiet.tableGradeNotice .roof .foul).hasHold (.inletBarred .roof) = true ∧
      ((holdingKeys [.inletBarred .roof]).tableGradeNotice .roof .clean).holds.map HoldRecord.notBefore =
        [some (w16 (10 * lay.holdDown))] ∧
      (quiet.tableGradeNotice .cab .foul).purge.cause = some .cabFoul ∧
      (quiet.tableGradeNotice .cab .foul).holds.map HoldRecord.key = [.cabFoul, .purge] := by decide +kernel

theorem test_hyps_PurgeRequestTriggersPurge :
    quiet.part = .running ∧
      [PurgeState.idle, .waitClose, .run, .scrub, .verify].all (fun x =>
        ({ quiet with purge := purgeIn x } : State).atGrant.purge.state == x) = true ∧
      ({ quiet with purge := { purgeIn .idle with doorOpen := true } } : State).atGrant.purge.doorOpen = true := by
  decide +kernel

theorem test_hyps_PurgeTimerExpiryEntersVerify :
    [PurgeState.run, .scrub].all (fun x =>
      (purging { purgeIn x with remaining := some 0 }).part == .running &&
        (purging { purgeIn x with remaining := some 0 }).purge.state == x &&
        (purging { purgeIn x with remaining := some 0 }).purge.remaining == some 0) = true := by decide +kernel

/-- VERIFY with both results: one open; both clean only with limits; a foul one below the extension limit. -/
def verifying (extensions : Nat) (isOpen : Bool) : State :=
  purging { purgeIn .verify with extensions := extensions, results := [⟨4, 10, isOpen⟩, ⟨5, 10, false⟩] }

theorem verifying_holds (extensions : Nat) (isOpen : Bool) :
    (verifying extensions isOpen).holdsDistinct ∧ (verifying extensions isOpen).purgeHeld :=
  ⟨by simp [State.holdsDistinct, verifying, purging], fun _ => ⟨⟨fun _ => nofun, fun _ => rfl⟩, fun r h => by cases h; rfl⟩⟩

theorem test_hyps_PurgeJudgedByFirstLine :
    (verifying 0 true).part = .running ∧ (verifying 0 true).purge.state = .verify ∧
      (∃ r ∈ (verifying 0 true).purge.results, r.isOpen = true) ∧
      (¬ ∃ r ∈ (verifying 0 false).purge.results, r.isOpen = true) ∧
      (¬ ∀ r ∈ (verifying 0 false).purge.results, (verifying 0 false).spotClass r.channel r.value = .ok) ∧
      (verifying 0 false).purge.extensions < (verifying 0 false).lay.extensionLimit ∧
      (verifying 1 false).lay.extensionLimit ≤ (verifying 1 false).purge.extensions := by decide +kernel

/-- Limits 1200 and 2000, margin 150, both counts 2, for every graded channel. -/
def limits : Limits := { high := 1200, severe := 2000, margin := 150, raiseCount := 2, lowerCount := 2 }

def graded (s : State) (x : Level) : State :=
  { s with grader := { s.grader with
      channels := Vector.replicate 6 { Grading.reset with limits := some limits, level := x } } }

theorem test_hyps_PurgeJudgedByFirstLine_clean :
    ∀ r ∈ (graded (verifying 0 false) .ok).purge.results, (graded (verifying 0 false) .ok).spotClass r.channel r.value = .ok := by
  decide +kernel

/-- A result in VERIFY with another still awaited, the last one, and one outside the awaited set. -/
theorem test_hyps_PurgeJudgedByFirstLine_deliver :
    let p := fun (cs : List (Fin 16)) => ({ purgeIn .verify with awaited := cs } : Purge)
    (5 : Fin 16) ∈ (p [4, 5]).awaited ∧ (p [4, 5]).awaited.filter (fun c => c ≠ 5) ≠ [] ∧
      (p [5]).awaited.filter (fun c => c ≠ 5) = [] ∧ (5 : Fin 16) ∉ (p [4]).awaited ∧
      (verifying 0 true).purge.cause = some .doors := by decide +kernel

/-- The purge in a state with an inlet, the given inlets barred, both dampers homed. -/
def purgingAt (x : PurgeState) (i : Option Inlet) (bars : List Inlet) : State :=
  let s := purging { purgeIn x with inlet := i }
  let home := { Damper.reset with state := .atRest, estimate := some 0 }
  (({ s with holds := s.holds ++ bars.map (fun i => hold (.inletBarred i)) } : State).setDamper 0 home).setDamper 1 home

/-- RUN and SCRUB with both inlets allowed, one and none; the third state of R82 keeps the purge. -/
theorem test_hyps_PurgeJudgedByFirstLine_rejudge :
    [PurgeState.run, .scrub].all (fun x =>
      (purgingAt x (some .roof) []).part == .running && (purgingAt x (some .roof) []).purge.state == x &&
        (purgingAt x (some .roof) []).purge.inlet == some .roof) = true ∧
      (purgingAt .run (some .roof) []).purgeAllows .roof = true ∧
      (purgingAt .run (some .roof) [.roof]).purgeAllows .roof = false ∧
      (purgingAt .run (some .roof) [.roof]).purgeAllows .bumper = true ∧
      (purgingAt .run (some .roof) [.roof, .bumper]).purgeAllows .bumper = false ∧
      lay.preferred = .roof ∧ (purgeIn .waitClose).state ≠ .run ∧ (purgeIn .waitClose).state ≠ .scrub ∧
      (purgingAt .run (some .roof) [.roof, .bumper]).purgeRejudge.holdRecord .purge =
        some { hold .purge with phase := some .scrub } := by decide +kernel

/-! ### Hypotheses: scanner and grader -/

/-- A scan of position 0, or a spot, under way since 3 ms. -/
def converting (x : ScanState) (position : Nat) : State :=
  { quiet with scanner := { quiet.scanner with
      state := x, position := position, passStart := some 0, conversion := some { channel := 6, began := 997 } } }

theorem test_hyps_ConversionUpdatesChannelAndGoesOn :
    (converting .scanning 0).part = .running ∧
      (converting .scanning 0).scanner.conversion = some { channel := 6, began := 997 } ∧
      997 + 3 ≤ (converting .scanning 0).now ∧ (converting .scanning 0).scanner.queue = [] ∧
      (converting .scanning 0).scanner.position + 1 < lay.scanLength ∧
      lay.scanLength ≤ (converting .scanning 1).scanner.position + 1 ∧ (converting .spot 0).scanner.state = .spot := by
  decide +kernel

/-- A rail reading under each open-wire method that has one, and its neighbour. -/
theorem test_hyps_ConversionUpdatesChannelAndGoesOn_rails :
    (OpenWire.precharge.rail 4080, OpenWire.precharge.rail 4079, OpenWire.discharge.rail 15, OpenWire.discharge.rail 16) =
      (true, false, true, false) := by decide

/-- A spot of CAB_CO under conversion, its requester set and its served set; the resume point. -/
def spotOf (asked served : RequesterSet) (more : List SpotEntry) (r : Resume) : State :=
  { converting .spot 0 with scanner := { (converting .spot 0).scanner with
      conversion := some { channel := 4, began := 997 }, resume := r
      queue := { channel := 4, requesters := asked, served := some served } :: more } }

/-- SERVICE alone. -/
def service : RequesterSet := RequesterSet.none.put .service true

/-- A requester in the served set and one outside it; an entry that stays, one that closes with another behind it, and one
that closes as the last, with each resume point. -/
theorem test_hyps_ConversionUpdatesChannelAndGoesOn_spot :
    service.has .service = true ∧ service.has .purge = false ∧ service ≠ RequesterSet.none ∧
      [Resume.absent, .at 1, .endOfPass, .restart].all (fun r =>
        (spotOf .none service [] r).scanner.resume == r && (spotOf .none service [] r).scanner.state == .spot) = true ∧
      100 * lay.scanPeriod ≤ (spotOf .none service [] .endOfPass).now -
        (spotOf .none service [] .endOfPass).scanner.passStart.getD 0 := by decide +kernel

/-- R100, R104: the result goes to SERVICE alone; PURGE, which joined during the conversion, has the entry converted again. -/
theorem test_spot_served :
    let t := after (.conversionComplete 700) (spotOf (service.put .purge true) service [] (.at 1))
    t.port.records.map RecordEntry.data = [30, 4, 0, 700, 1] ∧
      t.scanner.queue = [{ channel := 4, requesters := RequesterSet.none.put .purge true
                           served := some (RequesterSet.none.put .purge true) }] ∧
      t.scanner.conversion = some { channel := 4, began := 1000 } ∧ t.port.images.map ImageEntry.addr = [0x408, 0x409] := by
  decide +kernel

/-- R95, R99: with the scan period elapsed, the last position completes and a request follows at the same moment: the spot
is served and the scan resumes at END_OF_PASS with the pass start kept. A millisecond later the scan resumes at 0. -/
theorem test_request_after_pass_end :
    let t := after (.conversionComplete 700) { converting .scanning 1 with serviceArg := 4 }
    (t.scanner.state, t.scanner.position, t.scanner.passStart) = (.scanning, 0, some 1000) ∧
      ((after .spotRead t).scanner.state, (after .spotRead t).scanner.resume, (after .spotRead t).scanner.passStart) =
        (.spot, .endOfPass, some 0) ∧
      (after .spotRead { t with now := 1001 }).scanner.resume = .at 0 := by decide +kernel

theorem test_hyps_ScanBegunAndStopped :
    quiet.part = .running ∧ quiet.atGrant.scanner.state = .stopped ∧
      [ScanState.scanning, .waiting, .spot].all (fun x => (converting x 0).atGrant.scanner.state == x) = true ∧
      (converting .waiting 0).scanner.state = .waiting ∧
      100 * lay.scanPeriod ≤ (converting .waiting 0).now - (converting .waiting 0).scanner.passStart.getD 0 := by
  decide +kernel

/-- The service argument at 15 and at 16. -/
def arguing (n : Nat) : State := { quiet with serviceArg := w16 n }

theorem test_hyps_SpotReadAsksForItsChannel :
    (arguing 15).part = .running ∧ (arguing 15).atGrant.serviceArg.toNat = (15 : Fin 16).val ∧
      (arguing 15).atGrant.scanner.state = .stopped ∧ 16 ≤ (arguing 16).atGrant.serviceArg.toNat ∧
      (converting .waiting 0).atGrant.scanner.state = .waiting ∧
      (converting .scanning 0).atGrant.scanner.state = .scanning ∧
      (converting .scanning 0).atGrant.scanner.conversion.isSome = true ∧
      (converting .scanning 0).atGrant.scanner.ended = none ∧ (converting .spot 0).atGrant.scanner.state = .spot ∧
      (after (.conversionComplete 700) (converting .scanning 1)).atGrant.scanner.ended =
        some { moment := 1000, start := some 0 } := by decide +kernel

/-- Withdrawals: from the entry under conversion, from a waiting entry with another requester and with none. -/
theorem test_withdrawal :
    let both := service.put .purge true
    let s := spotOf both both [⟨5, both, none⟩, ⟨6, service, none⟩] .absent
    let left := RequesterSet.none.put .purge true
    (s.withdrawSpot .service 4).scanner.queue =
        [⟨4, left, some left⟩, ⟨5, both, none⟩, ⟨6, service, none⟩] ∧
      (s.withdrawSpot .service 5).scanner.queue = [⟨4, both, some both⟩, ⟨5, left, none⟩, ⟨6, service, none⟩] ∧
      (s.withdrawSpot .service 6).scanner.queue = [⟨4, both, some both⟩, ⟨5, both, none⟩] := by decide +kernel

/-- The copy of an entry that passes; `i` set to `n`. -/
def entryWith (i : Fin 4) (n : Nat) : Vector RamWord 4 := vset #v[word 1200, word 2000, word 150, word 0x0202] i (word n)

theorem test_hyps_ThresholdWriteJudgesItsEntry :
    quiet.takesHost lay ∧ entryFault (entryWith 0 1999) = none ∧ entryFault (entryWith 0 2000) = some .limits ∧
      entryFault (entryWith 1 4095) = none ∧ entryFault (entryWith 1 4096) = some .limits ∧
      entryFault (entryWith 2 1199) = none ∧ entryFault (entryWith 2 1200) = some .margin ∧
      entryFault (entryWith 3 0x0F01) = none ∧ entryFault (entryWith 3 0x1001) = some .counts ∧
      entryFault (entryWith 3 0x0100) = some .counts ∧
      entryFault (vset (entryWith 0 1200) 3 ⟨0x0202, false⟩) = some .parity :=
  ⟨quiet_takesHost, by decide +kernel⟩

theorem test_hyps_ReadingClassesAndBodyGrades :
    limits.high < limits.severe ∧ limits.margin < limits.high ∧ (4 : Fin 16).val = (4 : Fin 6).val ∧
      (quiet.grading 4).limits = none ∧ ((graded quiet .ok).grading 4).limits = some limits := by decide +kernel

/-- A grading record with limits, at a level. -/
def atLevel (x : Level) : Grading := { Grading.reset with limits := some limits, level := x }

theorem test_hyps_ReadingMovesLevelByRuns :
    (atLevel .ok).limits = some limits ∧ (atLevel .ok).suspended = false ∧ (atLevel .ok).level ≠ .blind ∧
      (atLevel .blind).level = .blind ∧ ({ atLevel .ok with suspended := true } : Grading).suspended = true ∧
      (atLevel .ok).level.rank < (limits.highClass 1200).rank ∧
      (limits.highClass 1199).rank ≤ (atLevel .ok).level.rank ∧
      (limits.lowClass 1049).rank < (atLevel .high).level.rank ∧
      (atLevel .high).level.rank ≤ (limits.lowClass 1050).rank := by decide +kernel

/-- A level change that leaves the grade (BLIND), and one that changes it; both inlets' and the cab's notices. -/
theorem test_hyps_ReadingMovesLevelByRuns_grades :
    quiet.holdsDistinct ∧ quiet.part = .running ∧ quiet.formGrade .cab = quiet.grader.grades.get .cab ∧
      (graded quiet .severe).formGrade .cab ≠ (graded quiet .severe).grader.grades.get .cab :=
  ⟨List.nodup_nil, by decide +kernel⟩

/-- R117: a cab that turns FOUL gives GRADE_CHANGED before HOLD_RAISED, in either order of the two deliveries. -/
theorem test_grade_change_in_either_order :
    [true, false].all (fun first =>
      let t := quiet.changeGrade first .cab .foul
      ((t.port.records.map RecordEntry.data).take 6 == [12, 2, 0, w16 (2 + 256 * 3), 1, 13]) &&
        t.hasHold .cabFoul && t.governor.view.grades.cab == .foul && t.purge.cause == some .cabFoul) = true := by
  decide +kernel

/-! ### Hypotheses: switches -/

theorem test_hyps_RawChangeDebounced :
    quiet.part = .running ∧ (true : Bool) ≠ (quiet.switch .doorFL).raw ∧ (true : Bool) ≠ (quiet.switch .doorFL).accepted ∧
      false ≠ ((switchIn .doorFL true false).switch .doorFL).raw ∧
      false = ((switchIn .doorFL true false).switch .doorFL).accepted ∧ State.reset.part ≠ .running := by
  decide +kernel

/-- The front left door accepted open, alone or with another, with a purge in a state. -/
def doorOpen (others : Bool) (p : Purge) : State :=
  let s := switchIn .doorFL false true
  { s with
    switches := { s.switches with openSet := #v[true, others, false, false, false], episodeStart := some 0 }
    purge := p, holds := [hold (.doorOpen .fl)], now := 6000 }

theorem test_hyps_DoorAcceptedOpensAndCloses :
    (switchIn .doorFL true false).holdsDistinct ∧ (doorOpen false (purgeIn .waitClose)).holdsDistinct ∧
      (SwitchId.doorFL, Door.fl) ∈ doorInputs ∧
      ((switchIn .doorFL true false).part = .running ∧
        (switchIn .doorFL true false).reached ((switchIn .doorFL true false).switch .doorFL).debounce = true ∧
        ((switchIn .doorFL true false).switch .doorFL).raw = true ∧
        (switchIn .doorFL true false).switches.openCount = 0) ∧
      (doorOpen false (purgeIn .waitClose)).part = .running ∧
      (doorOpen false (purgeIn .waitClose)).reached ((doorOpen false (purgeIn .waitClose)).switch .doorFL).debounce =
        true ∧
      ((doorOpen false (purgeIn .waitClose)).switch .doorFL).raw = false ∧
      (doorOpen true (purgeIn .waitClose)).switches.openCount = 2 :=
  ⟨List.nodup_nil, by simp [State.holdsDistinct, doorOpen], by decide +kernel⟩

/-- The exposure threshold, 5 s, and one ms less. -/
theorem test_hyps_DoorAcceptedOpensAndCloses_exposure :
    100 * lay.exposureThreshold ≤ (doorOpen false .reset).exposure ∧
      ({ doorOpen false .reset with now := 4999 } : State).exposure < 100 * lay.exposureThreshold := by decide +kernel

theorem test_hyps_EngineAcceptedGivesItsNotice :
    (switchIn .engineRun true false).part = .running ∧
      (switchIn .engineRun true false).reached ((switchIn .engineRun true false).switch .engineRun).debounce = true ∧
      ((switchIn .engineRun true false).switch .engineRun).raw = true ∧
      ((switchIn .engineRun false true).switch .engineRun).raw = false := by decide +kernel

/-- A press held long, and the press timer at its end. -/
def pressing (long : Bool) : State :=
  let s := switchIn .purgeButton false true
  { s with switches := { s.switches with pressDeadline := some 1000, pressBegan := some 0, longPressed := long } }

theorem test_hyps_ButtonPressTimedAndReleased :
    (pressing true).part = .running ∧ (pressing true).reached ((pressing true).switch .purgeButton).debounce = true ∧
      ((switchIn .purgeButton true false).switch .purgeButton).raw = true ∧
      ((pressing true).switch .purgeButton).raw = false ∧ (pressing true).switches.longPressed = true ∧
      (pressing false).switches.longPressed = false ∧ (pressing false).reached (pressing false).switches.pressDeadline = true := by
  decide +kernel

/-! ### Hypotheses: dampers and heat -/

theorem queued_mixCurrent_seven (x : Damper) : (queued 7 x).mixCurrent := fun _ => by rfl

theorem test_hyps_PlannedEndsSeatOrRest :
    (queued 7 (travelling .moving 100 .opening 50 1000)).mixCurrent ∧
      (queued 7 (travelling .moving 100 .opening 50 1000)).motionAgrees ∧
      (queued 7 (travelling .seating 0 .closing 0 1000)).motionAgrees ∧
      (queued 7 (travelling .moving 100 .opening 50 1000)).part = .running ∧
      ((queued 7 (travelling .moving 100 .opening 50 1000)).damper 7).plan.map Plan.ends = some 1000 ∧
      ((queued 7 (travelling .moving 100 .opening 50 1000)).damper 7).target = 100 ∧
      ((queued 7 (travelling .moving 60 .opening 50 1000)).damper 7).target = 60 ∧
      ((queued 7 (travelling .seating 0 .closing 0 1000)).damper 7).state = .seating :=
  ⟨queued_mixCurrent_seven _, fun _ => by decide +kernel, fun _ => by decide +kernel, by decide +kernel⟩

/-- Plans up, down and of distance 0; a damper seated at 100 and one reckoned at 0. -/
theorem test_hyps_PlannedEndsSeatOrRest_plans :
    (20 : Nat) < 60 ∧ (60 : Nat) ≤ 100 ∧ ((queued 7 (travelling .seating 100 .opening 100 1500)).damper 7).state = .seating ∧
      ((queued 7 (travelling .seating 100 .opening 100 1500)).damper 7).estimate = some 100 ∧
      ((queued 7 (travelling .moving 50 .opening 0 2000)).damper 7).state = .moving ∧
      (queued 7 (travelling .moving 50 .opening 0 2000)).reckoned 7 = 0 := by decide +kernel

theorem test_hyps_StallsAndHomingLimitsJudged :
    (queued 7 (travelling .moving 100 .opening 97 2000)).mixCurrent ∧
      (queued 7 (travelling .moving 100 .opening 97 2000)).motionAgrees ∧
      (queued 7 (travelling .homing 0 .closing 0 1000)).motionAgrees ∧
      (queued 7 (travelling .moving 100 .opening 97 2000)).reckoned 7 = 97 ∧
      (queued 7 (travelling .moving 100 .opening 96 2000)).reckoned 7 = 96 ∧
      (queued 7 (travelling .moving 0 .closing 3 2000)).reckoned 7 = 3 ∧
      (queued 7 (travelling .moving 0 .closing 4 2000)).reckoned 7 = 4 ∧
      ((queued 7 (travelling .homing 0 .closing 0 1000)).damper 7).state = .homing ∧
      ((queued 7 (travelling .homing 0 .closing 0 1000)).damper 7).plan.map Plan.ends = some 1000 ∧
      ((queued 7 (travelling .homing 5 .closing 0 1000)).damper 7).target ≠ 0 ∧ (7 : Fin 8) ≠ 0 :=
  ⟨queued_mixCurrent_seven _, fun _ => by decide +kernel, fun _ => by decide +kernel, by decide +kernel⟩

/-- Damper 7 (40 ms a percent) at the planned end of a plan of 20 percent, from `start`. -/
def atPlannedEnd (start target : Nat) (direction : Direction) : State :=
  { queued 7 { Damper.reset with
      state := .moving, estimate := some start, target := target
      plan := some { direction := direction, start := some start, distance := 20, began := 200, ends := 1000 } } with
    now := 1000 }

/-- R137: a stall taken first at the moment of the planned end: short of the stop's range the damper jams one percent short of
its target; with target 97 or 3 the stall is the stop. -/
theorem test_stall_at_planned_end :
    let jam := fun s => ((after (.stall 7) s).damper 7).jam
    let estimate := fun s => ((after (.stall 7) s).damper 7).estimate
    (jam (atPlannedEnd 40 60 .opening), estimate (atPlannedEnd 40 60 .opening)) = (some .stall, some 59) ∧
      (jam (atPlannedEnd 40 20 .closing), estimate (atPlannedEnd 40 20 .closing)) = (some .stall, some 21) ∧
      (jam (atPlannedEnd 77 97 .opening), estimate (atPlannedEnd 77 97 .opening)) = (none, some 100) ∧
      (jam (atPlannedEnd 76 96 .opening), estimate (atPlannedEnd 76 96 .opening)) = (some .stall, some 95) ∧
      (jam (atPlannedEnd 23 3 .closing), estimate (atPlannedEnd 23 3 .closing)) = (none, some 0) := by decide +kernel

/-- R135, R136: a damper re-planned at 100 toward 100 is pressed against the open stop. -/
theorem test_replan_at_open_stop :
    ((queued 7 (travelling .seating 0 .closing 100 1500)).takeTarget State.recompute none 7 100).driven 7 = some .opening ∧
      ((queued 7 (travelling .seating 100 .opening 0 1500)).takeTarget State.recompute none 7 0).driven 7 =
        some .closing := by decide +kernel

/-- R130: the jam of FRONT's zone damper (4) reaches its SETTLE order before the hold that ends it: the end record carries
DAMPER_JAMMED (and the SOURCE_DENIED of the recompute) with HOLD_ENDED, while another watched damper still waits. -/
theorem test_hold_ended_by_jam_carries_flag :
    let s := (queued 4 (travelling .moving 100 .opening 20 9000)).setLane .front
      (laneIn .settle (some (order (some { fields false with stopOnHold := true }))))
    let t := after (.stall 4) s
    (t.port.records.map RecordEntry.addr).contains 0x205 = true ∧
      (t.port.records.find? (fun e => e.addr == 0x205)).map RecordEntry.data = some (w16 (7 + 32 + 128)) := by decide +kernel

/-- A JAMMED damper that the service argument names, and one past the last. -/
def jammed (n : Nat) : State :=
  { queued 7 { Damper.reset with state := .jammed, jam := some .stall } with
    serviceArg := w16 n, holds := [hold (.damperJam 7)] }

theorem test_hyps_ClearJamQueuesForHoming :
    (jammed 7).holdsDistinct ∧ (jammed 7).motionAgrees ∧ (jammed 7).part = .running ∧
      (jammed 7).atGrant.serviceArg.toNat = (7 : Fin 8).val ∧ ((jammed 7).atGrant.damper 7).state = .jammed ∧
      ∀ d : Fin 8, (jammed 8).atGrant.serviceArg.toNat ≠ d.val :=
  ⟨by simp [State.holdsDistinct, jammed], fun _ => by decide +kernel, by decide +kernel⟩

/-- The quiet part with the heat unit's record. -/
def heated (h : HeatUnit) : State := { quiet with heat := h }

theorem test_hyps_TachMeasuresBlowerSpeed :
    (heated { HeatUnit.reset with lastPulse := some 0 }).heat.lastPulse = some 0 ∧
      1000 ≤ (heated { HeatUnit.reset with lastPulse := some 0 }).now - 0 ∧ quiet.heat.lastPulse = none ∧
      quiet.heat.watch = .idle ∧
      (heated { HeatUnit.reset with lastPulse := some 0, watch := .timing 2000 }).heat.watch = .timing 2000 ∧
      (heated { HeatUnit.reset with watch := .spent }).heat.watch = .spent := by decide +kernel

theorem test_hyps_BlowerWatchRunsOutAndIsCleared :
    (heated { HeatUnit.reset with watch := .timing 1000 }).part = .running ∧
      (heated { HeatUnit.reset with watch := .timing 1000 }).heat.watch = .timing 1000 ∧
      1000 ≤ (heated { HeatUnit.reset with watch := .timing 1000 }).now ∧
      (heated { HeatUnit.reset with watch := .timing 1000 }).stagesBounded ∧ quiet.holdsDistinct :=
  ⟨rfl, rfl, by decide +kernel, fun _ => by decide +kernel, List.nodup_nil⟩

/-- Two stages wanted and none on, with the stage-up timer at its end; a restore timer at its end. -/
def staging (allowed : Nat) : State :=
  heated { HeatUnit.reset with
    demand := 50, allowed := allowed, stageUpTimer := some 1000
    restore := some { candidate := if allowed = 0 then 2 else 0, deadline := 1000 } }

theorem test_hyps_StageUpAndRestoreTimersExpire :
    (staging 2).holdsDistinct ∧ (staging 2).stagesBounded ∧ (staging 0).stagesBounded ∧ (staging 2).part = .running ∧
      (staging 2).heat.stageUpTimer = some 1000 ∧ 1000 ≤ (staging 2).now ∧
      (staging 2).heat.energised < (staging 2).stageLimit ∧ (staging 2).heat.verify = none ∧
      lowestOff (staging 2).heat.stages = some 0 ∧ (staging 0).stageLimit ≤ (staging 0).heat.energised ∧
      (staging 2).heat.restore = some { candidate := 0, deadline := 1000 } ∧
      (staging 0).heat.restore = some { candidate := 2, deadline := 1000 } :=
  ⟨List.nodup_nil, fun _ => by decide +kernel, fun _ => by decide +kernel, by decide +kernel⟩

/-- A verify of a stage ON with a result at and below its baseline with the step (80), and of a stage OFF; readings at the
levels A (2900) and B (2600) and below them, with an allowed count of 2, first and not. -/
theorem test_hyps_StageUpAndRestoreTimersExpire_readings :
    let h := { HeatUnit.reset with
      allowed := 2, firstReading := false, stages := #v[.on, .off, .off, .off], verify := some ⟨0, 600⟩ }
    h.stages.get 0 = .on ∧ h.stages.get 1 ≠ .on ∧ 679 < 600 + lay.stageStep ∧ ¬ 680 < 600 + lay.stageStep ∧
      [2900, 2899, 2600, 2599].map (fun r => lay.voltClass r false) = [4, 2, 2, 0] ∧ lay.voltClass 4000 true = 0 ∧
      HeatUnit.reset.firstReading = true := by decide +kernel

/-! ### Hypotheses: the memory port -/

theorem test_hyps_HostWritesForwardedOrAbsorbed :
    quiet.atGrant.ramCanonical ∧ quiet.port.held = none ∧ quiet.port.hostPassed = false ∧
      State.reset.atGrant.part = .reset ∧ (loadingIn .layout []).atGrant.part = .loading ∧
      ({ State.reset with part := .fault } : State).atGrant.part = .fault ∧ draining.atGrant.part = .draining ∧
      quiet.atGrant.part = .running ∧ quiet.atGrant.wordClass 0x3F = .layout ∧
      quiet.atGrant.wordClass 0x40 = .service ∧ quiet.atGrant.wordClass 0x42 = .guarded ∧
      quiet.atGrant.wordClass 0x44 = .plain ∧ (⟨0, false⟩ : RamWord).parityOk = false :=
  ⟨rfl, by decide +kernel⟩

/-- A guarded slot in its ring, a word of no region, and a part whose draining is complete. -/
theorem test_hyps_HostWritesForwardedOrAbsorbed_map :
    quiet.layout = some lay ∧ lay.regionsOk = true ∧ (LaneId.front, 3).2 < (lay.rings.get .front).size ∧
      drained.part = .draining ∧ drained.port.drained = true ∧ drained.port.held = none ∧
      drained.port.hostPassed = false ∧ draining.port.drained = false := by decide +kernel

/-- R167: a host write after the last cycle of draining finds the part in LOADING, where RESTART is taken; one before it does
not. -/
theorem test_write_after_draining :
    (after (.hostWrite 0x40 (word 1)) drained).part = .loading ∧
      ((after (.hostWrite 0x40 (word 1)) drained).port.records.map RecordEntry.data) = [1, 0, 0, 1, 0] ∧
      (after (.hostWrite 0x40 (word 1)) draining).part = .draining := by decide +kernel

/-- The first and last words of the lane control block, the event ring and the images. -/
theorem test_window_map :
    [0x100, 0x101, 0x102, 0x10B, 0x10C, 0x2FF, 0x300, 0x301, 0x302, 0x321, 0x322, 0x400, 0x41F, 0x440, 0x49F, 0x4A0,
      0x500, 0x517, 0x518].map quiet.wordClass =
      [.snooped (.producer .front), .snooped (.command .front), .guarded, .guarded, .plain, .plain, .guarded,
        .snooped .consumer, .guarded, .guarded, .plain, .guarded, .guarded, .guarded, .guarded, .plain,
        .snooped (.threshold 0), .snooped (.threshold 23), .plain] := by decide +kernel

/-- Two unread records: the values 2 and 3, with and without lost events. -/
def losing (n : Nat) : State := { quiet with events := { quiet.events with producer := 2, overrun := n } }

theorem test_hyps_ConsumerWriteTakenOrAbsorbed :
    (losing 5).takesHost lay ∧ (losing 5).atGrant.indexesBounded ∧ (losing 5).atGrant.unread = 2 ∧
      (2 + lay.eventSize - (losing 5).atGrant.events.consumer) % lay.eventSize ≤ (losing 5).atGrant.unread ∧
      ¬ (3 + lay.eventSize - (losing 5).atGrant.events.consumer) % lay.eventSize ≤ (losing 5).atGrant.unread ∧
      0 < (losing 5).atGrant.events.overrun ∧ (losing 0).atGrant.events.overrun = 0 :=
  ⟨⟨rfl, by decide +kernel, rfl⟩, fun _ => ⟨fun l => by cases l <;> decide +kernel, by decide +kernel⟩, by decide +kernel⟩

/-- R176: value 1 frees a record after five lost events: OVERRUN, with the count, follows. The value 2 of no lost events
frees both records and queues nothing. -/
theorem test_overrun_record :
    (after (.eventConsumerWrite 1) (losing 5)).port.records.map RecordEntry.data = [28, 0, 0, 5, 3] ∧
      (after (.eventConsumerWrite 1) (losing 5)).events.overrun = 0 ∧
      (after (.eventConsumerWrite 2) (losing 0)).port.records = [] ∧
      (after (.eventConsumerWrite 2) (losing 0)).events.consumer = 2 := by decide +kernel

/-- One read, one record and one image write, with the pointer at a source. -/
def portWith (x : Source) (p : Placer) : State :=
  { frontIn .fetch (some (order none)) with port := { quiet.port with
      reads := [⟨0x200, p⟩], records := [⟨0x203, 7, .endTag .front 0⟩], images := [⟨0x440, 3⟩], pointer := x } }

theorem test_hyps_FetchReadGoesToItsPlacer :
    (portWith .fetch (.lane .front)).port.held = none ∧ (portWith .fetch (.lane .front)).port.canAdmit = false ∧
      (portWith .fetch (.lane .front)).port.reads = [⟨0x200, .lane .front⟩] ∧
      (portWith .fetch (.lane .front)).port.turn = some .fetch ∧
      ((portWith .fetch (.lane .front)).lanes.get .front).order = some (order none) ∧
      (portWith .fetch .loader).port.reads = [⟨0x200, .loader⟩] ∧
      abandonedRead.port.turn = some .fetch ∧ abandonedRead.loader.phase = .abandoned := by decide +kernel

theorem test_hyps_QueuedWritesReachMemory :
    (portWith .record .loader).ramCanonical ∧ (portWith .record .loader).port.records = [⟨0x203, 7, .endTag .front 0⟩] ∧
      (portWith .record .loader).port.turn = some .record ∧ (portWith .image .loader).port.turn = some .image ∧
      (portWith .image .loader).port.images = [⟨0x440, 3⟩] ∧ writeWaits.port.waiting = [⟨0x900, 0, .lastInitial⟩] ∧
      (quiet.port.records.length < 32) :=
  ⟨rfl, by decide +kernel⟩

/-- A held read with an image flush, a record flush, and none owed. -/
def holding (image : Bool) (records : Nat) : State :=
  { portWith .fetch .loader with port := { (portWith .fetch .loader).port with held := some ⟨0x440, image, records⟩ } }

theorem test_hyps_HeldReadFlushedThenGranted :
    (holding true 1).ramCanonical ∧ (holding true 1).port.held = some ⟨0x440, true, 1⟩ ∧
      (holding true 1).port.images.find? (fun x => x.addr == 0x440) = some ⟨0x440, 3⟩ ∧
      (holding false 1).port.held = some ⟨0x440, false, 1⟩ ∧
      (holding false 1).port.records = [⟨0x203, 7, .endTag .front 0⟩] ∧
      (holding false 0).port.held = some ⟨0x440, false, 0⟩ :=
  ⟨rfl, by decide +kernel⟩

theorem test_hyps_HostReadHeldOrForwarded :
    (portWith .fetch .loader).port.held = none ∧ (∃ e ∈ (portWith .fetch .loader).port.images, e.addr = 0x440) ∧
      (∃ e ∈ (portWith .fetch .loader).port.writes, e.addr = 0x203) ∧
      (¬ ∃ e ∈ (portWith .fetch .loader).port.writes, e.addr = 0x204) ∧
      (portWith .fetch .loader).port.hostPassed = false ∧
      drained.part = .draining ∧ drained.port.drained = true ∧ (0x44 : Word) ≠ 0x42 ∧ (0x44 : Word) ≠ 0x43 := by
  decide +kernel

/-! ### Hypotheses: what goes before a host cycle (log 10) -/

theorem test_hyps_portSettled : quiet.portSettled ∧ (portWith .fetch .loader).portSettled :=
  ⟨⟨by decide +kernel, by decide +kernel, by decide +kernel, by decide +kernel, fun _ l => by cases l <;> decide +kernel⟩,
    by decide +kernel, by decide +kernel, by decide +kernel, by decide +kernel, fun _ l => by cases l <;> decide +kernel⟩

theorem test_hyps_PortTakes :
    drained.PortTakes (after .drainingComplete drained) ∧
      (loadingIn .layout block).PortTakes (after .layoutReadComplete (loadingIn .layout block)) ∧
      thresholdsRead.PortTakes (after .thresholdReadComplete thresholdsRead) ∧
      written.PortTakes (after .runningEntry written) ∧
      (fetched orderWords false).PortTakes (after (.orderFetchComplete .front) (fetched orderWords false)) := by
  refine ⟨⟨?_, ?_, .drainingComplete, rfl, ?_⟩, ⟨?_, ?_, .layoutReadComplete, rfl, ?_⟩,
    ⟨?_, ?_, .thresholdReadComplete, rfl, ?_⟩, ⟨?_, ?_, .runningEntry, rfl, ?_⟩,
    ⟨?_, ?_, .orderFetchComplete .front, rfl, .inr (.inr (.inr (.inr ⟨.front, rfl, fun m h => ?_⟩)))⟩⟩
  any_goals decide +kernel
  all_goals first | simp | (cases m <;> first | exact absurd rfl h | decide +kernel)

/-- The host-passed mark is set, and one source has work. -/
def passed (reads : List ReadRequest) (records : List RecordEntry) (images : List ImageEntry) : State :=
  { quiet with port := { quiet.port with hostPassed := true, reads := reads, records := records, images := images } }

theorem test_hyps_PortYields :
    (passed [⟨0, .loader⟩] [] []).PortYields (after .fetchReadDone (passed [⟨0, .loader⟩] [] [])) ∧
      (passed [] [⟨0x900, 1, .plain⟩] []).PortYields (after .recordQueueWrite (passed [] [⟨0x900, 1, .plain⟩] [])) ∧
      (passed [] [] [⟨0x440, 1⟩]).PortYields (after .imageSetWrite (passed [] [] [⟨0x440, 1⟩])) ∧
      (passed [] [] [⟨0x440, 1⟩]).port.pendingWrite 0x441 = false := by
  refine ⟨⟨⟨?_, ?_, ?_, ?_, fun _ l => by cases l <;> decide +kernel⟩, ?_, ?_, ?_, ?_, .fetchReadDone, rfl, ?_⟩,
    ⟨⟨?_, ?_, ?_, ?_, fun _ l => by cases l <;> decide +kernel⟩, ?_, ?_, ?_, ?_, .recordQueueWrite, rfl, ?_⟩,
    ⟨⟨?_, ?_, ?_, ?_, fun _ l => by cases l <;> decide +kernel⟩, ?_, ?_, ?_, ?_, .imageSetWrite, rfl, ?_⟩, ?_⟩
  any_goals decide +kernel
  all_goals simp

/-- LOADING with the host-passed mark set and the last layout read still to make: word 63 of memory then fails the sum. -/
def lastRead : State :=
  { loadingIn .layout (block.take 63) with port := { State.reset.port with hostPassed := true, reads := [⟨63, .loader⟩] } }

/-- LOADING with the host-passed mark set and the last initial write still to make. -/
def lastWrite : State :=
  { written with port := { written.port with hostPassed := true, records := [⟨0x49F, 0, .lastInitial⟩] } }

/-- A yielded cycle that leaves the port settled, and one that brings the initial writes to their end (R170). -/
theorem test_hyps_PortYields_settled :
    (after .imageSetWrite (passed [] [] [⟨0x440, 1⟩])).portSettled ∧
      lastWrite.PortYields (after .recordQueueWrite lastWrite) ∧ lastWrite.port.pendingWrite 0x42 = false ∧
      ¬ (after .recordQueueWrite lastWrite).portSettled := by
  refine ⟨⟨?_, ?_, ?_, ?_, fun _ l => by cases l <;> decide +kernel⟩,
    ⟨⟨?_, ?_, ?_, ?_, fun h => absurd h (by decide +kernel)⟩, ?_, ?_, ?_, ?_, .recordQueueWrite, rfl, .inr (.inl rfl)⟩,
    ?_, fun h => absurd h.2.2.2.1 (by decide +kernel)⟩
  all_goals decide +kernel

/-- R161, R169, R170: the last layout read and the last initial write, made before a host cycle, bring FAULT and RUNNING
before it: the fault's words are guarded, and a read of the part state word that found no write on its arrival is not
held for the new one (R166). -/
theorem test_host_cycle_behind_last_cycle :
    (after (.hostWrite 0x42 (word 9)) lastRead).part = .fault ∧
      (after (.hostWrite 0x42 (word 9)) lastRead).port.ram.read 0x42 = word 0 ∧
      (after (.hostWrite 0x102 (word 9)) lastWrite).part = .running ∧
      (after (.hostWrite 0x102 (word 9)) lastWrite).port.ram.read 0x102 = word 0 ∧
      (after (.hostRead 0x42) lastWrite).part = .running ∧ (after (.hostRead 0x42) lastWrite).port.held = none := by
  decide +kernel

/-- R13, R161: the eighth fetch read, made before an ABORT, starts the order that the ABORT then ends. -/
theorem test_abort_behind_last_fetch_read :
    let s := { fetched (orderWords.take 7) false with port := { quiet.port with
      hostPassed := true, reads := [⟨0x207, .lane .front⟩] } }
    let t := after (.abort .front) s
    (t.lanes.get .front).state = .stopped ∧ (t.port.records.take 2).map RecordEntry.addr = [0x205, 0x206] := by
  decide +kernel

/-! ### Hypotheses: the Governor and the frames -/

/-- An order in force; a door open; a purge in RUN; the engine off. -/
def governed (keys : List HoldKey) : State :=
  { frontIn .dwell (some (order (some (fields false)))) with
    holds := keys.map hold
    governor := { quiet.governor with view := { quiet.governor.view with purge := .run } } }

theorem test_hyps_BlowerFollowsBaseFloorsAndCap :
    ((governed []).lanes.get .front).inForce = some (fields false) ∧ (fields false).blower = 40 ∧
      (quiet.lanes.get .front).inForce = none ∧ (quiet.lanes.get .crew).inForce = none ∧
      (quiet.lanes.get .screen).inForce = none ∧ (governed [.doorOpen .fl]).hasHold (.doorOpen .fl) = true ∧
      (governed [.purge]).hasHold .purge = true ∧ (governed [.purge]).governor.view.purge = .run ∧
      (governed [.engineOff]).hasHold .engineOff = true := by decide +kernel

/-- A view in which both inlets are homed, jam-free and of grade SUSPECT, with the record it gives. -/
def viewed (keys : List HoldKey) (roof : InletView) : State :=
  let s := governed keys
  let s := { s with governor := { s.governor with view := { s.governor.view with
    grades := ⟨.suspect, .suspect, .clean⟩, roofDamper := roof } } }
  { s with governor := { s.governor with mix := (s.nextMix none).1, chosen := (s.nextMix none).2 } }

def homed : InletView := { jammed := false, estimate := some 0, cleared := false }

theorem test_hyps_MixRecordKeepsInletRules :
    (viewed [] homed).mixCurrent ∧ (viewed [.inletBarred .roof] homed).mixCurrent ∧
      (viewed [.purge] homed).mixCurrent ∧ (viewed [] homed).part = .running ∧
      0 < (viewed [] homed).governor.mix.roof ∧ (viewed [] homed).governor.view.inletGrade .roof ≠ .clean ∧
      (viewed [.inletBarred .roof] homed).hasHold (.inletBarred .roof) = true ∧
      ((viewed [] { homed with jammed := true }).governor.view.inlet .roof).jammed = true ∧
      ((viewed [] .reset).governor.view.inlet .roof).estimate = none ∧
      (viewed [.cabFoul] homed).hasHold .cabFoul = true ∧ (viewed [.purge] homed).governor.view.purge = .run := by
  refine ⟨?_, ?_, ?_, by decide +kernel⟩ <;> exact fun _ => by decide +kernel

/-- The Governor's view: the purge's state, its inlet and its origin, both inlets homed, roof air SUSPECT; one order in
force, for fresh air. -/
def seen (keys : List HoldKey) (x : PurgeState) (origin : Option PurgeState) : State :=
  let s := governed keys
  { s with governor := { s.governor with
      mix := { s.governor.mix with relief := 40 }
      view := { s.governor.view with
        grades := ⟨.suspect, .clean, .clean⟩, purge := x, purgeInlet := some .roof, purgeOrigin := origin
        roofDamper := homed, bumperDamper := homed } } }

/-- Each case of the source: the purge in RUN, in SCRUB, and in VERIFY from each; a door; none of them; the blend. -/
theorem test_hyps_MixRecordKeepsInletRules_cases :
    [PurgeState.run, .scrub, .verify].all (fun x =>
      (seen [.purge] x none).hasHold .purge && (seen [.purge] x none).governor.view.purge == x) = true ∧
      (seen [.purge] .verify (some .run)).governor.view.purgeOrigin = some .run ∧
      (seen [.purge] .verify (some .scrub)).governor.view.purgeOrigin = some .scrub ∧
      (seen [.doorOpen .cl] .idle none).hasHold (.doorOpen .cl) = true ∧
      (seen [] .idle none).hasHold .purge = false ∧ (∀ d, (seen [] .idle none).hasHold (.doorOpen d) = false) ∧
      (seen [.heatShed] .idle none).hasHold .heatShed = true ∧ (seen [.engineOff] .idle none).hasHold .engineOff = true ∧
      (seen [] .idle none).lay.ranksOk = true ∧ ((seen [] .idle none).lanes.get .front).inForce = some (fields false) := by
  refine ⟨?_, ?_, ?_, ?_, ?_, fun d => ?_, ?_, ?_, ?_, ?_⟩
  case refine_6 => cases d <;> decide +kernel
  all_goals decide +kernel

/-- The inlets: both allowed, the first barred, both barred; so the order for fresh air is satisfiable or not. -/
theorem test_hyps_MixRecordKeepsInletRules_inlets :
    (seen [] .run none).InletAllowed .roof ∧ (seen [] .run none).Satisfiable .freshAny ∧
      ¬ (seen [.inletBarred .roof] .run none).InletAllowed .roof ∧
      (seen [.inletBarred .roof] .run none).InletAllowed .bumper ∧
      ¬ (seen [.inletBarred .roof, .inletBarred .bumper] .idle none).Satisfiable .freshAny := by
  refine ⟨?_, .inl ?_, fun h => ?_, ?_, fun h => h.elim (fun h => ?_) (fun h => ?_)⟩
  case refine_3 => exact absurd h.1 (by decide +kernel)
  case refine_5 => exact absurd h.1 (by decide +kernel)
  case refine_6 => exact absurd h.1 (by decide +kernel)
  all_goals exact ⟨by decide +kernel, by decide +kernel, by decide +kernel⟩

/-- Each chosen source; a filtered pressure at both ends of the band and one beyond each; a lane that wants heat. -/
theorem test_hyps_MixRecordKeepsInletRules_values :
    ((seen [] .idle none).nextMix none).2 = .freshRoof ∧
      ((seen [.inletBarred .roof] .idle none).nextMix none).2 = .freshBumper ∧
      ((seen [.purge] .scrub none).nextMix none).2 = .recirc ∧
      (lay.dpSetpoint, lay.dpBand, lay.reliefStep) = (2048, 100, 5) ∧
      ([2149, 2148, 1948, 1947].map (fun f => ((seen [] .idle none).nextMix (some f)).1.relief)) = [45, 40, 40, 35] := by
  decide +kernel

/-- CAB_TEMP reads 500 and FRONT's order has a target of 510: it wants heat. -/
def cold : State :=
  let s := seen [] .idle none
  let o := order (some { fields false with targetPresent := true, target := 510 })
  let c := { s.channel LaneId.front.channel with window := [500] }
  { s.setLane .front { s.lanes.get .front with order := some o } with
    scanner := { s.scanner with channels := vset s.scanner.channels LaneId.front.channel c } }

theorem test_hyps_MixRecordKeepsInletRules_heat :
    (cold.channel LaneId.front.channel).filtered = some 500 ∧ (cold.channel LaneId.front.channel).isOpen = false ∧
      (cold.nextMix none).1.heat = (510 - 500) * lay.heatGain / 4 ∧ cold.part = .running := by decide +kernel

theorem test_hyps_TimedCommandsKeepTheRest :
    (∃ t, exec (.settleTimerExpiry .front) ticking = .next t) ∧ (∃ t, exec .purgeTimerExpiry quiet = .next t) ∧
      ∃ t, exec (.debounceTimerExpiry .engineRun) (switchIn .engineRun true false) = .next t :=
  ⟨⟨_, rfl⟩, ⟨_, rfl⟩, ⟨_, rfl⟩⟩

/-- A part in RUNNING that meets every invariant, with a command that acts. -/
def sound : State :=
  { queued 7 (travelling .moving 100 .opening 50 1000) with pending := [.movingPlannedEnd 7] }

theorem sound_layout : sound.layoutSound ∧ sound.indexesBounded := by
  refine ⟨⟨fun L h => ?_, fun _ => rfl⟩, fun _ => ⟨fun l => ?_, by decide +kernel⟩⟩
  · cases h
    decide +kernel
  · cases l <;> decide +kernel

theorem sound_grants : sound.grantsBounded ∧ sound.motionAgrees ∧ sound.stagesBounded ∧ sound.doorsAgree :=
  ⟨⟨fun _ => by decide +kernel, fun h => absurd rfl h⟩, by
    refine ⟨?_, ?_, ?_⟩ <;> exact fun _ => by decide +kernel⟩

theorem sound_orders : sound.ordersAgree ∧ sound.spotsAgree := by
  refine ⟨fun _ l => ?_, fun _ => by decide +kernel⟩
  cases l
  · exact .inr (.inl rfl)
  · exact .inr (.inl rfl)
  · exact .inl rfl

theorem test_hyps_StepKeeps :
    (∃ t, step sound = .next t) ∧ sound.part = .running ∧ sound.ramCanonical ∧ sound.queuesBounded ∧
      sound.holdsDistinct ∧ sound.holdsOnlyRunning ∧ sound.purgeHeld ∧ sound.mixCurrent ∧ sound.sourceWhole := by
  refine ⟨⟨_, rfl⟩, rfl, rfl, ?_, List.nodup_nil, fun h => absurd rfl h, fun _ => ?_, fun _ => rfl, ?_⟩
  · exact ⟨by decide +kernel, List.nodup_nil⟩
  · exact ⟨by decide +kernel, fun r h => by cases h⟩
  · exact ⟨by decide +kernel, fun L h => by cases h; decide +kernel⟩

/-! ### Worked steps of the spec -/

/-- R169: the sum word for a sum of 0x3A7C. -/
theorem test_sum_word : sumOf [⟨0x3A7C, false⟩, ⟨0xC584, false⟩] = 0 := by decide

/-- R112: limits 1200 and 2000, margin 150: the classes of 1900 and 1100. -/
theorem test_classes_of_readings :
    (limits.highClass 1900, limits.lowClass 1900) = (.high, .severe) ∧
      (limits.highClass 1100, limits.lowClass 1100) = (.ok, .high) := by decide

/-- R48: target 1800, filtered value 1712, then 1640, gain 3. -/
def heating (v : Nat) : State :=
  let s := quiet.setLane .crew (laneIn .dwell (some (order (some { fields false with targetPresent := true, target := 1800 }))))
  { s with
    layout := some { lay with heatGain := 3 }
    scanner := { s.scanner with channels := vset s.scanner.channels 9 { Channel.reset with window := [v] } } }

theorem test_lane_heat : (heating 1712).laneHeat .crew = 66 ∧ (heating 1640).laneHeat .crew = 100 := by decide +kernel

/-- R68, R165: a release at position 1 of four records queues seven words, the count first. -/
theorem test_hold_release_words :
    let keys : List HoldKey := [.inletBarred .roof, .doorOpen .cl, .purge, .doorOpen .fl]
    let s : State := { quiet with holds := keys.map hold }
    ((s.takeRelease (.doorOpen .cl)).port.images.filter (fun e => decide (0x440 + 33 ≤ e.addr))).map ImageEntry.addr =
      [0x440 + 33, 0x440 + 36, 0x440 + 37, 0x440 + 38, 0x440 + 39, 0x440 + 40, 0x440 + 41] := by decide +kernel

/-- 8.9: CREW (damper 5) moves from 20 toward 60 at 100 ms a percent and stalls after 1200 ms. -/
def crewMoving : State :=
  { damperIn 5 { Damper.reset with
      state := .moving, estimate := some 20, target := 60
      plan := some { direction := .opening, start := some 20, distance := 40, began := 0, ends := 4000 } } with now := 1200 }

theorem test_stall_jams_at_32 :
    ((after (.stall 5) crewMoving).damper 5).state = .jammed ∧
      ((after (.stall 5) crewMoving).damper 5).estimate = some 32 ∧
      (after (.stall 5) crewMoving).hasHold (.damperJam 5) = true ∧
      (after (.stall 5) crewMoving).events.lamp = .slowFlash := by decide +kernel

/-- 8.9: RELIEF (damper 7), 40 ms a percent, re-planned from 2 after 100 ms of its way to 5. -/
theorem test_replan_from_reckoned :
    let s := { damperIn 7 { travelling .moving 5 .opening 0 200 with
      plan := some { direction := .opening, start := some 0, distance := 5, began := 900, ends := 1100 } } with now := 1000 }
    ((s.takeTarget State.recompute none 7 10).damper 7).plan =
      some { direction := .opening, start := some 2, distance := 8, began := 1000, ends := 1320 } := by decide +kernel

/-- 9.7: a demand of 80 without coolant wants four stages, and the first is energised at once. -/
theorem test_stage_up : (((heated { HeatUnit.reset with allowed := 4 }).handHeat 80).heat.stages, wantedStages 80 false) =
    (#v[.on, .off, .off, .off], 4) := by decide +kernel

/-- 9.7: stage 3 reads 615 over a baseline of 600 and becomes DEAD. -/
theorem test_stage_dies :
    let h := { HeatUnit.reset with
      allowed := 4, demand := 80, stages := #v[.on, .on, .on, .off], stageUpTimer := some 3000
      verify := some { stage := 2, baseline := 600 } }
    ((heated h).deliverHeat ⟨15, 615, false⟩).heat.stages = #v[.on, .on, .dead, .off] := by decide +kernel

/-- 9.7: the third reading of class 2 takes the allowed count from 4 to 2 and stage 4 off. -/
theorem test_voltage_dip :
    let h := { HeatUnit.reset with
      allowed := 4, demand := 80, stages := #v[.on, .on, .dead, .on], firstReading := false, lowerRun := 2
      lowerHighest := 2 }
    let t := (heated h).voltReading 2700 false
    (t.heat.allowed, t.heat.stages, t.heat.lowerRun) = (2, #v[.on, .on, .dead, .off], 0) := by decide +kernel

/-- 12.7: P = 2, C = 3, four events lost, and 6 written to the consumer word. -/
theorem test_overrun_reported :
    let s := { quiet with events := { quiet.events with producer := 2, consumer := 3, overrun := 4 } }
    let t := after (.eventConsumerWrite 6) s
    (t.events.producer, t.events.consumer, t.events.overrun, t.unread) = (3, 6, 0, 5) ∧
      t.port.records.map RecordEntry.data = [28, 0, 0, 4, 3] := by decide +kernel

/-- 12.7: a write of 9 is refused and itself counted. -/
theorem test_consumer_refused :
    let s := { quiet with events := { quiet.events with producer := 2, consumer := 3, overrun := 4 } }
    ((after (.eventConsumerWrite 9) s).events.consumer, (after (.eventConsumerWrite 9) s).events.overrun) = (3, 5) := by
  decide +kernel

/-- 7.6: the last of two doors is accepted closed 10991 ms after the first was opened. -/
theorem test_episode_ends_with_purge :
    let s := switchIn .doorCL false true
    let s := { s with
      now := 11040, switches := { s.switches with openSet := #v[false, false, true, false, false], episodeStart := some 49 }
      purge := { Purge.reset with doorOpen := true }, holds := [hold (.doorOpen .cl)] }
    let t := after (.debounceTimerExpiry .doorCL) s
    (t.port.records.take 4).map RecordEntry.data = [16, 0x8002, 0, 109] ∧ t.purge.state = .scrub ∧
      t.purge.cause = some .doors ∧ t.holds.map HoldRecord.key = [.purge] := by decide +kernel

/-- 10.8: a read behind an order end: the five flushes write what stands before it, and the read returns 5. -/
def behind : State :=
  { quiet with port := { quiet.port with
      records := [⟨0x900, 1, .plain⟩, ⟨0x901, 2, .plain⟩, ⟨0x265, 2, .plain⟩, ⟨0x267, 9, .endTag .crew 4⟩,
        ⟨0x106, 5, .plain⟩, ⟨0x300, 1, .plain⟩]
      images := [⟨0x40C, 3⟩], guards := [(.crew, 4)] } }

theorem test_read_held_behind_order_end :
    let h := after (.hostReadHeld 0x106) behind
    let f := [Instr.readFlushWrite, .readFlushWrite, .readFlushWrite, .readFlushWrite, .readFlushWrite].foldl
      (fun s c => after c s) h
    let t := after .heldReadGranted f
    h.port.held = some ⟨0x106, false, 5⟩ ∧ f.port.guards = [] ∧ t.port.lastRead = some (0x106, word 5) ∧
      t.port.records.length = 1 ∧ t.port.images = [⟨0x40C, 3⟩] ∧ t.waitLine = false := by decide +kernel

/-- R170: the entry to RUNNING homes the first dampers of the queue and raises START_DONE after the three holds. -/
theorem test_running_entry :
    let t := after .runningEntry written
    t.holds.map HoldRecord.key = [.inletBarred .roof, .inletBarred .bumper, .engineOff] ∧
      (t.damper 0).state = .homing ∧ (t.damper 1).state = .homing ∧ (t.damper 2).state = .waiting ∧
      t.events.producer = 4 ∧ t.scanner.conversion = some { channel := 6, began := 0 } := by decide +kernel

/-- R4, R27: of the lane control block the entry to RUNNING queues the consumer words alone, each 0. -/
theorem test_running_entry_queues_consumer_words :
    ((after .runningEntry written).port.writes.filter (fun e => decide (0x100 ≤ e.addr ∧ e.addr < 0x10C))).map
      (fun e => (e.addr, e.data)) = [(0x102, 0), (0x106, 0), (0x10A, 0)] := by decide +kernel

/-- R13, R14: a fetched order starts and presents its demand. -/
theorem test_order_starts :
    let t := after (.orderFetchComplete .front) (fetched orderWords false)
    (t.lanes.get .front).state = .settle ∧ t.governor.mix.zones.front = 50 ∧ t.governor.mix.blower = 40 ∧
      (t.port.records.take 2).map RecordEntry.addr = [0x205, 0x206] := by decide +kernel

/-- R105: a lane in CHECK awaits no spot once the part is in DRAINING. -/
theorem test_restart_awaits_no_spot :
    let t := after .restart (checking [4, 5] false 0)
    (t.lanes.get .front).state = .check ∧ (t.lanes.get .front).order.map ActiveOrder.awaited = some [] := by
  decide +kernel

/-- R172: RESTART in RUNNING leaves DRAINING with the write-back and the part state queued. -/
theorem test_restart_drains :
    (after .restart quiet).part = .draining ∧
      (after .restart quiet).port.records = [⟨0x40, 0, .plain⟩, ⟨0x42, 4, .plain⟩] := by decide +kernel

end Sys2Proof.Tests
end

section
/-! PROOFS. START (R7): the passages from STOPPED to FETCH and to IDLE, what a recompute leaves of them, and a taken or
refused lane command. -/

namespace Sys2Proof.Machine

/-! ### What `State.still` keeps -/

theorem lane_still_of_still {s t : State} (h : t.still = s.still) (l : LaneId) :
    (t.lanes.get l).still = (s.lanes.get l).still := by
  have lanes := congrArg Still.lanes h
  cases l
  · exact congrArg PerLane.front lanes
  · exact congrArg PerLane.crew lanes
  · exact congrArg PerLane.screen lanes

/-- A lane outside SETTLE, DWELL and CHECK stands still as a whole. -/
theorem Lane.eq_of_still {x y : Lane} (hx : x.engaged = false) (h : y.still = x.still) : y = x := by
  have hy : y.engaged = false := (congrArg LaneStill.engaged h).trans hx
  have rest : y.still.rest = x.still.rest := congrArg LaneStill.rest h
  simpa [Lane.still, hx, hy] using rest

theorem setLane_of_still {s t : State} {l : LaneId} {x : Lane} (h : t.still = (s.setLane l x).still)
    (hx : x.engaged = false) : t.lanes.get l = x := by
  have same := lane_still_of_still h l
  rw [setLane_lanes, PerLane.get_set_same] at same
  exact Lane.eq_of_still hx same

theorem setLane_of_still_other {s t : State} {l m : LaneId} {x : Lane} (h : t.still = (s.setLane l x).still)
    (hm : m ≠ l) : (t.lanes.get m).still = (s.lanes.get m).still := by
  rw [lane_still_of_still h m, setLane_lanes, PerLane.get_set_other _ _ hm]

theorem laneWord_of_lower {s t : State} (h : t.lower = s.lower) (l : LaneId) (n : Nat) :
    t.laneWord l n = s.laneWord l n := by
  have layout : t.layout = s.layout := congrArg (fun x => x.layout) h
  simp [State.laneWord, State.lay, layout]

/-! ### The passages to FETCH and to IDLE (R11, R23) -/

/-- R11: a lane as its fetch begins. -/
def Lane.fetching (x : Lane) : Lane := { x with state := .fetch, order := some (.fresh x.consumer) }

/-- R23: a lane as it enters IDLE. -/
def Lane.idling (x : Lane) (rest : Nat) : Lane := { x with state := .idle, order := none, carried := .rest rest }

/-- R11: the port as a lane's fetch of a slot begins: the slot is guarded and its eight words are asked for. -/
def State.askSlot (s : State) (l : LaneId) (slot : Nat) : State :=
  { s with port := { s.port with
      guards := s.port.guards ++ [(l, slot)]
      reads := s.port.reads ++ (List.range 8).map (fun i => ⟨s.slotWord l slot i, .lane l⟩) } }

theorem placeReads_still {s t : State} (h : t.still = s.still) (p : Placer) (as : List Nat) :
    (t.placeReads p as).still = (s.placeReads p as).still :=
  congrArg (fun k : Still => { k with reads := k.reads ++ as.map (fun a => ({ addr := a, placer := p } : ReadRequest)) }) h

theorem beginFetch_still (l : LaneId) (s : State) :
    (s.beginFetch l).still =
      ((s.askSlot l (s.lanes.get l).consumer).setLane l (s.lanes.get l).fetching).still := by
  unfold State.beginFetch
  simp only
  rw [recompute_still, placeReads_still (putLaneStatus_still _ l)]
  simp only [State.placeReads, State.slotWords, List.map_map]
  rfl

theorem goIdle_still (l : LaneId) (s : State) :
    (s.goIdle l).still = (s.setLane l ((s.lanes.get l).idling (s.lay.rest.get l))).still := by
  unfold State.goIdle
  rw [recompute_still, putLaneStatus_still]
  rfl

theorem fetchOrIdle_fetch {l : LaneId} {s : State} (h : (s.lanes.get l).consumer ≠ (s.lanes.get l).mirror) :
    s.fetchOrIdle l = s.beginFetch l := if_pos h

theorem fetchOrIdle_idle {l : LaneId} {s : State} (h : (s.lanes.get l).consumer = (s.lanes.get l).mirror) :
    s.fetchOrIdle l = s.goIdle l := if_neg (not_not_intro h)

/-- R7, R23: the passage of one lane leaves the others but for what a recompute brings about. -/
theorem fetchOrIdle_other {l m : LaneId} (s : State) (hm : m ≠ l) :
    ((s.fetchOrIdle l).lanes.get m).still = (s.lanes.get m).still := by
  by_cases h : (s.lanes.get l).consumer = (s.lanes.get l).mirror
  · rw [fetchOrIdle_idle h]
    exact setLane_of_still_other (goIdle_still l s) hm
  · rw [fetchOrIdle_fetch h]
    exact setLane_of_still_other (s := s.askSlot l (s.lanes.get l).consumer) (beginFetch_still l s) hm

/-! ### Lane commands (R6, R7) -/

/-- R6: a lane command with its write-back of 0. -/
def State.writeBackLane (l : LaneId) (s : State) : State := s.offer (s.laneWord l 1) 0

theorem writeBackLane_still (l : LaneId) (s : State) : (s.writeBackLane l).still = s.still := offer_still _ _ _

theorem writeBackLane_last (l : LaneId) (s : State) :
    (s.writeBackLane l).port.writes.getLast? = some ⟨s.laneWord l 1, 0, .plain⟩ := by
  rw [State.writeBackLane, offer_writes, List.getLast?_concat]

theorem writeCommand_taken {s t : State} {l : LaneId} {code : Word} (hc : code ≠ 0)
    (h : s.laneCommand l code.toNat = some t) : s.writeCommand l code = t.writeBackLane l := by
  rw [State.writeCommand, if_neg hc, h]
  rfl

theorem writeCommand_refused {s : State} {l : LaneId} {code : Word} (hc : code ≠ 0)
    (h : s.laneCommand l code.toNat = none) : s.writeCommand l code = s.emit (commandRefused l code) := by
  rw [State.writeCommand, if_neg hc, h]
  rfl

theorem commandStart_stopped {s : State} {l : LaneId} (h : (s.lanes.get l).state = .stopped) :
    s.commandStart l = some (s.fetchOrIdle l) := by
  rw [State.commandStart, h]

theorem commandStart_refused {s : State} {l : LaneId} (h : (s.lanes.get l).state ≠ .stopped) :
    s.commandStart l = none := by
  unfold State.commandStart
  split
  · exact absurd ‹_› h
  · rfl

/-- R7: START is the lane command of code 1. -/
theorem exec_start {s : State} {L : Layout} (h : s.takesHost L) (l : LaneId) :
    exec (.start l) s =
      .next ((s.atGrant.forwardWrite (s.atGrant.laneWord l 1) (.good 1)).writeCommand l 1) :=
  congrArg Host.Outcome.next (hostWriteLane_command h l 1)

/-- Settles O15: START in STOPPED is the passage to FETCH or IDLE with its write-back, of which a recompute leaves the
lane, its guard and its reads; in every other state the command is refused. -/
theorem startTakenInStopped : Obligations.StartTakenInStopped := by
  unfold Obligations.StartTakenInStopped
  intro s L l h
  rw [exec_start h l]
  have layout := takesHost_lay h
  generalize s.atGrant = g at layout ⊢
  intro _ x w
  have code : (1 : Word) ≠ 0 := by decide
  have rest : w.lay.rest.get l = L.rest.get l := congrArg (fun k : Layout => k.rest.get l) layout
  refine ⟨fun stopped => ?_, fun other => ?_⟩
  · have taken : w.writeCommand l 1 = (w.fetchOrIdle l).writeBackLane l :=
      writeCommand_taken code (commandStart_stopped (s := w) stopped)
    have still := writeBackLane_still l (w.fetchOrIdle l)
    refine ⟨_, congrArg Host.Outcome.next taken, (State.lower_of_still still).trans (fetchOrIdle_lower l w),
      fun m hm => (lane_still_of_still still m).trans (fetchOrIdle_other w hm), ?_, fun differ => ?_, fun equal => ?_⟩
    · rw [writeBackLane_last, laneWord_of_lower (fetchOrIdle_lower l w)]
      rfl
    · rw [fetchOrIdle_fetch (s := w) differ] at still ⊢
      have fetched := still.trans (beginFetch_still l w)
      exact ⟨setLane_of_still fetched rfl, congrArg Still.guards fetched, congrArg Still.reads fetched⟩
    · rw [fetchOrIdle_idle (s := w) equal] at still ⊢
      have idled := still.trans (goIdle_still l w)
      rw [rest] at idled
      exact ⟨setLane_of_still idled rfl, congrArg Still.guards idled, congrArg Still.reads idled⟩
  · exact congrArg Host.Outcome.next (writeCommand_refused code (commandStart_refused (s := w) other))

end Sys2Proof.Machine
end

section
/-! PROOFS. The blower value of a recompute (R44): the base as the largest demand of the orders in force, the two floors,
and the cap. -/

namespace Sys2Proof.Machine

/-! ### The orders in force (R39, R44) -/

theorem mem_allLanes (l : LaneId) : l ∈ allLanes := by cases l <;> decide

theorem mem_ordersInForce {s : State} {f : OrderFields} :
    f ∈ s.ordersInForce ↔ ∃ l, (s.lanes.get l).inForce = some f := by
  simp [State.ordersInForce, mem_allLanes]

theorem ordersInForce_eq_nil {s : State} (h : ∀ l, (s.lanes.get l).inForce = none) : s.ordersInForce = [] := by
  simp [State.ordersInForce, h]

/-! ### The holds that move the blower (R36, R44) -/

theorem doorHold_iff {s : State} : s.doorHold = true ↔ ∃ d, s.hasHold (.doorOpen d) = true := by
  simp only [State.doorHold, State.hasHold, List.any_eq_true, decide_eq_true_eq]
  constructor
  · rintro ⟨r, present, isDoor⟩
    split at isDoor
    next d key => exact ⟨d, r, present, key⟩
    next => cases isDoor
  · rintro ⟨d, r, present, key⟩
    exact ⟨r, present, by rw [key]⟩

theorem purging_iff {s : State} :
    s.purging = true ↔ s.hasHold .purge = true ∧
      (s.governor.view.purge = .run ∨ s.governor.view.purge = .scrub ∨ s.governor.view.purge = .verify) := by
  simp [State.purging, or_assoc]

/-! ### The base (R44, step 1) -/

theorem largest_eq_of_greatest {xs : List Nat} {m : Nat} (mem : m ∈ xs) (bound : ∀ x ∈ xs, x ≤ m) :
    largest xs = m := by
  have greatest : xs.max? = some m := List.max?_eq_some_iff.mpr ⟨mem, bound⟩
  cases xs with
  | nil => cases mem
  | cons x xs =>
    rw [List.max?_cons', Option.some_inj] at greatest
    rwa [largest, List.foldl_cons, Nat.zero_max]

/-- R44, step 1: the base of the blower value. -/
def State.baseBlower (s : State) : Nat :=
  if s.ordersInForce.isEmpty then s.lay.idleBlower else largest (s.ordersInForce.map OrderFields.blower)

theorem baseBlower_idle {s : State} (h : ∀ l, (s.lanes.get l).inForce = none) : s.baseBlower = s.lay.idleBlower := by
  simp [State.baseBlower, ordersInForce_eq_nil h]

theorem baseBlower_greatest {s : State} {base : Nat}
    (asked : ∃ l f, (s.lanes.get l).inForce = some f ∧ f.blower = base)
    (bound : ∀ l f, (s.lanes.get l).inForce = some f → f.blower ≤ base) : s.baseBlower = base := by
  obtain ⟨l, f, hf, rfl⟩ := asked
  have mem : f ∈ s.ordersInForce := mem_ordersInForce.mpr ⟨l, hf⟩
  rw [State.baseBlower, if_neg (by simpa using List.ne_nil_of_mem mem)]
  refine largest_eq_of_greatest (List.mem_map_of_mem mem) (List.forall_mem_map.mpr fun g hg => ?_)
  obtain ⟨k, hk⟩ := mem_ordersInForce.mp hg
  exact bound k g hk

/-! ### The floors and the cap (R44, steps 2 and 3) -/

/-- R44, step 2: a value raised to the curtain blower behind an open door, and to the purge blower through a purge. -/
def State.raiseBlower (s : State) (base : Nat) : Nat :=
  let curtain := if s.doorHold then max base s.lay.curtainBlower else base
  if s.purging then max curtain s.lay.purgeBlower else curtain

section
variable {s : State} (base : Nat)

theorem raiseBlower_free (door : ¬ s.doorHold = true) (purge : ¬ s.purging = true) : s.raiseBlower base = base := by
  rw [State.raiseBlower, if_neg purge, if_neg door]

theorem raiseBlower_door (door : s.doorHold = true) (purge : ¬ s.purging = true) :
    s.raiseBlower base = max base s.lay.curtainBlower := by
  rw [State.raiseBlower, if_neg purge, if_pos door]

theorem raiseBlower_purge (door : ¬ s.doorHold = true) (purge : s.purging = true) :
    s.raiseBlower base = max base s.lay.purgeBlower := by
  rw [State.raiseBlower, if_pos purge, if_neg door]

theorem raiseBlower_door_purge (door : s.doorHold = true) (purge : s.purging = true) :
    s.raiseBlower base = max base (max s.lay.curtainBlower s.lay.purgeBlower) := by
  rw [State.raiseBlower, if_pos purge, if_pos door, Nat.max_assoc]

end

theorem nextMix_blower (s : State) (dp : Option Nat) :
    (s.nextMix dp).1.blower =
      if s.hasHold .engineOff then min (s.raiseBlower s.baseBlower) s.lay.engineOffCap
      else s.raiseBlower s.baseBlower := rfl

/-- Settles O50: the base is the one the hypotheses name, and the value is that base raised to the floors. -/
theorem blowerFollowsBaseFloorsAndCap : Obligations.BlowerFollowsBaseFloorsAndCap := by
  unfold Obligations.BlowerFollowsBaseFloorsAndCap
  intro s dp base idle greatest
  have base_eq : s.baseBlower = base := by
    by_cases h : ∃ l f, (s.lanes.get l).inForce = some f
    · obtain ⟨asked, bound⟩ := greatest h
      exact baseBlower_greatest asked bound
    · have none_in_force : ∀ l, (s.lanes.get l).inForce = none := fun l =>
        Option.eq_none_iff_forall_ne_some.mpr fun f hf => h ⟨l, f, hf⟩
      rw [baseBlower_idle none_in_force, idle none_in_force]
  rw [nextMix_blower, base_eq, ← doorHold_iff, ← purging_iff]
  exact ⟨s.raiseBlower base, raiseBlower_free base, raiseBlower_door base, raiseBlower_purge base,
    raiseBlower_door_purge base, fun running => if_neg (by simp [running]), fun off => if_pos off⟩

end Sys2Proof.Machine
end

section
/-! PROOFS. An accepted change of ENGINE_RUN (R126): what an accepted level of the engine input comes to, and that the
holds which the Purge Controller does not follow leave its record. -/

namespace Sys2Proof.Machine

/-! ### Holds that the Purge Controller does not follow (R56, step 6) -/

section
variable {k : HoldKey} (inlet : ∀ i, k ≠ .inletBarred i) (cab : k ≠ .cabFoul)
include inlet cab

/-- R56, step 6: a change of another kind than an inlet's bar or CAB_FOUL is told to the heat unit and the lamp alone. -/
theorem tellFollowers_heat_lamp (present : Bool) (s : State) :
    s.tellFollowers k present = (s.tellHeat k present).tellLamp k present := by
  cases k with
  | inletBarred i => exact absurd rfl (inlet i)
  | cabFoul => exact absurd rfl cab
  | _ => rfl

theorem tellFollowers_below (present : Bool) (s : State) : (s.tellFollowers k present).below = s.below := by
  rw [tellFollowers_heat_lamp inlet cab, tellLamp_below, tellHeat_below]

theorem takeRaise_below (cause : HoldCause) (s : State) : (s.takeRaise k cause).below = s.below := by
  unfold State.takeRaise
  split
  · split
    · exact editHold_below _ _ _
    · rw [tellFollowers_below inlet cab, createHold_below]
  · rfl

theorem takeRelease_below (s : State) : (s.takeRelease k).below = s.below := by
  unfold State.takeRelease
  split
  · split
    · rw [tellFollowers_below inlet cab, removeHold_below]
    · rfl
  · rfl

end

/-! ### Accepted levels (R120, R122, R126) -/

/-- R120: a debounce timer that has run its time accepts the level of its input. -/
theorem exec_debounceTimerExpiry_due {s : State} {i : SwitchId} (running : s.part = .running)
    (due : s.reached (s.switch i).debounce = true) :
    exec (.debounceTimerExpiry i) s = .next (s.acceptLevel i) :=
  congrArg Host.Outcome.next (if_pos ⟨running, due⟩)

/-- R122: a switch record as its raw level is accepted. -/
def Switch.settled (x : Switch) : Switch := { raw := x.raw, accepted := x.raw, debounce := none }

theorem acceptLevel_engineRun (s : State) :
    s.acceptLevel .engineRun =
      (s.setSwitch .engineRun (s.switch .engineRun).settled).engineChanges (s.switch .engineRun).raw := rfl

theorem engineChanges_on (s : State) : s.engineChanges true = s.takeRelease .engineOff := rfl

theorem engineChanges_off (s : State) : s.engineChanges false = s.takeRaise .engineOff .input := rfl

/-- Settles O36: the expiry accepts the level, ON is the release and OFF the raise, and the Purge Controller does not
follow ENGINE_OFF. -/
theorem engineAcceptedGivesItsNotice : Obligations.EngineAcceptedGivesItsNotice := by
  unfold Obligations.EngineAcceptedGivesItsNotice
  intro s running due u
  have accepted : exec (.debounceTimerExpiry .engineRun) s = .next (u.engineChanges (s.switch .engineRun).raw) :=
    (exec_debounceTimerExpiry_due running due).trans (congrArg Host.Outcome.next (acceptLevel_engineRun s))
  have inlet : ∀ i, HoldKey.engineOff ≠ .inletBarred i := fun _ => by simp
  have cab : HoldKey.engineOff ≠ .cabFoul := by simp
  have purge : u.purge = s.purge := setSwitch_purge _ _ _
  refine ⟨fun on => ?_, fun off => ?_, ?_, ?_⟩
  · rw [accepted, on, engineChanges_on]
  · rw [accepted, off, engineChanges_off]
  · exact (congrArg Below.purge (takeRelease_below inlet cab u)).trans purge
  · exact (congrArg Below.purge (takeRaise_below inlet cab .input u)).trans purge

end Sys2Proof.Machine
end

section
/-! PROOFS. General facts: the proofs stand on core Lean alone, and what they take from a library stands here. -/

namespace Sys2Proof.Machine

/-- A sequence of steps of a relation. -/
inductive Sequence {α : Type} (r : α → α → Prop) (a : α) : α → Prop
  | refl : Sequence r a a
  | tail {b c : α} : Sequence r a b → r b c → Sequence r a c

namespace Sequence
variable {α : Type} {r : α → α → Prop} {a b c : α}

theorem single (h : r a b) : Sequence r a b := .tail .refl h

theorem trans (h : Sequence r a b) (k : Sequence r b c) : Sequence r a c := by
  induction k with
  | refl => exact h
  | tail _ step ih => exact ih.tail step

end Sequence

theorem if_congr {α : Type} {p q : Prop} [Decidable p] [Decidable q] {a b x y : α} (h : p ↔ q) (yes : a = x) (no : b = y) :
    (if p then a else b) = if q then x else y := by
  rw [yes, no]
  by_cases k : p
  · rw [if_pos k, if_pos (h.1 k)]
  · rw [if_neg k, if_neg (mt h.2 k)]

theorem nodup_snoc {α : Type} {xs : List α} {x : α} (distinct : xs.Nodup) (new : x ∉ xs) : (xs ++ [x]).Nodup := by
  refine List.nodup_append.2 ⟨distinct, by simp, fun a ha b hb same => new ?_⟩
  rw [List.mem_singleton.1 hb] at same
  exact same ▸ ha

theorem get_replicate {α : Type} {n : Nat} (x : α) (i : Fin n) : (Vector.replicate n x).get i = x := by
  simp [Vector.get]

/-- Induction on a list from its end. -/
theorem snocInduction {α : Type} {p : List α → Prop} (nil : p [])
    (append_singleton : ∀ xs x, p xs → p (xs ++ [x])) (xs : List α) : p xs := by
  have reversed (ys : List α) : p ys.reverse := by
    induction ys with
    | nil => exact nil
    | cons y ys ih =>
      rw [List.reverse_cons]
      exact append_singleton _ y ih
  rw [← List.reverse_reverse xs]
  exact reversed _

end Sys2Proof.Machine
end

section
/-! PROOFS. What the blocks may do to the state: each operation of a block is a sequence of small moves, each on one part
of the state with what it keeps there. The invariants of chapters 1 to 12 are proved of the moves, and so of every
operation. -/

namespace Sys2Proof.Machine

/-! ### What each move keeps -/

/-- What the Governor sees of a lane (R25) is the same of two records. -/
structure Lane.SameDemand (x y : Lane) : Prop where
  force : y.inForce = x.inForce
  fetch : y.state = .fetch ↔ x.state = .fetch
  carried : y.carried = x.carried

/-- A new lane record agrees with its order and stays inside its ring where the old one did. -/
structure LaneMove (size : Nat) (x y : Lane) : Prop where
  agrees : x.orderAgrees → y.orderAgrees
  inside : size ≠ 0 → x.consumer < size ∧ x.mirror < size → y.consumer < size ∧ y.mirror < size

/-- R133: the dampers that hold a grant. -/
def Drive.granted (v : Drive) : Nat := v.dampers.toList.countP Damper.granted

/-- R131 to R140: the moves of the Damper Drive under a number of grants. -/
inductive DriveMove (limit : Nat) (v : Drive) : Drive → Prop
  | edit (d : Fin 8) (x : Damper) (waits : x.state = .waiting ↔ (v.dampers.get d).state = .waiting)
      (grants : x.granted = true → (v.dampers.get d).granted = true) :
      DriveMove limit v { v with dampers := vset v.dampers d x }
  | join (d : Fin 8) (x : Damper) (homing : Bool) (waits : x.state = .waiting)
      (before : (v.dampers.get d).state ≠ .waiting) :
      DriveMove limit v { dampers := vset v.dampers d x, queue := v.queue ++ [⟨d, homing⟩] }
  | leave (d : Fin 8) (x : Damper) (rests : x.state = .atRest) :
      DriveMove limit v { dampers := vset v.dampers d x, queue := v.queue.filter (fun e => e.damper ≠ d) }
  | grant (e : MotionEntry) (es : List MotionEntry) (x : Damper) (head : v.queue = e :: es)
      (free : v.granted < limit) (leaves : x.state ≠ .waiting) :
      DriveMove limit v { dampers := vset v.dampers e.damper x, queue := es }

/-- R148: the energised stages are within the allowed count, and 0 while the unit sees a hold that forbids them. -/
def HeatUnit.withinBudget (h : HeatUnit) : Prop :=
  h.energised ≤ h.allowed ∧ (h.seesShed = true ∨ h.seesEngineOff = true ∨ h.seesBlowerFail = true → h.energised = 0)

/-- R56: what the unit sees of the three holds that forbid heat. -/
def HeatUnit.sees (h : HeatUnit) : Bool × Bool × Bool := (h.seesShed, h.seesEngineOff, h.seesBlowerFail)

/-- R99, R100: the Spot Queue and the scanner agree; `handling`: a completed scan conversion may be under handling, during
which the requests wait (R95). -/
structure Scanner.Agrees (handling : Prop) (x : Scanner) : Prop where
  distinct : (x.queue.map SpotEntry.channel).Nodup
  spot : x.state = .spot → ∃ e es, x.queue = e :: es ∧ e.served.isSome = true ∧ ∀ y ∈ es, y.served = none
  other : x.state ≠ .spot → ∀ y ∈ x.queue, y.served = none
  waits : x.state ≠ .spot → x.queue ≠ [] → handling ∧ x.state = .scanning ∧ x.conversion = none
  converts : x.state = .scanning → x.conversion = none → handling

/-- R70: the states in which a purge moves air or is verified. -/
def PurgeState.active : PurgeState → Prop
  | .run | .scrub | .verify => True
  | .idle | .waitClose => False

/-- R61: the PURGE hold among the records follows the purge. -/
def PurgeHeld (p : Purge) (rs : List HoldRecord) : Prop :=
  (rs.any (fun r => decide (r.key = .purge)) = true ↔ p.state ≠ .idle) ∧
    ∀ r, rs.find? (fun r => decide (r.key = .purge)) = some r → r.phase = some p.state

/-- R52: no pair twice among the records. -/
def DistinctKeys (rs : List HoldRecord) : Prop := (rs.map HoldRecord.key).Nodup

/-- The holds that the Blower and Heat Unit follows (R147). -/
def HoldKey.heats : HoldKey → Bool
  | .heatShed | .engineOff | .blowerFail => true
  | _ => false

/-- Whether the records hold a pair. -/
def holdsPair (rs : List HoldRecord) (k : HoldKey) : Bool := rs.any (fun r => decide (r.key = k))

/-- R160, R164, R165: what the memory port keeps of its own through a change. -/
structure PortMove (p q : Port) : Prop where
  ram : Memory.wf p.ram = true → Memory.wf q.ram = true
  records : p.records.length ≤ 32 → q.records.length ≤ 32
  images : (p.images.map ImageEntry.addr).Nodup → (q.images.map ImageEntry.addr).Nodup

/-- What a move may do beyond what its part keeps: each is asked for by name. -/
inductive Freedom where
  /-- the allowed count of the heat unit takes a new value -/
  | budget
  /-- what the heat unit sees of the holds, or those holds themselves, change -/
  | notice
  /-- the scanner goes on after a conversion or at a command -/
  | scan
  /-- a spot is asked for by other than the heat unit -/
  | spots
  /-- the switches and the purge's door view change -/
  | doors

/-! ### The moves -/

/-- R155, R165, R174: the moves of the memory port, of the event ring and of the model's own clock and queue, which the
part makes in every part state. -/
inductive Outer : State → State → Prop
  | port (s : State) (p : Port) (keeps : PortMove s.port p) : Outer s { s with port := p }
  | events (s : State) (e : EventWriter)
      (consumer : e.consumer = s.events.consumer ∨ e.consumer < s.lay.eventSize)
      (producer : e.producer = s.events.producer ∨ e.producer = (s.events.producer + 1) % s.lay.eventSize) :
      Outer s { s with events := e }
  | switches (s : State) (w : Switches) (open_ : w.openSet = s.switches.openSet)
      (accepted : ∀ x ∈ doorInputs, (w.inputs.get x.1.index).accepted = (s.switch x.1).accepted) :
      Outer s { s with switches := w }
  | model (s : State) (pending : List Instr) (now : Nat) (arg clock : Word) (tick : Nat) (loader : Loader)
      (phase : loader.phase = .thresholds ∨ loader.phase = .writes →
        s.loader.phase = .thresholds ∨ s.loader.phase = .writes) :
      Outer s { s with
        pending := pending, now := now, serviceArg := arg, tagClock := clock, lastTick := tick, loader := loader }

/-- One move of a block. The flag says that the Mix Record may lag behind the Governor's inputs: it is set by a change of
an input and cleared by a recompute. -/
inductive Move (A : Freedom → Prop) : State × Bool → State × Bool → Prop
  | lag (s : State) (b : Bool) : Move A (s, b) (s, true)
  | outside (s : State) (b : Bool) (h : s.part ≠ .running) : Move A (s, b) (s, false)
  | outer (s t : State) (b : Bool) (h : Outer s t) : Move A (s, b) (t, b)
  | lane (s : State) (b c : Bool) (l : LaneId) (x : Lane) (keeps : LaneMove (s.ringSize l) (s.lanes.get l) x)
      (current : c = false → b = false ∧ (s.lanes.get l).SameDemand x) : Move A (s, b) (s.setLane l x, c)
  | mix (s : State) (b : Bool) (dp : Option Nat) :
      Move A (s, b)
        ({ s with governor := { s.governor with mix := (s.nextMix dp).1, chosen := (s.nextMix dp).2 } }, false)
  | view (s : State) (b : Bool) (v : GovernorView) :
      Move A (s, b) ({ s with governor := { s.governor with view := v } }, true)
  | drive (s : State) (b : Bool) (v : Drive) (keeps : DriveMove s.lay.motionGrants s.drive v) :
      Move A (s, b) ({ s with drive := v }, b)
  | heat (s : State) (b : Bool) (h : HeatUnit) (count : A .budget ∨ h.allowed = s.heat.allowed)
      (within : A .budget ∨ (s.heat.withinBudget → h.withinBudget))
      (sees : A .notice ∨ h.sees = s.heat.sees) : Move A (s, b) (s.setHeat h, b)
  | scanner (s : State) (b : Bool) (x : Scanner) (channels : x.channels = s.scanner.channels)
      (keeps : A .scan ∨ ∀ handling, s.scanner.Agrees handling → x.Agrees handling)
      (asked : (A .scan ∨ A .spots ∨ s.heat.allowed ≠ 0) ∨ (s.scanner.queue = [] → x = s.scanner)) :
      Move A (s, b) (s.setScanner x, b)
  | channel (s : State) (b c : Bool) (i : Fin 16) (x : Channel)
      (current : c = false → b = false ∧ i ≠ 8 ∧ i ≠ 9 ∧ i ≠ 10) : Move A (s, b) (s.setChannel i x, c)
  | holds (s : State) (b c : Bool) (rs : List HoldRecord) (distinct : DistinctKeys s.holds → DistinctKeys rs)
      (purge : DistinctKeys s.holds → PurgeHeld s.purge s.holds → PurgeHeld s.purge rs)
      (heat : A .notice ∨ (DistinctKeys s.holds → ∀ k, k.heats = true → holdsPair rs k = holdsPair s.holds k))
      (current : c = false → b = false ∧ rs.map HoldRecord.key = s.holds.map HoldRecord.key) :
      Move A (s, b) ({ s with holds := rs }, c)
  | purge (s : State) (b c : Bool) (p : Purge) (rs : List HoldRecord) (distinct : DistinctKeys s.holds → DistinctKeys rs)
      (held : DistinctKeys s.holds → PurgeHeld s.purge s.holds → PurgeHeld p rs)
      (heat : DistinctKeys s.holds → ∀ k, k.heats = true → holdsPair rs k = holdsPair s.holds k)
      (doors : A .doors ∨ p.doorOpen = s.purge.doorOpen ∧
        (p.state.active → s.purge.state.active ∨ s.purge.doorOpen = false))
      (current : c = false → b = false ∧ rs.map HoldRecord.key = s.holds.map HoldRecord.key) :
      Move A (s, b) ({ s with purge := p, holds := rs }, c)
  | grader (s : State) (b : Bool) (g : Grader) (n : Nat) : Move A (s, b) ({ s with grader := g, freeIndex := n }, b)
  | doors (s : State) (b : Bool) (w : Switches) (h : A .doors) : Move A (s, b) ({ s with switches := w }, b)

/-- A sequence of moves. -/
abbrev Moves (A : Freedom → Prop) : State × Bool → State × Bool → Prop := Sequence (Move A)

end Sys2Proof.Machine
end

section
/-! PROOFS. The Spot Queue under requests, withdrawals and the service of its head (R97 to R100). -/

namespace Sys2Proof.Machine

/-! ### The queue itself (R97, R98) -/

theorem joinSpot_channels (r : Requester) (c : Fin 16) (q : List SpotEntry) :
    (joinSpot r c q).map SpotEntry.channel =
      if c ∈ q.map SpotEntry.channel then q.map SpotEntry.channel else q.map SpotEntry.channel ++ [c] := by
  induction q with
  | nil => simp [joinSpot]
  | cons e es ih =>
    by_cases h : e.channel = c
    · simp [joinSpot, h]
    · simp only [joinSpot, if_neg h, List.map_cons, ih, List.mem_cons]
      by_cases hm : c ∈ es.map SpotEntry.channel <;> simp [hm, Ne.symm h]

theorem joinSpot_distinct (r : Requester) (c : Fin 16) {q : List SpotEntry} (h : (q.map SpotEntry.channel).Nodup) :
    ((joinSpot r c q).map SpotEntry.channel).Nodup := by
  rw [joinSpot_channels]
  split
  · exact h
  · next hc => exact nodup_snoc h hc

theorem joinSpot_ne_nil (r : Requester) (c : Fin 16) (q : List SpotEntry) : joinSpot r c q ≠ [] := by
  cases q with
  | nil => simp [joinSpot]
  | cons e es => simp only [joinSpot]; split <;> simp

/-- A request leaves what an entry's conversion serves. -/
theorem joinSpot_unserved (r : Requester) (c : Fin 16) {q : List SpotEntry} (h : ∀ e ∈ q, e.served = none) :
    ∀ e ∈ joinSpot r c q, e.served = none := by
  induction q with
  | nil => simp [joinSpot]
  | cons x xs ih =>
    simp only [List.forall_mem_cons] at h
    simp only [joinSpot]
    split
    · exact List.forall_mem_cons.2 ⟨h.1, h.2⟩
    · exact List.forall_mem_cons.2 ⟨h.1, ih h.2⟩

theorem withdrawEntry_channel {r : Requester} {c : Fin 16} {e x : SpotEntry} (h : withdrawEntry r c e = some x) :
    x.channel = e.channel := by
  unfold withdrawEntry at h
  split at h
  · simp only at h
    split at h
    · cases h
    · cases h; rfl
  · cases h; rfl

theorem withdrawEntry_served {r : Requester} {c : Fin 16} {e x : SpotEntry} (h : withdrawEntry r c e = some x) :
    x.served.isSome = e.served.isSome := by
  unfold withdrawEntry at h
  split at h
  · simp only at h
    split at h
    · cases h
    · cases h; simp
  · cases h; rfl

/-- R98: the entry under conversion stays in the queue. -/
theorem withdrawEntry_of_served {r : Requester} {c : Fin 16} {e : SpotEntry} (h : e.served.isSome = true) :
    ∃ x, withdrawEntry r c e = some x := by
  unfold withdrawEntry
  split
  · simp [Option.isNone_eq_false_iff.2 h]
  · exact ⟨e, rfl⟩

theorem withdrawn_channels (r : Requester) (c : Fin 16) (q : List SpotEntry) :
    ((q.filterMap (withdrawEntry r c)).map SpotEntry.channel).Sublist (q.map SpotEntry.channel) := by
  induction q with
  | nil => exact .slnil
  | cons e es ih =>
    cases h : withdrawEntry r c e with
    | none => simpa [List.filterMap_cons, h] using ih.cons e.channel
    | some x => simpa [List.filterMap_cons, h, withdrawEntry_channel h] using ih.cons_cons e.channel

theorem withdrawn_unserved (r : Requester) (c : Fin 16) {q : List SpotEntry} (h : ∀ e ∈ q, e.served = none) :
    ∀ e ∈ q.filterMap (withdrawEntry r c), e.served = none := by
  intro x hx
  obtain ⟨e, he, hex⟩ := List.mem_filterMap.1 hx
  have := withdrawEntry_served hex
  rw [h e he] at this
  simpa using this

/-! ### The scanner's updates (R97 to R100) -/

theorem serveHead_scanner (s : State) : s.serveHead = s.setScanner s.serveHead.scanner := by
  unfold State.serveHead; split <;> rfl

theorem serveHead_channels (s : State) : s.serveHead.scanner.channels = s.scanner.channels := by
  unfold State.serveHead; split <;> rfl

theorem enterSpot_scanner (s : State) (r : Resume) : s.enterSpot r = s.setScanner (s.enterSpot r).scanner :=
  serveHead_scanner _

theorem preemptScan_scanner (s : State) : s.preemptScan = s.setScanner s.preemptScan.scanner := by
  unfold State.preemptScan
  split
  · split
    · exact enterSpot_scanner _ _
    · exact enterSpot_scanner _ _
  · exact enterSpot_scanner _ _

theorem requestSpot_scanner (s : State) (r : Requester) (c : Fin 16) :
    s.requestSpot r c = s.setScanner (s.requestSpot r c).scanner := by
  unfold State.requestSpot
  split
  · simp only
    split
    · rfl
    · split
      · exact preemptScan_scanner _
      · rfl
    · exact enterSpot_scanner _ _
    · exact enterSpot_scanner _ _
  · rfl

theorem requestSpot_channels (s : State) (r : Requester) (c : Fin 16) :
    (s.requestSpot r c).scanner.channels = s.scanner.channels :=
  congrArg (fun k => k.channels) (requestSpot_still s r c)

/-! ### Agreement of the queue and the scanner (R97, R99, R100) -/

theorem serveHead_agrees {s : State} (distinct : (s.scanner.queue.map SpotEntry.channel).Nodup)
    (unserved : ∀ e ∈ s.scanner.queue.tail, e.served = none) (some : s.scanner.queue ≠ []) (handling : Prop) :
    s.serveHead.scanner.Agrees handling := by
  unfold State.serveHead
  split
  next h => exact absurd h some
  next e es h =>
    rw [h] at distinct unserved
    exact ⟨distinct, fun _ => ⟨_, _, rfl, rfl, unserved⟩, fun k => absurd rfl k, fun k => absurd rfl k,
      fun k => by cases k⟩

theorem enterSpot_agrees {s : State} (distinct : (s.scanner.queue.map SpotEntry.channel).Nodup)
    (unserved : ∀ e ∈ s.scanner.queue, e.served = none) (some : s.scanner.queue ≠ []) (r : Resume) (handling : Prop) :
    (s.enterSpot r).scanner.Agrees handling := by
  unfold State.enterSpot
  refine serveHead_agrees ?_ ?_ ?_ handling
  · exact distinct
  · exact fun e he => unserved e (List.mem_of_mem_tail he)
  · exact some

theorem preemptScan_agrees {s : State} (distinct : (s.scanner.queue.map SpotEntry.channel).Nodup)
    (unserved : ∀ e ∈ s.scanner.queue, e.served = none) (some : s.scanner.queue ≠ []) (handling : Prop) :
    s.preemptScan.scanner.Agrees handling := by
  unfold State.preemptScan
  split
  · split
    · refine enterSpot_agrees ?_ ?_ ?_ _ _ <;> assumption
    · exact enterSpot_agrees distinct unserved some _ _
  · exact enterSpot_agrees distinct unserved some _ _

/-- R97: the state with a request placed, before the scanner is pre-empted. -/
def State.joined (s : State) (r : Requester) (c : Fin 16) : State :=
  s.setScanner { s.scanner with queue := joinSpot r c s.scanner.queue }

theorem requestSpot_running {s : State} (h : s.part = .running) (r : Requester) (c : Fin 16) :
    s.requestSpot r c = match s.scanner.state with
      | .spot => s.joined r c
      | .scanning => if s.scanner.conversion.isSome then (s.joined r c).preemptScan else s.joined r c
      | .waiting => (s.joined r c).enterSpot .endOfPass
      | .stopped => (s.joined r c).enterSpot .absent := if_pos h

theorem requestSpot_not_running {s : State} (h : s.part ≠ .running) (r : Requester) (c : Fin 16) :
    s.requestSpot r c = s := if_neg h

theorem requestSpot_agrees {handling : Prop} {s : State} (h : s.scanner.Agrees handling) (r : Requester) (c : Fin 16) :
    (s.requestSpot r c).scanner.Agrees handling := by
  by_cases running : s.part = .running
  · have distinct : ((s.joined r c).scanner.queue.map SpotEntry.channel).Nodup := joinSpot_distinct r c h.distinct
    have some : (s.joined r c).scanner.queue ≠ [] := joinSpot_ne_nil r c s.scanner.queue
    have unserved (k : s.scanner.state ≠ .spot) : ∀ e ∈ (s.joined r c).scanner.queue, e.served = none :=
      joinSpot_unserved r c (h.other k)
    rw [requestSpot_running running]
    split
    next hs =>
      refine ⟨distinct, fun _ => ?_, fun k => absurd hs k, fun k => absurd hs k, h.converts⟩
      obtain ⟨e, es, hq, served, rest⟩ := h.spot hs
      simp only [State.joined, setScanner_scanner, hq, joinSpot]
      split
      · exact ⟨_, _, rfl, served, rest⟩
      · exact ⟨_, _, rfl, served, joinSpot_unserved r c rest⟩
    next hs =>
      have other : s.scanner.state ≠ .spot := by simp [hs]
      split
      · exact preemptScan_agrees distinct (unserved other) some handling
      next hc =>
        have none : s.scanner.conversion = none := by simpa using hc
        exact ⟨distinct, fun k => absurd k other, fun _ => unserved other,
          fun _ _ => ⟨h.converts hs none, hs, none⟩, h.converts⟩
    next hs => exact enterSpot_agrees distinct (unserved (by simp [hs])) some _ _
    next hs => exact enterSpot_agrees distinct (unserved (by simp [hs])) some _ _
  · rwa [requestSpot_not_running running]

theorem withdrawSpot_agrees {handling : Prop} {s : State} (h : s.scanner.Agrees handling) (r : Requester) (c : Fin 16) :
    (s.withdrawSpot r c).scanner.Agrees handling where
  distinct := h.distinct.sublist (withdrawn_channels r c _)
  spot hs := by
    obtain ⟨e, es, hq, served, rest⟩ := h.spot hs
    obtain ⟨x, hx⟩ := withdrawEntry_of_served (r := r) (c := c) served
    refine ⟨x, es.filterMap (withdrawEntry r c), ?_, (withdrawEntry_served hx).trans served, withdrawn_unserved r c rest⟩
    simp [State.withdrawSpot, hq, hx]
  other hs := withdrawn_unserved r c (h.other hs)
  waits hs some := h.waits hs fun empty => some (by simp [State.withdrawSpot, empty])
  converts := h.converts

theorem leaveEntry_scanner (q : Requester) (s : State) : s.leaveEntry q = s.setScanner (s.leaveEntry q).scanner := by
  unfold State.leaveEntry; split <;> rfl

theorem leaveEntry_channels (q : Requester) (s : State) : (s.leaveEntry q).scanner.channels = s.scanner.channels := by
  unfold State.leaveEntry; split <;> rfl

theorem leaveEntry_agrees {handling : Prop} {s : State} (h : s.scanner.Agrees handling) (q : Requester) :
    (s.leaveEntry q).scanner.Agrees handling := by
  unfold State.leaveEntry
  split
  next e es hq =>
    refine ⟨?_, fun hs => ?_, fun hs => ?_, fun hs _ => h.waits hs (by simp [hq]), h.converts⟩
    · simpa [hq] using h.distinct
    · obtain ⟨e', es', hq', served, rest⟩ := h.spot hs
      cases hq.symm.trans hq'
      exact ⟨_, _, rfl, by simpa using served, rest⟩
    · have unserved := h.other hs
      rw [hq] at unserved
      simp only [setScanner_scanner, List.forall_mem_cons] at unserved ⊢
      exact ⟨by simp [unserved.1], unserved.2⟩
  · exact h

end Sys2Proof.Machine
end

section
/-! PROOFS. The moves of the shared operations: writes and requests, the heat unit, the lanes told of dampers, motion, and
a recompute with all that it brings about. -/

namespace Sys2Proof.Machine

variable {A : Freedom → Prop}

/-! ### Sequences -/

theorem Moves.lagging {p : State × Bool} {t : State} (h : Moves A p (t, false)) (c : Bool) : Moves A p (t, c) := by
  cases c
  · exact h
  · exact h.tail (.lag t false)

/-- The last part of a sequence first. -/
theorem Moves.behind {p q r : State × Bool} (k : Moves A q r) (h : Moves A p q) : Moves A p r := h.trans k

theorem each_moves {α : Type} (b : Bool) {f : α → State → State} (h : ∀ x t, Moves A (t, b) (f x t, b)) (xs : List α)
    (s : State) : Moves A (s, b) (s.each xs f, b) := by
  unfold State.each
  induction xs generalizing s with
  | nil => exact .refl
  | cons x xs ih => exact (h x s).trans (ih (f x s))

/-! ### Writes and requests (R97, R98, R164, R165) -/

theorem offerAs_outer (s : State) (r : EntryRole) (a : Nat) (d : Word) : Outer s (s.offerAs r a d) :=
  .port s _ ⟨by rw [Port.offer_ram]; exact id, fun h => Port.offer_bounded h _, by rw [Port.offer_images]; exact id⟩

theorem putImage_outer (s : State) (a : Nat) (d : Word) : Outer s (s.putImage a d) :=
  .port s _ ⟨id, id, fun h => putImageEntry_nodup h a d⟩

/-- A sequence of moves made in every part state. -/
abbrev Outers : State → State → Prop := Sequence Outer

theorem Outers.behind {s t u : State} (k : Outers t u) (h : Outers s t) : Outers s u := h.trans k

theorem Outers.moves {s t : State} (h : Outers s t) (b : Bool) : Moves A (s, b) (t, b) := by
  induction h with
  | refl => exact .refl
  | tail _ k ih => exact ih.tail (.outer _ _ b k)

theorem each_outers {α : Type} {f : α → State → State} (h : ∀ x t, Outers t (f x t)) (xs : List α) (s : State) :
    Outers s (s.each xs f) := by
  unfold State.each
  induction xs generalizing s with
  | nil => exact .refl
  | cons x xs ih => exact (h x s).trans (ih (f x s))

theorem offerAs_outers (s : State) (r : EntryRole) (a : Nat) (d : Word) : Outers s (s.offerAs r a d) :=
  .single (offerAs_outer s r a d)

theorem offer_outers (s : State) (a : Nat) (d : Word) : Outers s (s.offer a d) := offerAs_outers s .plain a d

theorem offerAs_moves (b : Bool) (s : State) (r : EntryRole) (a : Nat) (d : Word) :
    Moves A (s, b) (s.offerAs r a d, b) := .single (.outer _ _ b (offerAs_outer s r a d))

theorem offer_moves (b : Bool) (s : State) (a : Nat) (d : Word) : Moves A (s, b) (s.offer a d, b) :=
  offerAs_moves b s .plain a d

theorem putImage_moves (b : Bool) (s : State) (a : Nat) (d : Word) : Moves A (s, b) (s.putImage a d, b) :=
  .single (.outer _ _ b (putImage_outer s a d))

theorem putStatus_moves (b : Bool) (s : State) (n : Nat) (d : Word) : Moves A (s, b) (s.putStatus n d, b) :=
  putImage_moves b s _ d

theorem putLaneStatus_moves (b : Bool) (s : State) (l : LaneId) : Moves A (s, b) (s.putLaneStatus l, b) :=
  offer_moves b s _ _

theorem withdrawSpot_empty (s : State) (r : Requester) (c : Fin 16) (empty : s.scanner.queue = []) :
    (s.withdrawSpot r c).scanner = s.scanner := by
  show { s.scanner with queue := s.scanner.queue.filterMap (withdrawEntry r c) } = s.scanner
  generalize s.scanner = x at empty
  cases x
  simp_all

theorem requestSpot_moves (b : Bool) (s : State) (r : Requester) (c : Fin 16)
    (asked : A .spots ∨ s.heat.allowed ≠ 0) : Moves A (s, b) (s.requestSpot r c, b) := by
  rw [requestSpot_scanner]
  exact .single (.scanner s b _ (requestSpot_channels s r c) (.inr fun _ h => requestSpot_agrees h r c)
    (.inl (.inr asked)))

theorem withdrawSpot_moves (b : Bool) (s : State) (r : Requester) (c : Fin 16) :
    Moves A (s, b) (s.withdrawSpot r c, b) :=
  .single (.scanner s b _ rfl (.inr fun _ h => withdrawSpot_agrees h r c) (.inr (withdrawSpot_empty s r c)))

theorem leaveEntry_moves (b : Bool) (q : Requester) (s : State) : Moves A (s, b) (s.leaveEntry q, b) := by
  rw [leaveEntry_scanner]
  exact .single (.scanner s b _ (leaveEntry_channels q s) (.inr fun _ h => leaveEntry_agrees h q)
    (.inr fun empty => by simp [State.leaveEntry, empty]))

/-! ### The stages (R148, R149) -/

/-- The ON stages of the four, counted stage by stage. -/
theorem countOn_eq (v : Vector StageState 4) : v.toList.countP (fun x => x == .on) =
    flag (v.get 0 == .on) + flag (v.get 1 == .on) + flag (v.get 2 == .on) + flag (v.get 3 == .on) := by
  match v with
  | ⟨⟨[a, b, c, d]⟩, _⟩ =>
    show List.countP (fun x => x == .on) [a, b, c, d] = flag (a == .on) + flag (b == .on) + flag (c == .on) + flag (d == .on)
    simp only [List.countP_cons, List.countP_nil, flag]
    omega

theorem energised_eq (h : HeatUnit) : h.energised =
    flag (h.stages.get 0 == .on) + flag (h.stages.get 1 == .on) + flag (h.stages.get 2 == .on) +
      flag (h.stages.get 3 == .on) := countOn_eq _

/-- The ON stages with one stage replaced. -/
theorem countOn_vset (v : Vector StageState 4) (i : Fin 4) (x : StageState) :
    (vset v i x).toList.countP (fun x => x == .on) + flag (v.get i == .on) =
      v.toList.countP (fun x => x == .on) + flag (x == .on) := by
  have same := vset_get_same v i x
  have other (j : Fin 4) (h : j ≠ i) := vset_get_other v x h
  rw [countOn_eq, countOn_eq]
  match i with
  | 0 | 1 | 2 | 3 => simp [vset_get_other] <;> omega

theorem countOn_stageFall (v : Vector StageState 4) : (stageFall v).toList.countP (fun x => x == .on) =
    v.toList.countP (fun x => x == .on) - 1 := by
  unfold stageFall
  split
  next h => have := countOn_vset v 3 .off; simp [h, flag] at this ⊢; omega
  split
  next h => have := countOn_vset v 2 .off; simp [h, flag] at this ⊢; omega
  split
  next h => have := countOn_vset v 1 .off; simp [h, flag] at this ⊢; omega
  split
  next h => have := countOn_vset v 0 .off; simp [h, flag] at this ⊢; omega
  next h3 h2 h1 h0 => rw [countOn_eq]; simp [h3, h2, h1, h0, flag]

/-- R148: each fall switches one ON stage off, while there is one. -/
theorem countOn_stageFalls (n : Nat) (v : Vector StageState 4) : (stageFalls n v).toList.countP (fun x => x == .on) =
    v.toList.countP (fun x => x == .on) - n := by
  induction n generalizing v with
  | zero => rfl
  | succ n ih => rw [stageFalls, ih, countOn_stageFall]; omega

theorem lowestOff_off {v : Vector StageState 4} {i : Fin 4} (h : lowestOff v = some i) : v.get i = .off := by
  unfold lowestOff at h
  split at h
  · cases h; assumption
  split at h
  · cases h; assumption
  split at h
  · cases h; assumption
  split at h
  · cases h; assumption
  · cases h

/-- R148: what the stage limit is bounded by. -/
theorem stageLimit_le (s : State) : s.stageLimit ≤ s.heat.allowed ∧
    (s.heat.seesShed = true ∨ s.heat.seesEngineOff = true ∨ s.heat.seesBlowerFail = true → s.stageLimit = 0) := by
  unfold State.stageLimit
  split
  next h => exact ⟨Nat.zero_le _, fun _ => rfl⟩
  next h => exact ⟨Nat.le_trans (Nat.min_le_right _ _) (Nat.min_le_left _ _), fun k => absurd k (by simpa [or_assoc] using h)⟩

theorem withinBudget_of_le {s : State} {h : HeatUnit} (allowed : h.allowed = s.heat.allowed)
    (sees : h.sees = s.heat.sees) (le : h.energised ≤ s.stageLimit) : h.withinBudget := by
  obtain ⟨bound, none⟩ := stageLimit_le s
  simp only [HeatUnit.sees, Prod.mk.injEq] at sees
  obtain ⟨shed, engine, blower⟩ := sees
  refine ⟨by omega, fun k => ?_⟩
  rw [shed, engine, blower] at k
  have := none k
  omega

/-- A change of the unit that leaves its stages, its allowed count and what it sees. -/
theorem setHeat_moves (b : Bool) (s : State) {h : HeatUnit} (stages : h.stages = s.heat.stages)
    (allowed : h.allowed = s.heat.allowed) (sees : h.sees = s.heat.sees) : Moves A (s, b) (s.setHeat h, b) := by
  refine .single (.heat s b h (.inr allowed) (.inr fun within => ?_) (.inr sees))
  have energised : h.energised = s.heat.energised := by rw [HeatUnit.energised, stages]; rfl
  simp only [HeatUnit.sees, Prod.mk.injEq] at sees
  obtain ⟨shed, engine, blower⟩ := sees
  rwa [HeatUnit.withinBudget, energised, allowed, shed, engine, blower]

theorem putHeatWord_moves (b : Bool) (s : State) : Moves A (s, b) (s.putHeatWord, b) := putStatus_moves b s _ _

theorem energise_moves (b : Bool) (s : State) {i : Fin 4} (room : s.heat.energised < s.stageLimit)
    (off : s.heat.stages.get i = .off) : Moves A (s, b) (s.energise i, b) := by
  unfold State.energise
  refine (putHeatWord_moves b _).behind ((requestSpot_moves b _ .heat 15 (.inr ?_)).behind ?_)
  · have := (stageLimit_le s).1
    simp only [setHeat_heat]
    omega
  refine .single (.heat s b _ (.inr rfl) (.inr fun _ => ?_) (.inr rfl))
  refine withinBudget_of_le (s := s) rfl rfl ?_
  have count := countOn_vset s.heat.stages i .on
  have one : flag (StageState.on == .on) = 1 := rfl
  have zero : flag (StageState.off == .on) = 0 := rfl
  rw [off, one, zero] at count
  rw [Nat.add_zero] at count
  exact Nat.le_trans (Nat.le_of_eq count) room

theorem testStageUp_moves (b : Bool) (s : State) : Moves A (s, b) (s.testStageUp, b) := by
  unfold State.testStageUp
  split
  next h =>
    split
    next i hi => exact energise_moves b s h.1 (lowestOff_off hi)
    · exact .refl
  · exact .refl

/-- R147, R148: the valve set by a re-judgement. -/
def State.valved (s : State) : State :=
  s.setHeat { s.heat with valve := if s.coolantUsable then s.heat.demand else 0 }

theorem rejudgeHeat_eq (s : State) : s.rejudgeHeat =
    if s.valved.stageLimit < s.valved.heat.energised then
      (s.valved.setHeat { s.valved.heat with
        stages := stageFalls (s.valved.heat.energised - s.valved.stageLimit) s.valved.heat.stages }).putHeatWord
    else s.valved.testStageUp := rfl

/-- R147, R148: a re-judgement of a changed unit leaves it within its budget, whatever the change. -/
theorem rejudgeHeat_setHeat_moves (b : Bool) (s : State) (h : HeatUnit) (sees : A .notice ∨ h.sees = s.heat.sees)
    (allowed : h.allowed = s.heat.allowed) :
    Moves A (s, b) ((s.setHeat h).rejudgeHeat, b) := by
  rw [rejudgeHeat_eq]
  generalize hu : (s.setHeat h).valved = u
  have valved : u = s.setHeat u.heat := by rw [← hu]; rfl
  have seen : u.heat.sees = h.sees := by rw [← hu]; rfl
  have count : u.heat.allowed = s.heat.allowed := by rw [← hu]; exact allowed
  split
  · rw [show u.setHeat { u.heat with stages := stageFalls (u.heat.energised - u.stageLimit) u.heat.stages } =
      s.setHeat { u.heat with stages := stageFalls (u.heat.energised - u.stageLimit) u.heat.stages } by rw [← hu]; rfl]
    refine .trans (.single (.heat s b _ (.inr (by exact count)) (.inr fun _ => ?_) ?_)) (putHeatWord_moves b _)
    · refine withinBudget_of_le (s := u) rfl rfl ?_
      show (stageFalls _ _).toList.countP (fun x => x == .on) ≤ _
      rw [countOn_stageFalls]
      have : u.heat.energised = u.heat.stages.toList.countP (fun x => x == .on) := rfl
      omega
    · exact sees.imp id fun k => seen.trans k
  next le =>
    have first : Moves A (s, b) (u, b) := by
      rw [valved]
      exact .single (.heat s b _ (.inr count) (.inr fun _ => withinBudget_of_le (s := u) rfl rfl (by omega))
        (sees.imp id fun k => seen.trans k))
    exact first.trans (testStageUp_moves b u)

theorem rejudgeHeat_moves (b : Bool) (s : State) : Moves A (s, b) (s.rejudgeHeat, b) :=
  rejudgeHeat_setHeat_moves b s s.heat (.inr rfl) rfl

theorem handHeat_moves (b : Bool) (s : State) (d : Nat) : Moves A (s, b) (s.handHeat d, b) :=
  rejudgeHeat_setHeat_moves b s _ (.inr rfl) rfl

theorem rejudgeWatch_moves (b : Bool) (s : State) : Moves A (s, b) (s.rejudgeWatch, b) := by
  unfold State.rejudgeWatch
  split
  · exact setHeat_moves b s rfl rfl rfl
  · exact setHeat_moves b s rfl rfl rfl
  · exact .refl

theorem handBlower_moves (b : Bool) (s : State) (v : Nat) : Moves A (s, b) (s.handBlower v, b) := by
  unfold State.handBlower
  refine (rejudgeWatch_moves b _).behind ?_
  exact setHeat_moves b s rfl rfl rfl

theorem setSpeed_moves (b : Bool) (s : State) (v : Nat) : Moves A (s, b) (s.setSpeed v, b) := by
  unfold State.setSpeed
  split
  · exact .refl
  · refine (rejudgeWatch_moves b _).behind ((putStatus_moves b _ _ _).behind ?_)
    exact setHeat_moves b s rfl rfl rfl

/-! ### Lanes told of dampers (R17, R26) -/

/-- An order exchanged for one of the same slot and the same fields, in a lane of the same state. -/
theorem setOrder_moves (b : Bool) {s : State} {l : LaneId} {o o' : ActiveOrder} (ho : (s.lanes.get l).order = some o)
    (slot : o'.slot = o.slot) (fields : o'.fields = o.fields) : Moves A (s, b) (s.setOrder l o', b) := by
  refine .single (.lane s b b l _ ⟨fun agrees => ?_, fun _ k => k⟩ fun k => ⟨k, ?_, Iff.rfl, rfl⟩)
  · simp only [Lane.orderAgrees, ho] at agrees
    simpa only [Lane.orderAgrees, slot, fields] using agrees
  · simp [Lane.inForce, Lane.engaged, ho, fields]

theorem leaveSettle_moves {again : State → State} (ha : ∀ b t, Moves A (t, b) (again t, b)) (b : Bool) (slow : Bool)
    {l : LaneId} {s : State} (hs : (s.lanes.get l).state = .settle) :
    Moves A (s, b) (s.leaveSettle again slow l, b) := by
  unfold State.leaveSettle
  split
  · exact .refl
  next o ho =>
    refine (ha b _).behind ((putLaneStatus_moves b _ l).behind ?_)
    refine .single (.lane s b b l _ ⟨fun agrees => ?_, fun _ k => k⟩ fun k => ⟨k, ?_, ?_, rfl⟩)
    · simp only [Lane.orderAgrees, ho, hs] at agrees
      simpa [Lane.orderAgrees] using agrees
    · simp [Lane.inForce, Lane.engaged, ho, hs]
    · simp [hs]

theorem noteJam_moves (b : Bool) (d : Fin 8) (l : LaneId) (s : State) : Moves A (s, b) (s.noteJam d l, b) := by
  unfold State.noteJam
  split
  next o ho =>
    split
    · exact setOrder_moves b ho rfl rfl
    · exact .refl
  · exact .refl

theorem testSettle_moves {again : State → State} (ha : ∀ b t, Moves A (t, b) (again t, b)) (b : Bool)
    (e : Option LaneId) {l : LaneId} {s : State} (hs : (s.lanes.get l).state = .settle) :
    Moves A (s, b) (s.testSettle again e l, b) := by
  unfold State.testSettle
  split
  · exact leaveSettle_moves ha b _ hs
  · exact .refl

theorem tellLane_moves {again : State → State} (ha : ∀ b t, Moves A (t, b) (again t, b)) (b : Bool)
    (e : Option LaneId) (d : Fin 8) (l : LaneId) (s : State) : Moves A (s, b) (s.tellLane again e d l, b) := by
  unfold State.tellLane
  split
  · split
    next hs =>
      by_cases hd : d = l.damper
      · rw [if_pos hd]
        exact (testSettle_moves ha b e ((noteJam_state d l s).trans hs)).behind (noteJam_moves b d l s)
      · rw [if_neg hd]
        exact testSettle_moves ha b e hs
    · exact noteJam_moves b d l s
    · exact noteJam_moves b d l s
    · exact .refl
  · exact .refl

theorem handOnDamper_moves {again : State → State} (ha : ∀ b t, Moves A (t, b) (again t, b)) (b : Bool)
    (e : Option LaneId) (d : Fin 8) (s : State) : Moves A (s, b) (s.handOnDamper again e d, b) :=
  (putStatus_moves b s _ _).trans (each_moves b (fun l t => tellLane_moves ha b e d l t) _ _)

/-! ### Motion (R131 to R136) -/

theorem setDamper_moves (b : Bool) (s : State) {d : Fin 8} {x : Damper}
    (waits : x.state = .waiting ↔ (s.damper d).state = .waiting)
    (grants : x.granted = true → (s.damper d).granted = true) : Moves A (s, b) (s.setDamper d x, b) :=
  .single (.drive s b _ (.edit d x waits grants))

/-- A damper with a grant goes anywhere but back into the queue. -/
theorem setDamper_of_granted_moves (b : Bool) (s : State) {d : Fin 8} {x : Damper} (granted : (s.damper d).granted = true)
    (leaves : x.state ≠ .waiting) : Moves A (s, b) (s.setDamper d x, b) := by
  refine setDamper_moves b s ⟨fun k => absurd k leaves, fun k => ?_⟩ fun _ => granted
  simp [Damper.granted, k] at granted

/-- R135: where the planned end of MOVING leaves a damper: seated against a stop, or at rest. -/
theorem reachTarget_eq (again : State → State) (e : Option LaneId) (d : Fin 8) (p : Plan) (s : State) :
    ∃ x : Damper, x.state ≠ .waiting ∧ s.reachTarget again e d p = (s.setDamper d x).handOnDamper again e d := by
  unfold State.reachTarget
  simp only
  split
  · exact ⟨_, by simp, rfl⟩
  · exact ⟨_, by simp, rfl⟩

/-- R134, R136: where a new plan leaves a damper. -/
theorem moveFrom_eq (again : State → State) (e : Option LaneId) (d : Fin 8) (n : Nat) (s : State) :
    ∃ x : Damper, x.state ≠ .waiting ∧ s.moveFrom again e d n = (s.setDamper d x).handOnDamper again e d := by
  unfold State.moveFrom
  simp only
  split
  · exact reachTarget_eq again e d _ s
  · exact ⟨_, by simp, rfl⟩

theorem moveFrom_moves {again : State → State} (ha : ∀ b t, Moves A (t, b) (again t, b)) (b : Bool)
    (e : Option LaneId) {d : Fin 8} (n : Nat) {s : State} (granted : (s.damper d).granted = true) :
    Moves A (s, b) (s.moveFrom again e d n, b) := by
  obtain ⟨x, leaves, eq⟩ := moveFrom_eq again e d n s
  rw [eq]
  exact (handOnDamper_moves ha b e d _).behind (setDamper_of_granted_moves b s granted leaves)

theorem grantHead_moves {again : State → State} (ha : ∀ b t, Moves A (t, b) (again t, b)) (b : Bool)
    (e : Option LaneId) {s : State} (free : s.grantsInUse < s.lay.motionGrants) :
    Moves A (s, b) (s.grantHead again e, b) := by
  unfold State.grantHead
  split
  · exact .refl
  next m ms hq =>
    have given (x : Damper) (leaves : x.state ≠ .waiting) : Moves A (s, b)
        (({ s with drive := { s.drive with queue := ms } } : State).setDamper m.damper x, b) :=
      .single (.drive s b _ (.grant m ms x hq free leaves))
    simp only
    split
    · exact (handOnDamper_moves ha b e _ _).behind (given _ (by simp))
    · obtain ⟨x, leaves, eq⟩ := moveFrom_eq again e m.damper
        ((State.damper { s with drive := { s.drive with queue := ms } } m.damper).estimate.getD 0)
        { s with drive := { s.drive with queue := ms } }
      rw [eq]
      exact (handOnDamper_moves ha b e _ _).behind (given x leaves)

theorem grant_moves {again : State → State} (ha : ∀ b t, Moves A (t, b) (again t, b)) (b : Bool)
    (e : Option LaneId) (s : State) : Moves A (s, b) (s.grant again e, b) := by
  have given (n : Nat) (t : State) : Moves A (t, b) (State.giveGrants again e n t, b) := by
    induction n generalizing t with
    | zero => exact .refl
    | succ n ih =>
      unfold State.giveGrants
      split
      next free => exact (grantHead_moves ha b e free).trans (ih _)
      · exact .refl
  exact given _ _

theorem joinMotion_moves {again : State → State} (ha : ∀ b t, Moves A (t, b) (again t, b)) (b : Bool)
    (e : Option LaneId) {d : Fin 8} {s : State} (before : (s.damper d).state ≠ .waiting) :
    Moves A (s, b) (s.joinMotion again e d, b) := by
  unfold State.joinMotion
  refine (grant_moves ha b e _).behind ((handOnDamper_moves ha b e d _).behind ?_)
  exact .single (.drive s b _ (.join d _ false rfl before))

theorem replan_moves {again : State → State} (ha : ∀ b t, Moves A (t, b) (again t, b)) (b : Bool)
    (e : Option LaneId) {d : Fin 8} (n : Nat) {s : State} (granted : (s.damper d).granted = true) :
    Moves A (s, b) (s.replan again e d n, b) := by
  unfold State.replan
  simp only
  split
  · exact (grant_moves ha b e _).behind (moveFrom_moves ha b e n granted)
  · exact moveFrom_moves ha b e n granted

theorem takeTarget_moves {again : State → State} (ha : ∀ b t, Moves A (t, b) (again t, b)) (b : Bool)
    (e : Option LaneId) (d : Fin 8) (g : Nat) (s : State) : Moves A (s, b) (s.takeTarget again e d g, b) := by
  unfold State.takeTarget
  simp only
  generalize hu : s.setDamper d { s.damper d with target := g } = u
  have first : Moves A (s, b) (u, b) := by
    rw [← hu]
    exact setDamper_moves b s Iff.rfl id
  refine first.trans ?_
  split
  next hs _ =>
    split
    · exact .refl
    · exact joinMotion_moves ha b e (by simp [hs])
  · split
    · exact (handOnDamper_moves ha b e d _).behind (.single (.drive u b _ (.leave d _ rfl)))
    · exact .refl
  next hs => exact replan_moves ha b e _ (by simp [Damper.granted, hs])
  next hs _ => exact replan_moves ha b e _ (by simp [Damper.granted, hs])
  · exact .refl

/-! ### The recompute (R30 to R33) -/

theorem putMixWords_moves (b : Bool) (s : State) (old new : Mix) : Moves A (s, b) (s.putMixWords old new, b) := by
  refine each_moves b (fun w t => ?_) _ s
  split
  · exact .refl
  · exact putStatus_moves b t _ _

theorem tellDenied_moves (b : Bool) (m : Mix) (l : LaneId) (s : State) : Moves A (s, b) (s.tellDenied m l, b) := by
  unfold State.tellDenied
  split
  · split
    next o ho => exact setOrder_moves b ho rfl rfl
    · exact .refl
  · exact .refl

theorem handTarget_moves {again : State → State} (ha : ∀ b t, Moves A (t, b) (again t, b)) (b : Bool)
    (e : Option LaneId) (entry : Bool) (old new : Mix) (d : Fin 8) (s : State) :
    Moves A (s, b) (s.handTarget again e entry old new d, b) := by
  unfold State.handTarget
  split
  · exact takeTarget_moves ha b e d _ s
  · exact .refl

theorem recomputeOnce_moves {again : State → State} (ha : ∀ b t, Moves A (t, b) (again t, b)) (b : Bool)
    (e : Option LaneId) (entry : Bool) (dp : Option Nat) (s : State) :
    Moves A (s, b) (s.recomputeOnce again e entry dp, false) := by
  unfold State.recomputeOnce
  simp only
  refine (each_moves false (fun l t => tellDenied_moves false _ l t) _ _).behind ((handHeat_moves false _ _).behind ?_)
  have targets : Moves A (s, b) ((State.putMixWords
      { s with governor := { s.governor with mix := (s.nextMix dp).1, chosen := (s.nextMix dp).2 } }
      s.governor.mix (s.nextMix dp).1).each allDampers
        (State.handTarget again e entry s.governor.mix (s.nextMix dp).1), false) :=
    (each_moves false (fun d t => handTarget_moves ha false e entry _ _ d t) _ _).behind
      ((putMixWords_moves false _ _ _).behind (.single (.mix s b dp)))
  split
  · exact (handBlower_moves false _ _).behind targets
  · exact targets

theorem recomputeAt_moves (b : Bool) (e : Option LaneId) (n : Nat) (entry : Bool) (dp : Option Nat) (s : State) :
    Moves A (s, b) (State.recomputeAt e n entry dp s, false) := by
  induction n generalizing b entry dp s with
  | zero => exact recomputeOnce_moves (fun _ _ => .refl) b e entry dp s
  | succ n ih => exact recomputeOnce_moves (fun b t => (ih b false none t).lagging b) b e entry dp s

theorem recomputeFor_moves (b : Bool) (e : Option LaneId) (s : State) :
    Moves A (s, b) (s.recomputeFor e, false) := by
  unfold State.recomputeFor
  split
  · exact recomputeAt_moves b e 3 false none s
  next h => exact .single (.outside s b h)

/-- R30: a recompute, after which the Mix Record lags behind nothing. -/
theorem recompute_moves (b : Bool) (s : State) : Moves A (s, b) (s.recompute, false) := recomputeFor_moves b none s

theorem recomputeConversion_moves (b : Bool) (s : State) (dp : Option Nat) :
    Moves A (s, b) (s.recomputeConversion dp, false) := by
  unfold State.recomputeConversion
  split
  · exact recomputeAt_moves b none 3 false dp s
  next h => exact .single (.outside s b h)

theorem recomputeEntry_moves (b : Bool) (s : State) : Moves A (s, b) (s.recomputeEntry, false) := by
  unfold State.recomputeEntry
  split
  · exact recomputeAt_moves b none 3 true none s
  next h => exact .single (.outside s b h)

theorem recompute_again (b : Bool) (s : State) : Moves A (s, b) (s.recompute, b) := (recompute_moves b s).lagging b

end Sys2Proof.Machine
end

section
/-! PROOFS. The moves of the Event Writer and of the Order Lanes (chapters 1 and 12). -/

namespace Sys2Proof.Machine

variable {A : Freedom → Prop}

/-! ### Events (R175, R179) -/

theorem emit_dropped {s : State} (h : s.part ≠ .running) (e : Event) : s.emit e = s := if_neg h

theorem emit_appended {s : State} (h : s.part = .running) (room : s.unread + 1 < s.lay.eventSize) (e : Event) :
    s.emit e = s.appendRecord e := (if_pos h).trans (if_pos room)

theorem emit_counted {s : State} (h : s.part = .running) (full : ¬ s.unread + 1 < s.lay.eventSize) (e : Event) :
    s.emit e = { s with events := { s.events with overrun := min (s.events.overrun + 1) 65535 } } :=
  (if_pos h).trans (if_neg full)

theorem setEvents_outers (s : State) {e : EventWriter} (consumer : e.consumer = s.events.consumer)
    (producer : e.producer = s.events.producer) : Outers s { s with events := e } :=
  .single (.events s e (.inl consumer) (.inl producer))

theorem appendRecord_outers (s : State) (e : Event) : Outers s (s.appendRecord e) := by
  unfold State.appendRecord
  refine (offer_outers _ _ _).behind (.tail ?_ (.events _ _ (.inl (by rfl)) (.inr (by rfl))))
  exact (offerAs_outers _ _ _ _).behind ((offer_outers _ _ _).behind ((offer_outers _ _ _).behind (offer_outers s _ _)))

theorem emit_outers (s : State) (e : Event) : Outers s (s.emit e) := by
  unfold State.emit
  split
  · split
    · exact appendRecord_outers s e
    · exact setEvents_outers s rfl rfl
  · exact .refl

theorem placeReads_outers (s : State) (placer : Placer) (addrs : List Nat) : Outers s (s.placeReads placer addrs) :=
  .single (.port s _ ⟨id, id, id⟩)

theorem guardSlot_outers (s : State) (g : LaneId × Nat) :
    Outers s { s with port := { s.port with guards := s.port.guards ++ [g] } } := .single (.port s _ ⟨id, id, id⟩)

theorem relamp_outers (s : State) : Outers s s.relamp := by
  unfold State.relamp
  simp only
  split
  · exact .refl
  · exact setEvents_outers s rfl rfl

theorem setEvents_moves (b : Bool) (s : State) {e : EventWriter} (consumer : e.consumer = s.events.consumer)
    (producer : e.producer = s.events.producer) : Moves A (s, b) ({ s with events := e }, b) :=
  (setEvents_outers s consumer producer).moves b

theorem emit_moves (b : Bool) (s : State) (e : Event) : Moves A (s, b) (s.emit e, b) := (emit_outers s e).moves b

theorem relamp_moves (b : Bool) (s : State) : Moves A (s, b) (s.relamp, b) := (relamp_outers s).moves b

theorem tellLamp_moves (b : Bool) (k : HoldKey) (present : Bool) (s : State) :
    Moves A (s, b) (s.tellLamp k present, b) := by
  unfold State.tellLamp
  split
  · exact (relamp_moves b _).behind (setEvents_moves b s rfl rfl)
  · exact (relamp_moves b _).behind (setEvents_moves b s rfl rfl)
  · exact (relamp_moves b _).behind (setEvents_moves b s rfl rfl)
  · exact .refl

/-! ### A lane replaced twice (R22, R23) -/

theorem setLane_setLane (s : State) (l : LaneId) (x y : Lane) : (s.setLane l x).setLane l y = s.setLane l y := by
  cases l <;> rfl

theorem setLane_get (s : State) (l : LaneId) : s.setLane l (s.lanes.get l) = s := by cases l <;> rfl

theorem emit_setLane (s : State) (l : LaneId) (x : Lane) (e : Event) :
    (s.setLane l x).emit e = (s.emit e).setLane l x := by
  by_cases running : s.part = .running
  · by_cases room : s.unread + 1 < s.lay.eventSize
    · rw [emit_appended running room, emit_appended (s := s.setLane l x) running room]
      rfl
    · rw [emit_counted running room, emit_counted (s := s.setLane l x) running room]
      rfl
  · rw [emit_dropped running, emit_dropped (s := s.setLane l x) running]

theorem emit_lanes (s : State) (e : Event) : (s.emit e).lanes = s.lanes := by
  unfold State.emit
  split
  · split <;> rfl
  · rfl

/-! ### Passages of a lane (R11, R22, R23) -/

/-- The indices of a lane stay inside its ring. -/
def Lane.InsideRing (size : Nat) (x y : Lane) : Prop :=
  size ≠ 0 → x.consumer < size ∧ x.mirror < size → y.consumer < size ∧ y.mirror < size

section
variable (b : Bool) (s : State) (l : LaneId) (x : Lane) (inside : (s.lanes.get l).InsideRing (s.ringSize l) x)
include inside

theorem beginFetch_setLane_moves : Moves A (s, b) ((s.setLane l x).beginFetch l, false) := by
  unfold State.beginFetch
  simp only [setLane_lanes, PerLane.get_set_same, setLane_setLane]
  refine (recompute_moves true _).behind (((placeReads_outers _ _ _).moves true).behind ?_)
  refine (putLaneStatus_moves true _ l).behind (((guardSlot_outers _ _).moves true).behind ?_)
  exact .single (.lane s b true l _ ⟨fun _ => ⟨rfl, .inl rfl⟩, inside⟩ (by simp))

theorem goIdle_setLane_moves : Moves A (s, b) ((s.setLane l x).goIdle l, false) := by
  unfold State.goIdle
  simp only [setLane_lanes, PerLane.get_set_same, setLane_setLane]
  refine (recompute_moves true _).behind ((putLaneStatus_moves true _ l).behind ?_)
  exact .single (.lane s b true l _ ⟨fun _ => .inr (.inr rfl), inside⟩ (by simp))

theorem goStopped_setLane_moves (code : Completion) : Moves A (s, b) ((s.setLane l x).goStopped l code, false) := by
  unfold State.goStopped
  simp only [setLane_lanes, PerLane.get_set_same, setLane_setLane]
  refine (recompute_moves true _).behind ((emit_moves true _ _).behind ((putLaneStatus_moves true _ l).behind ?_))
  exact .single (.lane s b true l _ ⟨fun _ => .inr (.inl rfl), inside⟩ (by simp))

theorem fetchOrIdle_setLane_moves : Moves A (s, b) ((s.setLane l x).fetchOrIdle l, false) := by
  unfold State.fetchOrIdle
  split
  · exact beginFetch_setLane_moves b s l x inside
  · exact goIdle_setLane_moves b s l x inside

end

theorem beginFetch_moves (b : Bool) (l : LaneId) (s : State) : Moves A (s, b) (s.beginFetch l, false) := by
  simpa only [setLane_get] using beginFetch_setLane_moves (A := A) b s l _ fun _ k => k

theorem goStopped_moves (b : Bool) (l : LaneId) (code : Completion) (s : State) :
    Moves A (s, b) (s.goStopped l code, false) := by
  simpa only [setLane_get] using goStopped_setLane_moves (A := A) b s l _ (fun _ k => k) code

theorem fetchOrIdle_moves (b : Bool) (l : LaneId) (s : State) : Moves A (s, b) (s.fetchOrIdle l, false) := by
  simpa only [setLane_get] using fetchOrIdle_setLane_moves (A := A) b s l _ fun _ k => k

/-! ### Ends of orders (R9, R16, R22) -/

/-- R22: the three writes of an order's end, and its event. -/
def State.endTold (s : State) (l : LaneId) (o : ActiveOrder) (code : Completion) : State :=
  let t := ((s.offer (s.slotWord l o.slot 5) (slotStatusWord code o.flags o.retries)).offerAs (.endTag l o.slot)
    (s.slotWord l o.slot 7) s.tagClock).offer (s.laneWord l 2) (w16 (((s.lanes.get l).consumer + 1) % s.ringSize l))
  if (o.fields.map OrderFields.reportEnd).getD false || code != .done
  then t.emit { kind := .orderEnded, subject := laneSlotWord l o.slot, value := w16 code.code } else t

/-- R22: a lane past the slot of its order. -/
def Lane.advanced (x : Lane) (size : Nat) : Lane := { x with consumer := (x.consumer + 1) % size }

theorem Lane.advanced_inside (x : Lane) (size : Nat) : x.InsideRing size (x.advanced size) := fun some h =>
  ⟨Nat.mod_lt _ (Nat.pos_of_ne_zero some), h.2⟩

/-- R22, R23: the end of an order: its writes and its event, then the passage of the lane past its slot. -/
theorem endOrder_eq {s : State} {l : LaneId} {o : ActiveOrder} (ho : (s.lanes.get l).order = some o) (code : Completion)
    (fails : Bool) : s.endOrder l code fails =
      let t := (s.endTold l o code).setLane l ((s.lanes.get l).advanced (s.ringSize l))
      if stopsAfter (s.lanes.get l).stopPending fails code then t.goStopped l code else t.fetchOrIdle l := by
  unfold State.endOrder
  rw [ho]
  simp only
  have told : (if ((o.fields.map OrderFields.reportEnd).getD false || code != .done) = true
      then (s.queueEnd l o code).emit { kind := .orderEnded, subject := laneSlotWord l o.slot, value := w16 code.code }
      else s.queueEnd l o code) = (s.endTold l o code).setLane l ((s.lanes.get l).advanced (s.ringSize l)) := by
    unfold State.endTold
    simp only
    split
    · rw [← emit_setLane]; rfl
    · rfl
  rw [told]
  simp only [setLane_lanes, PerLane.get_set_same]
  rfl

theorem endTold_moves (b : Bool) (s : State) (l : LaneId) (o : ActiveOrder) (code : Completion) :
    Moves A (s, b) (s.endTold l o code, b) := by
  unfold State.endTold
  simp only
  have queued : Moves A (s, b) (((s.offer (s.slotWord l o.slot 5) (slotStatusWord code o.flags o.retries)).offerAs
      (.endTag l o.slot) (s.slotWord l o.slot 7) s.tagClock).offer (s.laneWord l 2)
        (w16 (((s.lanes.get l).consumer + 1) % s.ringSize l)), b) :=
    (offer_moves b _ _ _).behind ((offerAs_moves b _ _ _ _).behind (offer_moves b s _ _))
  split
  · exact (emit_moves b _ _).behind queued
  · exact queued

theorem endTold_lanes (s : State) (l : LaneId) (o : ActiveOrder) (code : Completion) :
    (s.endTold l o code).lanes = s.lanes := by
  unfold State.endTold
  simp only
  split
  · rw [emit_lanes]; rfl
  · rfl

theorem endTold_lower (s : State) (l : LaneId) (o : ActiveOrder) (code : Completion) :
    (s.endTold l o code).lower = s.lower := by
  unfold State.endTold
  simp only
  split
  · rw [emit_lower, offer_lower, offerAs_lower, offer_lower]
  · rw [offer_lower, offerAs_lower, offer_lower]

theorem lay_of_lower {s t : State} (h : t.lower = s.lower) : t.lay = s.lay := by
  have layout : t.layout = s.layout := congrArg (fun k => k.layout) h
  simp [State.lay, layout]

theorem endOrder_moves (l : LaneId) (code : Completion) (fails : Bool) (s : State) (b : Bool) :
    Moves A (s, b) (s.endOrder l code fails, b) := by
  cases ho : (s.lanes.get l).order with
  | none => simp only [State.endOrder, ho]; exact .refl
  | some o =>
    rw [endOrder_eq ho]
    have inside : ((s.endTold l o code).lanes.get l).InsideRing ((s.endTold l o code).ringSize l)
        ((s.lanes.get l).advanced (s.ringSize l)) := by
      rw [endTold_lanes, State.ringSize, lay_of_lower (endTold_lower s l o code)]
      exact Lane.advanced_inside _ _
    refine (endTold_moves b s l o code).trans ?_
    simp only
    split
    · exact (goStopped_setLane_moves b _ l _ inside code).lagging b
    · exact (fetchOrIdle_setLane_moves b _ l _ inside).lagging b

theorem withdrawLane_moves (b : Bool) (l : LaneId) (s : State) : Moves A (s, b) (s.withdrawLane l, b) := by
  unfold State.withdrawLane
  split
  · exact .refl
  · exact each_moves b (fun c t => withdrawSpot_moves b t _ c) _ s

theorem cutOrder_moves (b : Bool) (l : LaneId) (code : Completion) (s : State) :
    Moves A (s, b) (s.cutOrder l code, b) :=
  (withdrawLane_moves b l s).trans (endOrder_moves l code false _ b)

/-! ### Settle, holds and start (R14 to R17) -/

theorem enterSettle_moves (b : Bool) {l : LaneId} {s : State} {o : ActiveOrder}
    (ho : (s.lanes.get l).order = some o) (started : o.fields.isSome = true) :
    Moves A (s, b) (s.enterSettle l, false) := by
  unfold State.enterSettle
  rw [ho]
  simp only
  generalize hu : State.recomputeFor (some l) _ = u
  have settled : Moves A (s, b) (u, false) := by
    rw [← hu]
    refine (recomputeFor_moves true (some l) _).behind ((putLaneStatus_moves true _ l).behind ?_)
    refine .single (.lane s b true l _ ⟨fun agrees => ?_, fun _ k => k⟩ (by simp))
    simp only [Lane.orderAgrees, ho] at agrees
    exact ⟨agrees.1, .inr ⟨.inl rfl, started⟩⟩
  split
  next h => exact (leaveSettle_moves recompute_again false false h.1).behind settled
  · exact settled

theorem offerHold_moves (b : Bool) (k : HoldKey) (l : LaneId) (s : State) : Moves A (s, b) (s.offerHold k l, b) := by
  unfold State.offerHold
  simp only
  split
  next o _ ho =>
    split
    · split
      · exact cutOrder_moves b l _ s
      · exact setOrder_moves b ho rfl rfl
    · exact .refl
  · exact .refl

/-- R14: the writes and the event of an order's start. -/
def State.startTold (s : State) (l : LaneId) (o : ActiveOrder) (f : OrderFields) (flags : StickyFlags) : State :=
  let t := (s.offer (s.slotWord l o.slot 5) (slotStatusWord .inProgress flags 0)).offer (s.slotWord l o.slot 6) s.tagClock
  if f.reportStart then t.emit { kind := .orderStarted, subject := laneSlotWord l o.slot, value := 0 } else t

/-- R14: an order as it starts. -/
def ActiveOrder.started (o : ActiveOrder) (f : OrderFields) (overridden : Bool) : ActiveOrder :=
  { o with fields := some f, flags := { o.flags with overridden := overridden } }

/-- R14: whether a hold that stands affects the zone of an order that starts. -/
def State.overriddenAtStart (s : State) (l : LaneId) (f : OrderFields) : Bool :=
  s.holds.any (fun r => r.key.affects l f.targetPresent)

theorem startTold_lanes (s : State) (l : LaneId) (o : ActiveOrder) (f : OrderFields) (g : StickyFlags) :
    (s.startTold l o f g).lanes = s.lanes := by
  unfold State.startTold
  simp only
  split
  · rw [emit_lanes]; rfl
  · rfl

theorem startTold_moves (b : Bool) (s : State) (l : LaneId) (o : ActiveOrder) (f : OrderFields) (g : StickyFlags) :
    Moves A (s, b) (s.startTold l o f g, b) := by
  unfold State.startTold
  have queued : Moves A (s, b) ((s.offer (s.slotWord l o.slot 5) (slotStatusWord .inProgress g 0)).offer
      (s.slotWord l o.slot 6) s.tagClock, b) := (offer_moves b _ _ _).behind (offer_moves b s _ _)
  simp only
  split
  · exact (emit_moves b _ _).behind queued
  · exact queued

/-- R14: the start of an order: its writes and its event, then its record, then SETTLE. -/
theorem startOrder_eq {s : State} {l : LaneId} {o : ActiveOrder} (ho : (s.lanes.get l).order = some o) (f : OrderFields) :
    s.startOrder l f =
      let o' := o.started f (s.overriddenAtStart l f)
      ((s.startTold l o f o'.flags).setLane l
        { s.lanes.get l with order := some o', carried := f.demand }).enterSettle l := by
  unfold State.startOrder
  rw [ho]
  simp only
  rw [← startTold_lanes s l o f (o.started f (s.overriddenAtStart l f)).flags]
  rfl

theorem startOrder_moves {l : LaneId} {s : State} {o : ActiveOrder} (ho : (s.lanes.get l).order = some o) (b : Bool)
    (f : OrderFields) : Moves A (s, b) (s.startOrder l f, false) := by
  rw [startOrder_eq ho]
  dsimp only
  generalize s.overriddenAtStart l f = v
  refine (enterSettle_moves true (o := o.started f v) (by simp) rfl).behind ?_
  refine .tail (startTold_moves b s l o f _) (.lane _ b true l _ ⟨fun agrees => ?_, fun _ => ?_⟩ (by simp))
  · rw [startTold_lanes] at agrees
    simp only [Lane.orderAgrees, ho] at agrees
    exact ⟨agrees.1, agrees.2.imp id fun k => ⟨k.1, rfl⟩⟩
  · rw [startTold_lanes]
    exact id

/-! ### The end of a fetch, of a dwell, of a check (R13, R18 to R21) -/

theorem completeFetch_moves (b : Bool) {l : LaneId} {s : State} {o : ActiveOrder} (ho : (s.lanes.get l).order = some o) :
    Moves A (s, b) (s.completeFetch l o, b) := by
  unfold State.completeFetch
  split
  · exact endOrder_moves l _ _ s b
  · split
    · exact endOrder_moves l _ _ s b
    · exact (startOrder_moves ho b _).lagging b

theorem finishFetch_moves (b : Bool) (l : LaneId) (s : State) : Moves A (s, b) (s.finishFetch l, b) := by
  unfold State.finishFetch
  split
  next o ho =>
    split
    · exact completeFetch_moves b ho
    · exact .refl
  · exact .refl

theorem enterCheck_moves (spots : A .spots) (b : Bool) {l : LaneId} {s : State} {o : ActiveOrder} (ho : (s.lanes.get l).order = some o)
    (started : o.fields.isSome = true) (cs : List (Fin 16)) : Moves A (s, b) (s.enterCheck l o cs, false) := by
  unfold State.enterCheck
  simp only
  refine (each_moves false (fun c t => requestSpot_moves false t (.lane l) c (.inl spots)) cs _).behind ?_
  refine (recompute_moves true _).behind ((putLaneStatus_moves true _ l).behind ?_)
  refine .single (.lane s b true l _ ⟨fun agrees => ?_, fun _ k => k⟩ (by simp))
  simp only [Lane.orderAgrees, ho] at agrees
  exact ⟨agrees.1, .inr ⟨.inr (.inr rfl), started⟩⟩

theorem dwellExpires_moves (spots : A .spots) (b : Bool) (l : LaneId) (s : State) : Moves A (s, b) (s.dwellExpires l, b) := by
  unfold State.dwellExpires
  split
  · exact .refl
  next o ho =>
    split
    · exact .refl
    next f hf =>
      split
      · exact endOrder_moves l _ _ s b
      · exact (enterCheck_moves spots b ho (by simp [hf]) _).lagging b

/-- An order in the making: the lane's own but for what a check and a retry write in it. -/
structure ActiveOrder.Of (o p : ActiveOrder) : Prop where
  slot : p.slot = o.slot
  fields : p.fields = o.fields

theorem swapOnRetry_moves (b : Bool) {l : LaneId} {s : State} {o p : ActiveOrder} {f : OrderFields}
    (ho : (s.lanes.get l).order = some o) (of : o.Of p) (hf : o.fields = some f) :
    Moves A (s, b) (s.swapOnRetry l p f, b) := by
  unfold State.swapOnRetry
  split
  · simp only
    refine ((recompute_moves true _).lagging b).behind (.single (.lane s b true l _ ⟨fun agrees => ?_, fun _ k => k⟩ (by simp)))
    simp only [Lane.orderAgrees, ho, hf] at agrees
    exact ⟨of.slot.trans agrees.1, agrees.2.imp id fun k => ⟨k.1, rfl⟩⟩
  · exact setOrder_moves b ho of.slot of.fields

/-- R21: the order of a retried lane keeps its fields, but for the exchanged request. -/
theorem swapOnRetry_fields {l : LaneId} {s : State} {p : ActiveOrder} {f : OrderFields} (hp : p.fields = some f) :
    ∃ q, ((s.swapOnRetry l p f).lanes.get l).order = some q ∧ q.fields.isSome = true := by
  have some_of {x : Option ActiveOrder} {g : OrderFields} (h : x.map ActiveOrder.fields = some (some g)) :
      ∃ q, x = some q ∧ q.fields.isSome = true := by
    obtain ⟨q, rfl, hq⟩ := Option.map_eq_some_iff.1 h
    exact ⟨q, rfl, by simp [hq]⟩
  unfold State.swapOnRetry
  split
  · simp only
    generalize hu : State.setLane s l _ = u
    refine some_of (g := { f with source := f.source.swapped }) (((recompute_follows u).lanes l).fields.trans ?_)
    rw [← hu]
    simp
  · exact ⟨p, by simp [State.setOrder], by simp [hp]⟩

theorem retry_moves (b : Bool) {l : LaneId} {s : State} {o p : ActiveOrder} {f : OrderFields}
    (ho : (s.lanes.get l).order = some o) (of : o.Of p) (hf : o.fields = some f) :
    Moves A (s, b) (s.retry l p f, b) := by
  obtain ⟨q, hq, started⟩ := swapOnRetry_fields (s := s) (l := l)
    (p := { p with retries := p.retries + 1, flags := { p.flags with retried := true } }) (of.fields.trans hf)
  unfold State.retry
  simp only
  rw [hq]
  dsimp only
  refine ((enterSettle_moves b (by exact hq) started).lagging b).behind ((offer_moves b _ _ _).behind ?_)
  exact swapOnRetry_moves b ho ⟨of.slot, of.fields⟩ hf

theorem judgeCheck_moves (b : Bool) {l : LaneId} {s : State} {o : ActiveOrder} {f : OrderFields}
    (ho : (s.lanes.get l).order = some o) (hf : o.fields = some f) : Moves A (s, b) (s.judgeCheck l o f, b) := by
  unfold State.judgeCheck
  split
  · exact (endOrder_moves l _ _ _ b).behind (setOrder_moves b ho rfl rfl)
  · split
    · exact endOrder_moves l _ _ s b
    · split
      · exact retry_moves b ho ⟨rfl, rfl⟩ hf
      · exact endOrder_moves l _ _ s b

theorem deliverLane_moves (b : Bool) (l : LaneId) (r : SpotResult) (s : State) :
    Moves A (s, b) (s.deliverLane l r, b) := by
  unfold State.deliverLane
  split
  · exact .refl
  next o ho =>
    split
    · simp only
      have noted := setOrder_moves (A := A) b ho
        (o' := { o with awaited := o.awaited.filter (fun c => c ≠ r.channel), results := o.results ++ [r] }) rfl rfl
      split
      next f hf =>
        split
        · exact (judgeCheck_moves b (by simp [State.setOrder]) (by exact hf)).behind noted
        · exact noted
      · exact noted
    · exact .refl

/-! ### Lane commands and the producer word (R5 to R10) -/

theorem markStop_moves (b : Bool) (l : LaneId) (s : State) : Moves A (s, b) (s.markStop l, b) := by
  have marked : Moves A (s, b) ((s.setLane l { s.lanes.get l with stopPending := true }).putLaneStatus l, b) :=
    (putLaneStatus_moves b _ l).behind
      (.single (.lane s b b l _ ⟨id, fun _ k => k⟩ fun k => ⟨k, ⟨rfl, Iff.rfl, rfl⟩⟩))
  unfold State.markStop
  dsimp only
  generalize ((s.lanes.get l).stopPending || _) = still
  cases still
  · exact marked
  · exact .refl

theorem commandStart_moves (b : Bool) {l : LaneId} {s t : State} (h : s.commandStart l = some t) :
    Moves A (s, b) (t, b) := by
  unfold State.commandStart at h
  split at h
  · cases h
    exact (fetchOrIdle_moves b l s).lagging b
  · cases h

theorem commandStopAfter_moves (b : Bool) {l : LaneId} {s t : State} (h : s.commandStopAfter l = some t) :
    Moves A (s, b) (t, b) := by
  unfold State.commandStopAfter at h
  split at h <;> cases h
  · exact .refl
  · exact (goStopped_moves b l _ s).lagging b
  all_goals exact markStop_moves b l s

theorem commandAbort_moves (b : Bool) {l : LaneId} {s t : State} (h : s.commandAbort l = some t) :
    Moves A (s, b) (t, b) := by
  unfold State.commandAbort at h
  split at h
  · cases h
  · cases h; exact .refl
  · cases h; exact (goStopped_moves b l _ s).lagging b
  · split at h
    next o ho => cases h; exact setOrder_moves b ho rfl rfl
    · cases h; exact .refl
  all_goals cases h; exact cutOrder_moves b l _ s

theorem commandFlush_moves (b : Bool) {l : LaneId} {s t : State} (h : s.commandFlush l = some t) :
    Moves A (s, b) (t, b) := by
  unfold State.commandFlush at h
  split at h
  next hs =>
    simp only at h
    split at h <;> cases h
    · exact .refl
    · refine (offer_moves b _ _ _).behind (.single (.lane s b b l _ ⟨fun agrees => ?_, fun _ k => ⟨k.2, k.2⟩⟩ fun k => ⟨k, ?_⟩))
      · simp only [Lane.orderAgrees, hs] at agrees ⊢
        split at agrees <;> simp_all
      · exact ⟨rfl, Iff.rfl, rfl⟩
  · cases h

theorem laneCommand_moves (b : Bool) {l : LaneId} {code : Nat} {s t : State} (h : s.laneCommand l code = some t) :
    Moves A (s, b) (t, b) := by
  unfold State.laneCommand at h
  split at h
  · exact commandStart_moves b h
  · exact commandStopAfter_moves b h
  · exact commandAbort_moves b h
  · exact commandFlush_moves b h
  · cases h

theorem takeProducer_moves (b : Bool) (l : LaneId) {v : Nat} {s : State} (inside : v < s.ringSize l) :
    Moves A (s, b) (s.takeProducer l v, b) := by
  unfold State.takeProducer
  simp only
  have set : Moves A (s, b) (s.setLane l { s.lanes.get l with mirror := v }, b) :=
    .single (.lane s b b l _ ⟨id, fun _ k => ⟨k.1, inside⟩⟩ fun k => ⟨k, ⟨rfl, Iff.rfl, rfl⟩⟩)
  split
  · exact ((beginFetch_moves b l _).lagging b).behind set
  · exact set

end Sys2Proof.Machine
end

section
/-! PROOFS. The moves of the Hold Table (R51 to R56, R61). -/

namespace Sys2Proof.Machine

variable {A : Freedom → Prop}

/-! ### The records of a pair (R51, R52) -/

/-- The record of a pair among the records. -/
def findHold (k : HoldKey) (rs : List HoldRecord) : Option HoldRecord := rs.find? (fun r => decide (r.key = k))

/-- R55: the records without the pair. -/
def dropHold (k : HoldKey) (rs : List HoldRecord) : List HoldRecord := rs.eraseIdx (holdIndex k rs)

theorem holdsPair_eq (rs : List HoldRecord) (k : HoldKey) : holdsPair rs k = (findHold k rs).isSome := by
  rw [Bool.eq_iff_iff, findHold, List.find?_isSome]
  exact List.any_eq_true

theorem findHold_key {k : HoldKey} {rs : List HoldRecord} {r : HoldRecord} (h : findHold k rs = some r) : r.key = k := by
  simpa using List.find?_some h

theorem holdsPair_iff (rs : List HoldRecord) (k : HoldKey) : holdsPair rs k = true ↔ k ∈ rs.map HoldRecord.key := by
  simp [holdsPair]

theorem findHold_append (k : HoldKey) (rs : List HoldRecord) (r : HoldRecord) :
    findHold k (rs ++ [r]) = (findHold k rs).or (if r.key = k then some r else none) := by
  simp [findHold, List.find?_append, List.find?_singleton]

theorem dropHold_cons (k : HoldKey) (r : HoldRecord) (rs : List HoldRecord) :
    dropHold k (r :: rs) = if r.key = k then rs else r :: dropHold k rs := by
  by_cases h : r.key = k <;> simp [dropHold, holdIndex, List.findIdx_cons, h]

theorem findHold_dropHold_other {j k : HoldKey} (h : j ≠ k) (rs : List HoldRecord) :
    findHold j (dropHold k rs) = findHold j rs := by
  induction rs with
  | nil => rfl
  | cons r rs ih =>
    rw [dropHold_cons]
    by_cases hr : r.key = k
    · simp [findHold, hr, Ne.symm h]
    · rw [if_neg hr]
      simp only [findHold, List.find?_cons] at ih ⊢
      rw [ih]

theorem dropHold_sublist (k : HoldKey) (rs : List HoldRecord) : (dropHold k rs).Sublist rs := List.eraseIdx_sublist _ _

theorem DistinctKeys.dropHold {rs : List HoldRecord} (h : DistinctKeys rs) (k : HoldKey) :
    DistinctKeys (dropHold k rs) := h.sublist ((dropHold_sublist k rs).map _)

theorem findHold_dropHold_same {rs : List HoldRecord} (distinct : DistinctKeys rs) (k : HoldKey) :
    findHold k (dropHold k rs) = none := by
  induction rs with
  | nil => rfl
  | cons r rs ih =>
    obtain ⟨new, distinct⟩ := List.nodup_cons.1 distinct
    rw [dropHold_cons]
    by_cases hr : r.key = k
    · rw [if_pos hr]
      refine List.find?_eq_none.2 fun x hx => ?_
      have : x.key ≠ k := fun hk => new (by rw [hr, ← hk]; exact List.mem_map_of_mem hx)
      simpa using this
    · rw [if_neg hr]
      simpa [findHold, hr] using ih distinct

theorem DistinctKeys.append {rs : List HoldRecord} (h : DistinctKeys rs) {r : HoldRecord}
    (absent : holdsPair rs r.key = false) : DistinctKeys (rs ++ [r]) := by
  have new : r.key ∉ rs.map HoldRecord.key := fun k => by simp [(holdsPair_iff rs r.key).2 k] at absent
  unfold DistinctKeys
  rw [List.map_append]
  exact nodup_snoc h new

/-- The records with one pair's record edited in its place. -/
def editRecords (k : HoldKey) (f : HoldRecord → HoldRecord) (rs : List HoldRecord) : List HoldRecord :=
  rs.map (fun r => if r.key = k then f r else r)

section
variable {k : HoldKey} {f : HoldRecord → HoldRecord} (keys : ∀ r, (f r).key = r.key)
include keys

theorem editRecords_keys (rs : List HoldRecord) : (editRecords k f rs).map HoldRecord.key = rs.map HoldRecord.key := by
  rw [editRecords, List.map_map]
  refine List.map_congr_left fun r _ => ?_
  by_cases h : r.key = k <;> simp [h, keys]

theorem findHold_editRecords (j : HoldKey) (rs : List HoldRecord) :
    findHold j (editRecords k f rs) = (findHold j rs).map (fun r => if r.key = k then f r else r) := by
  rw [findHold, editRecords, List.find?_map]
  congr 2
  funext r
  by_cases h : r.key = k <;> simp [h, keys]

theorem DistinctKeys.edit {rs : List HoldRecord} (h : DistinctKeys rs) : DistinctKeys (editRecords k f rs) := by
  rwa [DistinctKeys, editRecords_keys keys]

theorem holdsPair_editRecords (j : HoldKey) (rs : List HoldRecord) :
    holdsPair (editRecords k f rs) j = holdsPair rs j := by
  simp [holdsPair_eq, findHold_editRecords keys]

end

/-! ### The PURGE record (R61) -/

theorem purgeHeld_iff (p : Purge) (rs : List HoldRecord) : PurgeHeld p rs ↔
    ((findHold .purge rs).isSome = true ↔ p.state ≠ .idle) ∧
      ∀ r, findHold .purge rs = some r → r.phase = some p.state := by
  rw [← holdsPair_eq]
  exact Iff.rfl

/-- R61: the hold follows the purge still, where neither has changed. -/
theorem PurgeHeld.of_same {p q : Purge} {rs ts : List HoldRecord} (h : PurgeHeld p rs) (state : q.state = p.state)
    (found : findHold .purge ts = findHold .purge rs) : PurgeHeld q ts := by
  rw [purgeHeld_iff] at h ⊢
  rwa [found, state]

/-- R61: a record of PURGE with the purge's phase stands. -/
theorem PurgeHeld.of_found {p : Purge} {rs : List HoldRecord} {r : HoldRecord} (found : findHold .purge rs = some r)
    (phase : r.phase = some p.state) (active : p.state ≠ .idle) : PurgeHeld p rs := by
  rw [purgeHeld_iff, found]
  refine ⟨iff_of_true rfl active, fun x hx => ?_⟩
  cases hx
  exact phase

theorem PurgeHeld.of_absent {p : Purge} {rs : List HoldRecord} (absent : findHold .purge rs = none)
    (idle : p.state = .idle) : PurgeHeld p rs := by
  rw [purgeHeld_iff, absent]
  refine ⟨iff_of_false (by simp) (by simp [idle]), fun x hx => ?_⟩
  cases hx

/-! ### Raises and releases of a pair (R54 to R56, R67, R68) -/

/-- R54: the record that a raise creates. -/
def State.newRecord (s : State) (k : HoldKey) (cause : HoldCause) (phase : Option PurgeState) : HoldRecord :=
  { key := k, cause := cause, raised := s.tagClock, notBefore := none, phase := phase }

/-- R56, R67: what follows the creation of a record as entry `n`. -/
def State.announceRaise (n : Nat) (r : HoldRecord) (s : State) : State :=
  (((s.putHoldCount.putHoldEntry n (some r)).emit
    { kind := .holdRaised, subject := r.word, value := w16 r.cause.code }).recompute).each allLanes (State.offerHold r.key)

theorem createHold_eq (k : HoldKey) (cause : HoldCause) (phase : Option PurgeState) (s : State) :
    s.createHold k cause phase = ({ s with holds := s.holds ++ [s.newRecord k cause phase] } : State).announceRaise
      s.holds.length (s.newRecord k cause phase) := rfl

/-- R56, R68: what follows the removal of a record at position `n`. -/
def State.announceRelease (n : Nat) (r : HoldRecord) (s : State) : State :=
  ((s.closeGap n s.holds).emit
    { kind := .holdReleased, subject := r.word, value := s.tagClock - r.raised }).recompute

theorem closeGap_lower (n : Nat) (rs : List HoldRecord) (s : State) : (s.closeGap n rs).lower = s.lower :=
  each_leaves State.lower (fun j t => t.putHoldEntry j _) (fun _ _ => rfl) _ _

theorem removeHold_eq (r : HoldRecord) (s : State) :
    s.removeHold r =
      ({ s with holds := dropHold r.key s.holds } : State).announceRelease (holdIndex r.key s.holds) r := by
  have clock (n : Nat) (rs : List HoldRecord) (t : State) : (t.closeGap n rs).tagClock = t.tagClock :=
    congrArg (fun x => x.tagClock) (closeGap_lower n rs t)
  unfold State.removeHold State.announceRelease
  simp only [clock]
  rfl

theorem announceRaise_moves (b : Bool) (n : Nat) (r : HoldRecord) (s : State) :
    Moves A (s, b) (s.announceRaise n r, false) := by
  unfold State.announceRaise
  refine (each_moves false (offerHold_moves false r.key) _ _).behind ((recompute_moves b _).behind ?_)
  refine (emit_moves b _ _).behind ((putStatus_moves b _ _ _).behind ((putStatus_moves b _ _ _).behind ?_))
  exact putStatus_moves b s _ _

theorem announceRelease_moves (b : Bool) (n : Nat) (r : HoldRecord) (s : State) :
    Moves A (s, b) (s.announceRelease n r, false) := by
  unfold State.announceRelease State.closeGap
  refine (recompute_moves b _).behind ((emit_moves b _ _).behind ?_)
  refine (each_moves b (fun j t => ?_) _ _).behind (putStatus_moves b s _ _)
  exact (putStatus_moves b _ _ _).behind (putStatus_moves b t _ _)

/-- R54: a raise of an absent pair other than PURGE. -/
theorem createHold_moves (b : Bool) {k : HoldKey} (other : k ≠ .purge) {s : State} (absent : s.hasHold k = false)
    (heat : A .notice ∨ k.heats = false) (cause : HoldCause) (phase : Option PurgeState) :
    Moves A (s, b) (s.createHold k cause phase, b) := by
  rw [createHold_eq]
  refine .trans (.single (.holds s b true _ ?_ ?_ ?_ (by simp))) ((announceRaise_moves true _ _ _).lagging b)
  · exact fun distinct => distinct.append absent
  · exact fun _ held => held.of_same rfl (by simp [findHold_append, State.newRecord, other])
  · refine heat.imp id fun still _ j hj => ?_
    have ne : k ≠ j := fun h => by simp [h, hj] at still
    simp [holdsPair_eq, findHold_append, State.newRecord, ne]

/-- R55: a release of a pair other than PURGE. -/
theorem removeHold_moves (b : Bool) {r : HoldRecord} (other : r.key ≠ .purge) (heat : A .notice ∨ r.key.heats = false)
    (s : State) : Moves A (s, b) (s.removeHold r, b) := by
  rw [removeHold_eq]
  refine .trans (.single (.holds s b true _ ?_ ?_ ?_ (by simp))) ((announceRelease_moves true _ _ _).lagging b)
  · exact fun distinct => distinct.dropHold _
  · exact fun _ held => held.of_same rfl (findHold_dropHold_other other.symm _)
  · refine heat.imp id fun still _ j hj => ?_
    have ne : j ≠ r.key := fun h => by simp [← h, hj] at still
    rw [holdsPair_eq, holdsPair_eq, findHold_dropHold_other ne]

/-- A record edited in its place keeps its pair and its phase. -/
theorem editHold_moves (b : Bool) (k : HoldKey) {f : HoldRecord → HoldRecord} (keys : ∀ r, (f r).key = r.key)
    (phases : ∀ r, (f r).phase = r.phase) (s : State) : Moves A (s, b) (s.editHold k f, b) := by
  refine .single (.holds s b b _ (fun h => h.edit keys) (fun _ held => ?_)
    (.inr fun _ j _ => holdsPair_editRecords keys j _) fun c => ⟨c, editRecords_keys keys _⟩)
  rw [purgeHeld_iff] at held ⊢
  show ((findHold .purge (editRecords k f s.holds)).isSome = true ↔ _) ∧
    ∀ r, findHold .purge (editRecords k f s.holds) = some r → _
  rw [findHold_editRecords keys]
  obtain ⟨stands, phase⟩ := held
  refine ⟨by simpa using stands, fun r hr => ?_⟩
  obtain ⟨x, hx, rfl⟩ := Option.map_eq_some_iff.1 hr
  split
  · rw [phases, phase x hx]
  · exact phase x hx

theorem dropNotBefore_moves (b : Bool) (k : HoldKey) (s : State) : Moves A (s, b) (s.dropNotBefore k, b) :=
  editHold_moves b k (f := fun r => { r with notBefore := none }) (fun _ => rfl) (fun _ => rfl) s

end Sys2Proof.Machine
end

section
/-! PROOFS. The moves of the Purge Controller and of the notices of the Hold Table (chapters 3 and 4). -/

namespace Sys2Proof.Machine

variable {A : Freedom → Prop}

/-! ### A change of the purge, past the spots and the event that go before its notices (R75) -/

theorem serveHead_setPurge (p : Purge) (s : State) : (s.setPurge p).serveHead = s.serveHead.setPurge p := by
  unfold State.serveHead
  rw [setPurge_scanner]
  split <;> rfl

theorem enterSpot_setPurge (p : Purge) (s : State) (r : Resume) :
    (s.setPurge p).enterSpot r = (s.enterSpot r).setPurge p :=
  serveHead_setPurge p (s.setScanner { s.scanner with resume := r, conversion := none })

theorem preemptScan_setPurge (p : Purge) (s : State) : (s.setPurge p).preemptScan = s.preemptScan.setPurge p := by
  unfold State.preemptScan
  rw [setPurge_scanner]
  split
  next e _ =>
    rw [setPurge_now]
    split
    · exact enterSpot_setPurge p (s.setScanner { s.scanner with passStart := e.start, ended := none }) _
    · exact enterSpot_setPurge p s _
  · exact enterSpot_setPurge p s _

theorem requestSpot_setPurge (p : Purge) (s : State) (r : Requester) (c : Fin 16) :
    (s.setPurge p).requestSpot r c = (s.requestSpot r c).setPurge p := by
  by_cases running : s.part = .running
  · rw [requestSpot_running running, requestSpot_running (s := s.setPurge p) running, setPurge_scanner]
    split
    · rfl
    · split
      · exact preemptScan_setPurge p (s.joined r c)
      · rfl
    · exact enterSpot_setPurge p (s.joined r c) _
    · exact enterSpot_setPurge p (s.joined r c) _
  · rw [requestSpot_not_running running, requestSpot_not_running (s := s.setPurge p) running]

theorem emit_setPurge (p : Purge) (s : State) (e : Event) : (s.setPurge p).emit e = (s.emit e).setPurge p := by
  by_cases running : s.part = .running
  · by_cases room : s.unread + 1 < s.lay.eventSize
    · rw [emit_appended running room, emit_appended (s := s.setPurge p) running room]
      rfl
    · rw [emit_counted running room, emit_counted (s := s.setPurge p) running room]
      rfl
  · rw [emit_dropped running, emit_dropped (s := s.setPurge p) running]

theorem each_setPurge {α : Type} {f : α → State → State} (p : Purge)
    (h : ∀ x t, f x (State.setPurge p t) = (f x t).setPurge p) (xs : List α) (s : State) :
    (s.setPurge p).each xs f = (s.each xs f).setPurge p := by
  unfold State.each
  induction xs generalizing s with
  | nil => rfl
  | cons x xs ih => rw [List.foldl_cons, h, ih, List.foldl_cons]

theorem purgeSpots_setPurge (p old new : Purge) (s : State) :
    (s.setPurge p).purgeSpots old new = (s.purgeSpots old new).setPurge p := by
  unfold State.purgeSpots
  have withdrawn (t : State) : (t.setPurge p).each old.awaited (fun c t => t.withdrawSpot .purge c) =
      (t.each old.awaited (fun c t => t.withdrawSpot .purge c)).setPurge p := 
    each_setPurge p (f := fun c t => t.withdrawSpot .purge c) (fun _ _ => rfl) _ _
  have requested (t : State) : (t.setPurge p).each new.awaited (fun c t => t.requestSpot .purge c) =
      (t.each new.awaited (fun c t => t.requestSpot .purge c)).setPurge p :=
    each_setPurge p (fun c t => requestSpot_setPurge p t _ c) _ _
  by_cases left : old.state = .verify <;> by_cases entered : new.state = .verify <;>
    simp only [left, entered, if_true, if_false, withdrawn, requested]

/-- R75, steps 2 and 3: the spots and the event of a change of the purge. -/
def State.purgeTold (new : Purge) (event : Option Event) (s : State) : State :=
  match event with
  | some e => (s.purgeSpots s.purge new).emit e
  | none => s.purgeSpots s.purge new

/-- R75: a change of the purge: its spots and its event, then its record, then its notices. -/
theorem purgeGo_eq (new : Purge) (event : Option Event) (s : State) : s.purgeGo new event =
    (((((s.purgeTold new event).setPurge new).purgeHold s.purge new).tellGovernorPurge).putPurgeWords s.purge).purgeLamp
      s.purge new := by
  unfold State.purgeGo State.purgeTold
  simp only [purgeSpots_setPurge]
  cases event with
  | none => rfl
  | some e => simp only [emit_setPurge]

theorem purgeSpots_lower (old new : Purge) (s : State) : (s.purgeSpots old new).lower = s.lower := by
  unfold State.purgeSpots
  have withdrawn (t : State) : (t.each old.awaited (fun c t => t.withdrawSpot .purge c)).lower = t.lower :=
    each_leaves State.lower (fun c t => t.withdrawSpot .purge c) (fun _ _ => rfl) _ _
  have requested (t : State) : (t.each new.awaited (fun c t => t.requestSpot .purge c)).lower = t.lower :=
    each_leaves State.lower _ (fun c t => requestSpot_lower t _ c) _ _
  by_cases left : old.state = .verify <;> by_cases entered : new.state = .verify <;>
    simp only [left, entered, if_true, if_false, withdrawn, requested]

theorem purgeTold_lower (new : Purge) (event : Option Event) (s : State) : (s.purgeTold new event).lower = s.lower := by
  unfold State.purgeTold
  split
  · rw [emit_lower, purgeSpots_lower]
  · exact purgeSpots_lower _ _ s

theorem purgeTold_purge (new : Purge) (event : Option Event) (s : State) : (s.purgeTold new event).purge = s.purge :=
  congrArg (fun x => x.purge) (purgeTold_lower new event s)

/-! ### The moves of a change (R71, R75) -/

theorem purgeSpots_moves (b : Bool) (old : Purge) {new : Purge} (asked : A .spots ∨ new.state ≠ .verify) (s : State) : Moves A (s, b) (s.purgeSpots old new, b) := by
  unfold State.purgeSpots
  have withdrawn (t : State) : Moves A (t, b) (t.each old.awaited (fun c t => t.withdrawSpot .purge c), b) :=
    each_moves b (fun c t => withdrawSpot_moves b t _ c) _ _
  have requested (h : new.state = .verify) (t : State) :
      Moves A (t, b) (t.each new.awaited (fun c t => t.requestSpot .purge c), b) :=
    each_moves b (fun c t => requestSpot_moves b t _ c (.inl (asked.resolve_right (Classical.not_not.2 h)))) _ _
  by_cases left : old.state = .verify <;> by_cases entered : new.state = .verify <;>
    simp only [left, entered, if_true, if_false]
  · exact (withdrawn s).trans (requested entered _)
  · exact withdrawn s
  · exact requested entered s
  · exact .refl

theorem purgeTold_moves (b : Bool) {new : Purge} (asked : A .spots ∨ new.state ≠ .verify) (event : Option Event)
    (s : State) :
    Moves A (s, b) (s.purgeTold new event, b) := by
  unfold State.purgeTold
  split
  · exact (emit_moves b _ _).behind (purgeSpots_moves b _ asked s)
  · exact purgeSpots_moves b _ asked s

theorem putPurgeWords_moves (b : Bool) (old : Purge) (s : State) : Moves A (s, b) (s.putPurgeWords old, b) := by
  unfold State.putPurgeWords
  have word (t : State) (c : Prop) [Decidable c] (n : Nat) (w : Word) :
      Moves A (t, b) (if c then t else t.putStatus n w, b) := by
    split
    · exact .refl
    · exact putStatus_moves b t n w
  exact (word _ _ _ _).behind (word s _ _ _)

theorem tellGovernorPurge_moves (b : Bool) (s : State) : Moves A (s, b) (s.tellGovernorPurge, b) := by
  unfold State.tellGovernorPurge
  exact ((recompute_moves true _).lagging b).behind (.single (.view s b _))

theorem purgeLamp_moves (b : Bool) (old new : Purge) (s : State) : Moves A (s, b) (s.purgeLamp old new, b) := by
  unfold State.purgeLamp
  split
  · exact (relamp_moves b _).behind (setEvents_moves b s rfl rfl)
  · exact .refl

/-- What a change keeps between the purge and the accepted doors (R72, R78). -/
def Purge.KeepsDoors (A : Freedom → Prop) (old new : Purge) : Prop :=
  A .doors ∨ new.doorOpen = old.doorOpen ∧ (new.state.active → old.state.active ∨ old.doorOpen = false)

/-- R61: what a change of the purge does to its hold: it is raised, released, or takes the new phase. -/
theorem purgeHold_moves (b : Bool) {new : Purge} {s : State} (goes : s.purge.state = .idle → new.state ≠ .idle)
    (doors : s.purge.KeepsDoors A new) : Moves A (s, b) ((s.setPurge new).purgeHold s.purge new, true) := by
  have heat (j : HoldKey) (h : j.heats = true) : j ≠ .purge := fun e => by simp [e, HoldKey.heats] at h
  unfold State.purgeHold
  by_cases idle : s.purge.state = .idle
  · rw [if_pos idle]
    by_cases stands : holdsPair s.holds .purge = true
    · rw [if_pos (show (s.setPurge new).hasHold .purge = true from stands)]
      exact .single (.purge s b true new s.holds id (fun _ held => absurd idle (held.1.1 stands)) (fun _ _ _ => rfl) doors
        (by simp))
    · rw [if_neg (show ¬ (s.setPurge new).hasHold .purge = true from stands), createHold_eq]
      have absent : findHold .purge s.holds = none := by
        simpa [holdsPair_eq] using stands
      refine .trans (.single (.purge s b true new _ ?_ ?_ ?_ doors (by simp)))
        ((announceRaise_moves true _ _ _).lagging true)
      · exact fun distinct => distinct.append (r := State.newRecord _ _ _ _) (by simpa [State.newRecord] using stands)
      · intro _ _
        refine .of_found (r := (s.setPurge new).newRecord .purge ((new.cause.map PurgeCause.hold).getD .service)
          (some new.state)) ?_ ?_ (goes idle)
        · simp [findHold_append, absent, State.newRecord]
        · rfl
      · intro _ j hj
        simp [holdsPair_eq, findHold_append, State.newRecord, (heat j hj).symm]
  · rw [if_neg idle]
    by_cases ends : new.state = .idle
    · rw [if_pos ends]
      split
      next r hr =>
        have key : r.key = .purge := findHold_key hr
        rw [removeHold_eq]
        refine .trans (.single (.purge s b true new _ ?_ ?_ ?_ doors (by simp)))
          ((announceRelease_moves true _ _ _).lagging true)
        · exact fun distinct => distinct.dropHold _
        · rw [key]
          exact fun distinct _ => .of_absent (findHold_dropHold_same distinct _) ends
        · intro _ j hj
          rw [key, holdsPair_eq, holdsPair_eq, findHold_dropHold_other (heat j hj)]
          rfl
      next hr => exact .single (.purge s b true new s.holds id (fun _ _ => .of_absent hr ends) (fun _ _ _ => rfl) doors
        (by simp))
    · rw [if_neg ends]
      have keys (r : HoldRecord) : ({ r with phase := some new.state } : HoldRecord).key = r.key := rfl
      have changed : Moves A (s, b) ((s.setPurge new).editHold .purge (fun r => { r with phase := some new.state }), true) := by
        refine .single (.purge s b true new _ (fun h => h.edit keys) (fun _ held => ?_)
          (fun _ j _ => holdsPair_editRecords keys j _) doors (by simp))
        obtain ⟨r, hr⟩ := Option.isSome_iff_exists.1 (((purgeHeld_iff _ _).1 held).1.2 idle)
        have found := findHold_editRecords keys (k := .purge) .purge s.holds
        rw [hr, Option.map_some, if_pos (findHold_key hr)] at found
        exact .of_found found rfl ends
      unfold State.changePhase
      simp only
      split
      · exact (putStatus_moves true _ _ _).behind changed
      · exact changed

theorem purgeGo_moves (b : Bool) {new : Purge} {s : State} (goes : s.purge.state = .idle → new.state ≠ .idle)
    (doors : s.purge.KeepsDoors A new) (asked : A .spots ∨ new.state ≠ .verify) (event : Option Event) :
    Moves A (s, b) (s.purgeGo new event, b) := by
  rw [purgeGo_eq]
  refine (purgeLamp_moves b _ _ _).behind ((putPurgeWords_moves b _ _).behind ?_)
  unfold State.tellGovernorPurge
  refine ((recompute_moves true _).lagging b).behind (.tail ?_ (.view _ true _))
  rw [← purgeTold_purge new event s]
  refine (purgeTold_moves b asked event s).trans (purgeHold_moves b ?_ ?_)
  · rwa [purgeTold_purge]
  · rwa [purgeTold_purge]

/-- A change of the purge's record that leaves its state. -/
theorem setPurge_moves (b : Bool) {p : Purge} {s : State} (state : p.state = s.purge.state)
    (doors : A .doors ∨ p.doorOpen = s.purge.doorOpen) : Moves A (s, b) (s.setPurge p, b) :=
  .single (.purge s b b p s.holds id (fun _ held => held.of_same state rfl) (fun _ _ _ => rfl)
    (doors.imp id fun k => ⟨k, fun active => .inl (state ▸ active)⟩) fun c => ⟨c, rfl⟩)

theorem purgeKeep_moves (b : Bool) {p : Purge} {s : State} (state : p.state = s.purge.state)
    (doors : p.doorOpen = s.purge.doorOpen) : Moves A (s, b) (s.purgeKeep p, b) := by
  unfold State.purgeKeep
  exact (putPurgeWords_moves b _ _).behind (setPurge_moves b state (.inr doors))

/-! ### Triggers, doors, inlets, verification (R76 to R84) -/

/-- R73: a purge enters RUN or SCRUB with its door view as it was. -/
theorem flow_enters (s : State) (run scrub : Nat) (p : Purge) :
    ((s.flow run scrub p).state = .run ∨ (s.flow run scrub p).state = .scrub) ∧
      (s.flow run scrub p).doorOpen = p.doorOpen := by
  unfold State.flow
  split
  · exact ⟨.inl rfl, rfl⟩
  · exact ⟨.inr rfl, rfl⟩

theorem flow_ne_verify (s : State) (run scrub : Nat) (p : Purge) : (s.flow run scrub p).state ≠ .verify := by
  obtain ⟨h | h, _⟩ := flow_enters s run scrub p <;> simp [h]

theorem flow_ne_idle (s : State) (run scrub : Nat) (p : Purge) : (s.flow run scrub p).state ≠ .idle := by
  obtain ⟨h | h, _⟩ := flow_enters s run scrub p <;> simp [h]

/-- A change of a purge that moves air or is verified, with its door view as it was. -/
theorem purgeGo_of_active_moves (b : Bool) {new : Purge} {s : State} (active : s.purge.state.active)
    (door : new.doorOpen = s.purge.doorOpen) (asked : A .spots ∨ new.state ≠ .verify) (event : Option Event) :
    Moves A (s, b) (s.purgeGo new event, b) :=
  purgeGo_moves b (fun idle => by simp [idle, PurgeState.active] at active) (.inr ⟨door, fun _ => .inl active⟩) asked event

theorem purgeTrigger_moves (b : Bool) (c : PurgeCause) (s : State) : Moves A (s, b) (s.purgeTrigger c, b) := by
  unfold State.purgeTrigger State.fullFlow
  dsimp only
  split
  next hs =>
    split
    next hd =>
      refine purgeGo_moves b (fun _ => ?_) (.inr ⟨?_, fun active => ?_⟩) (.inr (by simp)) _
      · simp
      · rfl
      · simp [PurgeState.active] at active
    next hd =>
      refine purgeGo_moves b (fun _ => ?_) (.inr ⟨?_, fun _ => .inr (by simpa using hd)⟩)
        (.inr (flow_ne_verify _ _ _ _)) _
      · exact flow_ne_idle _ _ _ _
      · exact (flow_enters _ _ _ _).2
  next hs => exact purgeKeep_moves b rfl rfl
  next hs => exact purgeKeep_moves b rfl rfl
  next hs => exact purgeKeep_moves b rfl rfl
  next hs =>
    exact purgeGo_of_active_moves b (by simp [hs, PurgeState.active]) (by exact (flow_enters _ _ _ _).2)
      (.inr (by exact flow_ne_verify _ _ _ _)) _

theorem purgeDoorOpened_moves (free : A .doors) (b : Bool) (s : State) : Moves A (s, b) (s.purgeDoorOpened, b) := by
  unfold State.purgeDoorOpened
  dsimp only
  split
  case h_1 => exact setPurge_moves b rfl (.inl free)
  case h_2 => exact setPurge_moves b rfl (.inl free)
  all_goals exact purgeGo_moves b (fun _ => by simp) (.inl free) (.inr (by simp)) _

theorem purgeResume_moves (free : A .doors) (b : Bool) (s : State) : Moves A (s, b) (s.purgeResume, b) := by
  unfold State.purgeResume State.fullFlow
  dsimp only
  split
  · exact purgeGo_moves b (fun _ => flow_ne_idle _ _ _ _) (.inl free) (.inr (flow_ne_verify _ _ _ _)) _
  · exact setPurge_moves b rfl (.inl free)

theorem purgeEpisodeEnded_moves (free : A .doors) (b : Bool) (trigger : Bool) (s : State) :
    Moves A (s, b) (s.purgeEpisodeEnded trigger, b) := by
  unfold State.purgeEpisodeEnded
  split
  · exact (purgeTrigger_moves b _ _).behind (purgeResume_moves free b s)
  · exact purgeResume_moves free b s

theorem purgeSwitch_moves (b : Bool) (i : Inlet) (s : State) : Moves A (s, b) (s.purgeSwitch i, b) := by
  unfold State.purgeSwitch
  exact (putPurgeWords_moves b _ _).behind ((tellGovernorPurge_moves b _).behind (setPurge_moves b rfl (.inr rfl)))

theorem purgeRejudge_moves (b : Bool) (s : State) : Moves A (s, b) (s.purgeRejudge, b) := by
  unfold State.purgeRejudge
  dsimp only
  split
  next hs _ =>
    split
    · exact .refl
    · split
      · exact purgeSwitch_moves b _ s
      · exact purgeGo_of_active_moves b (by simp [hs, PurgeState.active]) (by rfl) (.inr (by simp)) _
  next hs =>
    split
    · exact purgeGo_of_active_moves b (by simp [hs, PurgeState.active]) (by rfl) (.inr (by simp)) _
    · exact .refl
  · exact .refl

theorem purgeVerify_moves (spots : A .spots) (b : Bool) {s : State} (due : s.purge.timerDue = true) : Moves A (s, b) (s.purgeVerify, b) := by
  have active : s.purge.state.active := by
    unfold Purge.timerDue at due
    cases h : s.purge.state <;> simp_all [PurgeState.active]
  unfold State.purgeVerify
  exact purgeGo_of_active_moves b active (by rfl) (.inl spots) _

theorem purgeEnd_moves (b : Bool) {s : State} (verify : s.purge.state = .verify) (kind : EventKind) (value : Word) :
    Moves A (s, b) (s.purgeEnd kind value, b) := by
  unfold State.purgeEnd
  exact purgeGo_of_active_moves b (by simp [verify, PurgeState.active]) (by rfl) (.inr (by simp [Purge.reset])) _

theorem purgeExtend_moves (b : Bool) {s : State} (verify : s.purge.state = .verify) :
    Moves A (s, b) (s.purgeExtend, b) := by
  unfold State.purgeExtend
  exact purgeGo_of_active_moves b (by simp [verify, PurgeState.active]) (by exact (flow_enters _ _ _ _).2)
      (.inr (by exact flow_ne_verify _ _ _ _)) _

theorem purgeJudge_moves (b : Bool) {s : State} (verify : s.purge.state = .verify) :
    Moves A (s, b) (s.purgeJudge, b) := by
  unfold State.purgeJudge
  dsimp only
  split
  · exact purgeEnd_moves b verify _ _
  · split
    · exact purgeEnd_moves b verify _ _
    · split
      · exact purgeExtend_moves b verify
      · exact purgeEnd_moves b verify _ _

theorem deliverPurge_moves (b : Bool) (r : SpotResult) (s : State) : Moves A (s, b) (s.deliverPurge r, b) := by
  unfold State.deliverPurge
  dsimp only
  split
  next h =>
    split
    · exact (purgeJudge_moves b (by exact h.1)).behind (setPurge_moves b rfl (.inr rfl))
    · exact setPurge_moves b rfl (.inr rfl)
  · exact .refl

/-! ### Notices of the Hold Table (R54 to R59) -/

theorem tellHeat_moves (b : Bool) (s : State) {k : HoldKey} (heat : A .notice ∨ k.heats = false) (present : Bool) :
    Moves A (s, b) (s.tellHeat k present, b) := by
  unfold State.tellHeat
  split
  case h_4 => exact .refl
  all_goals exact rejudgeHeat_setHeat_moves b s _ (.inl (heat.resolve_right (by simp [HoldKey.heats]))) rfl

theorem tellFollowers_moves (b : Bool) {k : HoldKey} (heat : A .notice ∨ k.heats = false) (present : Bool) (s : State) :
    Moves A (s, b) (s.tellFollowers k present, b) := by
  unfold State.tellFollowers
  dsimp only
  refine (tellLamp_moves b k present _).behind ((tellHeat_moves b _ heat present).behind ?_)
  split
  · exact purgeRejudge_moves b s
  · split
    · exact purgeTrigger_moves b _ s
    · exact .refl
  · exact .refl

theorem takeRaise_moves (b : Bool) {k : HoldKey} (other : k ≠ .purge) (heat : A .notice ∨ k.heats = false)
    (cause : HoldCause) (s : State) : Moves A (s, b) (s.takeRaise k cause, b) := by
  unfold State.takeRaise
  split
  · split
    · exact dropNotBefore_moves b k s
    next absent =>
      exact (tellFollowers_moves b heat true _).behind (createHold_moves b other (by simpa using absent) heat cause none)
  · exact .refl

theorem takeRelease_moves (b : Bool) {k : HoldKey} (other : k ≠ .purge) (heat : A .notice ∨ k.heats = false)
    (s : State) : Moves A (s, b) (s.takeRelease k, b) := by
  unfold State.takeRelease
  split
  · split
    next r hr =>
      have key : r.key = k := findHold_key hr
      exact (tellFollowers_moves b heat false _).behind (removeHold_moves b (key ▸ other) (key ▸ heat) s)
    · exact .refl
  · exact .refl

theorem inletGradeNotice_moves (b : Bool) (i : Inlet) (g : Grade) (s : State) :
    Moves A (s, b) (s.inletGradeNotice i g, b) := by
  unfold State.inletGradeNotice
  have edited : Moves A (s, b) (s.editHold (.inletBarred i) (fun r =>
      if r.notBefore.isSome then r else { r with notBefore := some (s.tagClock + w16 (10 * s.lay.holdDown)) }), b) :=
    editHold_moves b _ (fun r => by split <;> rfl) (fun r => by split <;> rfl) s
  split
  · exact takeRaise_moves b (by simp) (.inr rfl) _ s
  · exact takeRaise_moves b (by simp) (.inr rfl) _ s
  · exact edited
  · exact edited

theorem tableGradeNotice_moves (b : Bool) (x : Body) (g : Grade) (s : State) :
    Moves A (s, b) (s.tableGradeNotice x g, b) := by
  unfold State.tableGradeNotice
  split
  · exact inletGradeNotice_moves b _ g s
  · exact inletGradeNotice_moves b _ g s
  · split
    · exact takeRaise_moves b (by simp) (.inr rfl) _ s
    · exact takeRelease_moves b (by simp) (.inr rfl) s

end Sys2Proof.Machine
end

section
/-! PROOFS. The moves of the dampers, the Air Grader, the heat unit, the scanner and the switches (chapters 5 to 9). -/

namespace Sys2Proof.Machine

variable {A : Freedom → Prop}

/-! ### Dampers (R130, R135, R137 to R140) -/

theorem handOnEvent_moves (b : Bool) (d : Fin 8) (event : Option Event) (s : State) :
    Moves A (s, b) (s.handOnEvent d event, b) := by
  unfold State.handOnEvent
  dsimp only
  refine (each_moves b (fun l t => tellLane_moves recompute_again b none d l t) _ _).behind ?_
  cases event with
  | none => exact putStatus_moves b s _ _
  | some e => exact (emit_moves b _ e).behind (putStatus_moves b s _ _)

theorem tellGovernorDamper_moves (b : Bool) (d : Fin 8) (s : State) :
    Moves A (s, b) (s.tellGovernorDamper d, b) := by
  unfold State.tellGovernorDamper
  exact ((recompute_moves true _).lagging b).behind (.single (.view s b _))

theorem tellPurgeDamper_moves (b : Bool) (d : Fin 8) (s : State) : Moves A (s, b) (s.tellPurgeDamper d, b) := by
  unfold State.tellPurgeDamper
  split
  · exact purgeRejudge_moves b s
  · exact .refl

theorem freeGrant_moves (b : Bool) (s : State) : Moves A (s, b) (s.freeGrant, b) := grant_moves recompute_again b none s

theorem comeToRest_moves (b : Bool) {d : Fin 8} {s : State} (granted : (s.damper d).granted = true) (n : Option Nat) :
    Moves A (s, b) (s.comeToRest d n, b) := by
  unfold State.comeToRest
  refine (freeGrant_moves b _).behind ((handOnEvent_moves b d none _).behind ?_)
  exact setDamper_of_granted_moves b s granted (by simp)

theorem reachStop_moves (b : Bool) {d : Fin 8} {s : State} (granted : (s.damper d).granted = true) (stop : Nat) :
    Moves A (s, b) (s.reachStop d stop, b) := by
  unfold State.reachStop
  dsimp only
  split
  next h =>
    exact (joinMotion_moves recompute_again b none (by simp [h.1])).behind (comeToRest_moves b granted _)
  · exact comeToRest_moves b granted _

theorem jamDamper_moves (b : Bool) {d : Fin 8} {s : State} (granted : (s.damper d).granted = true) (cause : JamCause)
    (n : Option Nat) : Moves A (s, b) (s.jamDamper d cause n, b) := by
  unfold State.jamDamper
  dsimp only
  refine (freeGrant_moves b _).behind ((tellPurgeDamper_moves b d _).behind ((tellGovernorDamper_moves b d _).behind ?_))
  refine (takeRaise_moves b (by simp) (.inr rfl) _ _).behind ((handOnEvent_moves b d _ _).behind ?_)
  exact setDamper_of_granted_moves b s granted (by simp)

theorem homeDamper_moves (b : Bool) {d : Fin 8} {s : State} (granted : (s.damper d).granted = true) :
    Moves A (s, b) (s.homeDamper d, b) := by
  have told (x : Damper) (leaves : x.state ≠ .waiting) (e : Option Event) :
      Moves A (s, b) ((((s.setDamper d x).handOnEvent d e).tellGovernorDamper d).tellPurgeDamper d, b) :=
    (tellPurgeDamper_moves b d _).behind ((tellGovernorDamper_moves b d _).behind ((handOnEvent_moves b d e _).behind
      (setDamper_of_granted_moves b s granted leaves)))
  unfold State.homeDamper
  dsimp only
  by_cases stop : (s.damper d).target = 0
  · simp only [stop, if_true]
    exact (freeGrant_moves b _).behind (told _ (by simp) _)
  · simp only [stop, if_false]
    exact told _ (by simp) _

theorem stallDamper_moves (b : Bool) (d : Fin 8) (s : State) : Moves A (s, b) (s.stallDamper d, b) := by
  unfold State.stallDamper
  dsimp only
  split
  next hs _ =>
    have granted : (s.damper d).granted = true := by simp [Damper.granted, hs]
    split
    · split
      · exact reachStop_moves b granted _
      · exact jamDamper_moves b granted _ _
    · split
      · exact reachStop_moves b granted _
      · exact jamDamper_moves b granted _ _
  next hs => exact comeToRest_moves b (by simp [Damper.granted, hs]) _
  next hs => exact homeDamper_moves b (by simp [Damper.granted, hs])
  · exact .refl

theorem planEnded_state {s : State} {d : Fin 8} {x : DamperState} (h : s.planEnded d x = true) :
    (s.damper d).state = x := by
  unfold State.planEnded at h
  simp only [Bool.and_eq_true, beq_iff_eq] at h
  exact h.1

theorem endMoving_moves (b : Bool) {d : Fin 8} {s : State} (moving : (s.damper d).state = .moving) :
    Moves A (s, b) (s.endMoving d, b) := by
  unfold State.endMoving
  split
  next p _ =>
    obtain ⟨x, leaves, eq⟩ := reachTarget_eq State.recompute none d p s
    have reached : Moves A (s, b) (s.reachTarget State.recompute none d p, b) := by
      rw [eq]
      exact (handOnDamper_moves recompute_again b none d _).behind
        (setDamper_of_granted_moves b s (by simp [Damper.granted, moving]) leaves)
    dsimp only
    split
    · exact reached
    · exact (freeGrant_moves b _).behind reached
  · exact .refl

theorem clearDamper_moves (b : Bool) {d : Fin 8} {s : State} (jammed : (s.damper d).state = .jammed) :
    Moves A (s, b) (s.clearDamper d, b) := by
  unfold State.clearDamper
  dsimp only
  refine (freeGrant_moves b _).behind ((tellPurgeDamper_moves b d _).behind ((tellGovernorDamper_moves b d _).behind ?_))
  refine (takeRelease_moves b (by simp) (.inr rfl) _).behind ((handOnEvent_moves b d _ _).behind ?_)
  exact .single (.drive s b _ (.join d _ true rfl (by rw [show s.drive.dampers.get d = s.damper d from rfl, jammed]; simp)))

theorem commandClearJam_moves (b : Bool) {s t : State} (h : s.commandClearJam = some t) : Moves A (s, b) (t, b) := by
  unfold State.commandClearJam at h
  split at h
  · split at h
    next jammed =>
      cases h
      exact clearDamper_moves b jammed
    · cases h
  · cases h

/-! ### The Air Grader (R109, R113, R117) -/

theorem setGrading_moves (b : Bool) (c : Fin 6) (g : Grading) (s : State) : Moves A (s, b) (s.setGrading c g, b) :=
  .single (.grader s b _ s.freeIndex)

theorem governorGradeNotice_moves (b : Bool) (x : Body) (g : Grade) (s : State) :
    Moves A (s, b) (s.governorGradeNotice x g, b) := by
  unfold State.governorGradeNotice
  exact ((recompute_moves true _).lagging b).behind (.single (.view s b _))

theorem changeGrade_moves (b : Bool) (first : Bool) (x : Body) (g : Grade) (s : State) :
    Moves A (s, b) (s.changeGrade first x g, b) := by
  unfold State.changeGrade State.gradeNotices
  dsimp only
  have changed : Moves A (s, b) ((State.emit
      { s with grader := { s.grader with grades := s.grader.grades.set x g } }
      { kind := .gradeChanged, subject := w16 x.code, value := w16 (g.code + 256 * (s.grader.grades.get x).code) }).putStatus
      x.code (w16 g.code), b) :=
    (putStatus_moves b _ _ _).behind ((emit_moves b _ _).behind (.single (.grader s b _ s.freeIndex)))
  split
  · exact (governorGradeNotice_moves b x g _).behind ((tableGradeNotice_moves b x g _).behind changed)
  · exact (tableGradeNotice_moves b x g _).behind ((governorGradeNotice_moves b x g _).behind changed)

theorem levelChanged_moves (b : Bool) (c : Fin 6) (s : State) : Moves A (s, b) (s.levelChanged c, b) := by
  unfold State.levelChanged
  dsimp only
  have word : Moves A (s, b) (s.putLevelWord c, b) := putStatus_moves b s _ _
  split
  · exact word
  · exact (changeGrade_moves b _ _ _ _).behind (.tail word (.grader _ b (s.putLevelWord c).grader _))

theorem graderReading_moves (b : Bool) (c : Fin 6) (r : Nat) (rail isOpen : Bool) (s : State) :
    Moves A (s, b) (s.graderReading c r rail isOpen, b) := by
  unfold State.graderReading
  dsimp only
  split
  · exact setGrading_moves b c _ s
  · exact (levelChanged_moves b c _).behind (setGrading_moves b c _ s)

theorem thresholdEvent_outers (c : Fin 6) (copy : Vector RamWord 4) (s : State) : Outers s (s.thresholdEvent c copy) := by
  unfold State.thresholdEvent
  split
  · exact emit_outers s _
  · exact .refl

theorem judgeEntry_moves (b : Bool) (c : Fin 6) (copy : Vector RamWord 4) (s : State) :
    Moves A (s, b) (s.judgeEntry c copy, b) := by
  unfold State.judgeEntry
  dsimp only
  have judged : Moves A (s, b) ((s.setGrading c ((s.grading c).judged copy)).thresholdEvent c copy, b) :=
    ((thresholdEvent_outers c copy _).moves b).behind (setGrading_moves b c _ s)
  split
  · exact (levelChanged_moves b c _).behind judged
  · split
    · exact (putStatus_moves b _ _ _).behind judged
    · exact judged

theorem takeThreshold_moves (b : Bool) (i : Fin 24) (value : Word) (s : State) :
    Moves A (s, b) (s.takeThreshold i value, b) := judgeEntry_moves b _ _ s

/-! ### The heat unit (R144 to R152) -/

theorem tachPulse_moves (b : Bool) (s : State) : Moves A (s, b) (s.tachPulse, b) := by
  unfold State.tachPulse
  split
  · exact (setSpeed_moves b _ _).behind (setHeat_moves b s rfl rfl rfl)
  · exact setHeat_moves b s rfl rfl rfl

/-- A stage that dies leaves no more energised. -/
theorem stageDies_moves (b : Bool) (i : Fin 4) (n : Nat) (s : State) : Moves A (s, b) (s.stageDies i n, b) := by
  unfold State.stageDies
  dsimp only
  refine (rejudgeHeat_moves b _).behind ((emit_moves b _ _).behind ((putHeatWord_moves b _).behind ?_))
  refine .single (.heat s b _ (.inr rfl) (.inr fun within => ?_) (.inr rfl))
  have count := countOn_vset s.heat.stages i .dead
  have zero : flag (StageState.dead == .on) = 0 := rfl
  have fewer : (HeatUnit.energised { s.heat with stages := vset s.heat.stages i .dead }) ≤ s.heat.energised := by
    unfold HeatUnit.energised
    show (vset s.heat.stages i .dead).toList.countP _ ≤ _
    omega
  exact ⟨Nat.le_trans fewer within.1, fun k => Nat.le_zero.1 (Nat.le_trans fewer (Nat.le_of_eq (within.2 k)))⟩

theorem deliverHeat_moves (b : Bool) (r : SpotResult) (s : State) : Moves A (s, b) (s.deliverHeat r, b) := by
  unfold State.deliverHeat
  split
  · exact .refl
  · dsimp only
    have cleared : Moves A (s, b) (s.setHeat { s.heat with verify := none }, b) := setHeat_moves b s rfl rfl rfl
    split
    · exact (testStageUp_moves b _).behind cleared
    · exact (testStageUp_moves b _).behind ((stageDies_moves b _ _ _).behind cleared)

theorem stageUp_moves (b : Bool) (s : State) :
    Moves A (s, b) ((s.setHeat { s.heat with stageUpTimer := none }).testStageUp, b) :=
  (testStageUp_moves b _).behind (setHeat_moves b s rfl rfl rfl)

theorem setAllowed_moves (budget : A .budget) (notice : A .notice) (b : Bool) (n : Nat) (s : State) :
    Moves A (s, b) (s.setAllowed n, b) := by
  unfold State.setAllowed
  dsimp only
  have counted : Moves A (s, b) ((s.setHeat { s.heat with allowed := n }).putHeatWord, b) :=
    (putHeatWord_moves b _).behind (.single (.heat s b _ (.inl budget) (.inl budget) (.inl notice)))
  split
  · exact .refl
  · refine (rejudgeHeat_moves b _).behind ?_
    split
    · exact (takeRaise_moves b (by simp) (.inl notice) _ _).behind counted
    · split
      · exact (takeRelease_moves b (by simp) (.inl notice) _).behind counted
      · exact counted

end Sys2Proof.Machine
end

section
/-! PROOFS. What the blocks do at an occurrence in RUNNING, in deeds: the moves, and the notices by which the heat unit's
budget and its view of the holds change. -/

namespace Sys2Proof.Machine

variable {A : Freedom → Prop}

/-! ### Deeds -/

/-- A sequence of moves, or a notice that changes the heat unit's budget or its view of the holds. -/
inductive Deed (A : Freedom → Prop) : State × Bool → State × Bool → Prop
  | moves {p q : State × Bool} (h : Moves A p q) : Deed A p q
  | allowed (s : State) (b : Bool) (n : Nat) : Deed A (s, b) (s.setAllowed n, b)
  | raise (s : State) (b : Bool) (k : HoldKey) (heats : k.heats = true) (cause : HoldCause) :
      Deed A (s, b) (s.takeRaise k cause, b)
  | release (s : State) (b : Bool) (k : HoldKey) (heats : k.heats = true) : Deed A (s, b) (s.takeRelease k, b)

/-- A sequence of deeds. -/
abbrev Deeds (A : Freedom → Prop) : State × Bool → State × Bool → Prop := Sequence (Deed A)

theorem Moves.deeds {p q : State × Bool} (h : Moves A p q) : Deeds A p q := .single (.moves h)

theorem Outers.deeds {s t : State} (h : Outers s t) (b : Bool) : Deeds A (s, b) (t, b) := (h.moves b).deeds

/-- The last part of a sequence first. -/
theorem Deeds.behind {p q r : State × Bool} (k : Deeds A q r) (h : Deeds A p q) : Deeds A p r := h.trans k

theorem Deeds.after {p q r : State × Bool} (k : Deeds A q r) (h : Moves A p q) : Deeds A p r := h.deeds.trans k

theorem HoldKey.heats_ne_purge {k : HoldKey} (h : k.heats = true) : k ≠ .purge := fun e => by simp [e, HoldKey.heats] at h

/-- With every freedom a deed is a sequence of moves. -/
theorem Deed.moves_of_free (budget : A .budget) (notice : A .notice) {p q : State × Bool} (h : Deed A p q) :
    Moves A p q := by
  cases h with
  | moves h => exact h
  | allowed s b n => exact setAllowed_moves budget notice b n s
  | raise s b k heats cause => exact takeRaise_moves b (HoldKey.heats_ne_purge heats) (.inl notice) cause s
  | release s b k heats => exact takeRelease_moves b (HoldKey.heats_ne_purge heats) (.inl notice) s

theorem Deeds.moves_of_free (budget : A .budget) (notice : A .notice) {p q : State × Bool} (h : Deeds A p q) :
    Moves A p q := by
  induction h with
  | refl => exact .refl
  | tail _ k ih => exact ih.trans (k.moves_of_free budget notice)

theorem each_deeds {α : Type} (b : Bool) {f : α → State → State} (h : ∀ x t, Deeds A (t, b) (f x t, b)) (xs : List α)
    (s : State) : Deeds A (s, b) (s.each xs f, b) := by
  unfold State.each
  induction xs generalizing s with
  | nil => exact .refl
  | cons x xs ih => exact (h x s).trans (ih (f x s))

/-! ### The voltage budget (R151) -/

theorem setAllowed_deeds (b : Bool) (n : Nat) (s : State) : Deeds A (s, b) (s.setAllowed n, b) :=
  .single (.allowed s b n)

theorem lowerReading_deeds (b : Bool) (cls : Nat) (s : State) : Deeds A (s, b) (s.lowerReading cls, b) := by
  unfold State.lowerReading
  dsimp only
  split
  · exact (setAllowed_deeds b _ _).after (setHeat_moves b s rfl rfl rfl)
  · exact Moves.deeds (by exact setHeat_moves b s rfl rfl rfl)

theorem higherReading_moves (b : Bool) (cls : Nat) (s : State) : Moves A (s, b) (s.higherReading cls, b) := by
  unfold State.higherReading
  dsimp only
  split
  · exact setHeat_moves b s rfl rfl rfl
  · exact setHeat_moves b s rfl rfl rfl

theorem voltReading_deeds (b : Bool) (r : Nat) (isOpen : Bool) (s : State) :
    Deeds A (s, b) (s.voltReading r isOpen, b) := by
  unfold State.voltReading
  dsimp only
  split
  · exact (setAllowed_deeds b _ _).after (setHeat_moves b s rfl rfl rfl)
  · split
    · exact (setAllowed_deeds b _ _).after (setHeat_moves b s rfl rfl rfl)
    · split
      · exact lowerReading_deeds b _ s
      · split
        · exact Moves.deeds (by exact setHeat_moves b s rfl rfl rfl)
        · exact (higherReading_moves b _ s).deeds

theorem restoreExpires_deeds (b : Bool) (s : State) : Deeds A (s, b) (s.restoreExpires, b) := by
  unfold State.restoreExpires
  split
  · exact (setAllowed_deeds b _ _).after (setHeat_moves b s rfl rfl rfl)
  · exact .refl

theorem heatReading_deeds (b : Bool) (c : Fin 16) (r : Nat) (isOpen : Bool) (s : State) :
    Deeds A (s, b) (s.heatReading c r isOpen, b) := by
  unfold State.heatReading
  split
  · exact Moves.deeds (by exact rejudgeHeat_setHeat_moves b s _ (.inr rfl) rfl)
  · split
    · exact voltReading_deeds b r isOpen s
    · split
      · exact Moves.deeds (by exact setHeat_moves b s rfl rfl rfl)
      · exact .refl

/-! ### The blower watch (R145, R146) -/

theorem blowerFails_deeds (b : Bool) (s : State) :
    Deeds A (s, b) ((s.setHeat { s.heat with watch := .spent }).takeRaise .blowerFail .watch, b) :=
  Deeds.after (.single (.raise _ b _ rfl _)) (setHeat_moves b s rfl rfl rfl)

theorem commandClearBlowerFail_deeds (b : Bool) (s : State) : Deeds A (s, b) (s.commandClearBlowerFail, b) := by
  unfold State.commandClearBlowerFail
  dsimp only
  refine Deeds.behind (Moves.deeds ?_) (.single (.release s b .blowerFail rfl))
  exact (rejudgeWatch_moves b _).behind (setHeat_moves b _ rfl rfl rfl)

/-! ### A completed conversion (R90 to R92) -/

/-- R92, steps 1 to 3: the channel record that a completed conversion leaves. -/
def State.takenChannel (c : Fin 16) (r : Nat) (s : State) : Channel :=
  (s.channel c).take r (if s.scanner.state == .spot then .spot else .scan) ((s.lay.methods.get c).rail r)

/-- R92, steps 1 to 6: a completed conversion taken and handed to its blocks. -/
def State.conversionTaken (c : Fin 16) (r : Nat) (s : State) : State :=
  let after := s.takenChannel c r
  let rail := (s.lay.methods.get c).rail r
  (((s.setChannel c after).putSense c (after.updates rail)).openEvent c r (s.channel c) after).handConversion c r rail
    (after.updates rail)

/-- R92, steps 7 and 8: what follows the handing on of a conversion. -/
def State.conversionFollowed (c : Fin 16) (r : Nat) (spot isOpen : Bool) (s : State) : State :=
  if spot then (s.each allRequesters (State.deliver { channel := c, value := r, isOpen := isOpen })).afterSpot
  else s.afterScan

/-- R92: a completed conversion is taken, then followed by the scan or by the Spot Queue. -/
theorem completeConversion_eq (c : Fin 16) (r : Nat) (s : State) :
    s.completeConversion c r =
      ((s.setScanner { s.scanner with conversion := none }).conversionTaken c r).conversionFollowed c r
        (s.scanner.state == .spot) (s.takenChannel c r).isOpen := rfl

theorem putSense_outers (c : Fin 16) (updated : Bool) (s : State) : Outers s (s.putSense c updated) := by
  unfold State.putSense
  have raw : Outers s (s.putImage (s.lay.senseBase + 2 * c.val) (s.channel c).rawWord) := .single (putImage_outer s _ _)
  dsimp only
  split
  · exact raw.tail (putImage_outer _ _ _)
  · exact raw

theorem openEvent_outers (c : Fin 16) (r : Nat) (before after : Channel) (s : State) :
    Outers s (s.openEvent c r before after) := by
  unfold State.openEvent
  split
  · exact .refl
  · exact emit_outers s _

theorem governorReading_moves (b : Bool) (c : Fin 16) (updated : Bool) (s : State) :
    Moves A (s, b) (s.governorReading c updated, b) := by
  unfold State.governorReading
  split
  · exact (recomputeConversion_moves b s _).lagging b
  · split
    · exact (recomputeConversion_moves b s _).lagging b
    · exact .refl

/-- R30: a conversion of a zone's channel recomputes. -/
theorem governorReading_zone_moves (b : Bool) {c : Fin 16} (zone : c = 8 ∨ c = 9 ∨ c = 10) (updated : Bool) (s : State) :
    Moves A (s, b) (s.governorReading c updated, false) := by
  have ne : c ≠ 6 := by rintro rfl; simp at zone
  have again : c = 8 ∨ c = 9 ∨ c = 10 ∨ c = 12 := by
    obtain h | h | h := zone
    · exact .inl h
    · exact .inr (.inl h)
    · exact .inr (.inr (.inl h))
  unfold State.governorReading
  rw [if_neg ne, if_pos again]
  exact recomputeConversion_moves b s _

theorem conversionTaken_deeds (b : Bool) (c : Fin 16) (r : Nat) (s : State) :
    Deeds A (s, b) (s.conversionTaken c r, b) := by
  have noted (u : State) (b : Bool) (isOpen rail : Bool) : Moves A (u, b) ((match graded c with
      | some g => u.graderReading g r rail isOpen
      | none => u), b) := by
    split
    · exact graderReading_moves b _ _ _ _ u
    · exact .refl
  have taken (b' : Bool) (current : b' = false → b = false ∧ c ≠ 8 ∧ c ≠ 9 ∧ c ≠ 10) (after : Channel) (updated : Bool) :
      Moves A (s, b) (((s.setChannel c after).putSense c updated).openEvent c r (s.channel c) after, b') :=
    ((openEvent_outers c r _ _ _).moves b').behind (((putSense_outers c updated _).moves b').behind
      (.single (.channel s b b' c after current)))
  unfold State.conversionTaken State.handConversion
  dsimp only
  refine (heatReading_deeds b c r _ _).after ?_
  by_cases zone : c = 8 ∨ c = 9 ∨ c = 10
  · exact ((governorReading_zone_moves true zone _ _).lagging b).behind ((noted _ true _ _).behind (taken true (by simp) _ _))
  · have other : b = false → b = false ∧ c ≠ 8 ∧ c ≠ 9 ∧ c ≠ 10 := fun h => by simpa [h, not_or] using zone
    exact (governorReading_moves b c _ _).behind ((noted _ b _ _).behind (taken b other _ _))

theorem deliver_moves (b : Bool) (r : SpotResult) (q : Requester) (s : State) :
    Moves A (s, b) (s.deliver r q, b) := by
  unfold State.deliver
  split
  · refine Moves.behind ?_ (leaveEntry_moves b q s)
    unfold State.deliverTo
    split
    · exact deliverLane_moves b _ r _
    · exact deliverPurge_moves b r _
    · exact deliverHeat_moves b r _
    · exact emit_moves b _ _
  · exact .refl

theorem deliveries_moves (b : Bool) (r : SpotResult) (s : State) :
    Moves A (s, b) (s.each allRequesters (State.deliver r), b) := each_moves b (deliver_moves b r) _ s

/-! ### The scanner goes on (R94 to R96, R100 to R102) -/

theorem serveHead_moves (free : A .scan) (b : Bool) (s : State) : Moves A (s, b) (s.serveHead, b) := by
  rw [serveHead_scanner]
  exact .single (.scanner s b _ (serveHead_channels s) (.inl free) (.inl (.inl free)))

theorem setScanner_moves (free : A .scan) (b : Bool) (s : State) {x : Scanner} (channels : x.channels = s.scanner.channels) :
    Moves A (s, b) (s.setScanner x, b) := .single (.scanner s b x channels (.inl free) (.inl (.inl free)))

theorem enterSpot_moves (free : A .scan) (b : Bool) (s : State) (r : Resume) :
    Moves A (s, b) (s.enterSpot r, b) := by
  unfold State.enterSpot
  exact (serveHead_moves free b _).behind (setScanner_moves free b s rfl)

theorem scanAt_moves (free : A .scan) (b : Bool) (s : State) (p : Nat) : Moves A (s, b) (s.scanAt p, b) :=
  setScanner_moves free b s rfl

theorem beginPass_moves (free : A .scan) (b : Bool) (s : State) : Moves A (s, b) (s.beginPass, b) := by
  unfold State.beginPass
  exact (scanAt_moves free b _ 0).behind (setScanner_moves free b s rfl)

theorem endPass_moves (free : A .scan) (b : Bool) (s : State) : Moves A (s, b) (s.endPass, b) := by
  unfold State.endPass
  dsimp only
  split
  · exact setScanner_moves free b s rfl
  · exact beginPass_moves free b s

theorem endScan_moves (free : A .scan) (b : Bool) (s : State) : Moves A (s, b) (s.endScan, b) := by
  unfold State.endScan
  dsimp only
  split
  · exact Moves.behind (by exact setScanner_moves free b _ rfl) (endPass_moves free b s)
  · exact endPass_moves free b s

theorem stopScan_moves (free : A .scan) (b : Bool) (s : State) : Moves A (s, b) (s.stopScan, b) :=
  setScanner_moves free b s rfl

theorem afterScan_moves (free : A .scan) (b : Bool) (s : State) : Moves A (s, b) (s.afterScan, b) := by
  unfold State.afterScan
  dsimp only
  split
  · split
    · exact endScan_moves free b s
    · exact scanAt_moves free b s _
  · exact enterSpot_moves free b s _

theorem leaveSpot_moves (free : A .scan) (b : Bool) (s : State) : Moves A (s, b) (s.leaveSpot, b) := by
  unfold State.leaveSpot
  split
  · exact stopScan_moves free b s
  · exact scanAt_moves free b s _
  · exact endPass_moves free b s
  · exact beginPass_moves free b s

theorem afterSpot_moves (free : A .scan) (b : Bool) (s : State) : Moves A (s, b) (s.afterSpot, b) := by
  unfold State.afterSpot
  dsimp only
  split
  · exact (leaveSpot_moves free b _).behind (setScanner_moves free b s rfl)
  · exact (serveHead_moves free b _).behind (setScanner_moves free b s rfl)

theorem conversionFollowed_moves (free : A .scan) (b : Bool) (c : Fin 16) (r : Nat) (spot isOpen : Bool) (s : State) :
    Moves A (s, b) (s.conversionFollowed c r spot isOpen, b) := by
  unfold State.conversionFollowed
  split
  · exact (afterSpot_moves free b _).behind (deliveries_moves b _ s)
  · exact afterScan_moves free b s

theorem completeConversion_deeds (free : A .scan) (b : Bool) (c : Fin 16) (r : Nat) (s : State) :
    Deeds A (s, b) (s.completeConversion c r, b) := by
  rw [completeConversion_eq]
  exact (conversionFollowed_moves free b c r _ _ _).deeds.behind ((conversionTaken_deeds b c r _).after
    (setScanner_moves free b s rfl))

theorem commandScanStop_moves (free : A .scan) (b : Bool) (s : State) : Moves A (s, b) (s.commandScanStop, b) := by
  unfold State.commandScanStop
  split
  · exact stopScan_moves free b s
  · exact stopScan_moves free b s
  · exact setScanner_moves free b s rfl
  · exact .refl

theorem commandScanStart_moves (free : A .scan) (b : Bool) (s : State) : Moves A (s, b) (s.commandScanStart, b) := by
  unfold State.commandScanStart
  split
  · exact beginPass_moves free b s
  · exact beginPass_moves free b s
  · exact beginPass_moves free b s
  · exact setScanner_moves free b s rfl

theorem commandSpotRead_moves (spots : A .spots) (b : Bool) {s t : State} (h : s.commandSpotRead = some t) :
    Moves A (s, b) (t, b) := by
  unfold State.commandSpotRead at h
  split at h
  · cases h
    exact requestSpot_moves b s _ _ (.inl spots)
  · cases h

/-! ### Switches (R120 to R127) -/

/-- The door inputs are no other inputs. -/
theorem setSwitch_outers (i : SwitchId) (x : Switch) (s : State)
    (accepted : doorOf i = none ∨ x.accepted = (s.switch i).accepted) : Outers s (s.setSwitch i x) := by
  refine .single (.switches s _ rfl fun y hy => ?_)
  show ((vset s.switches.inputs i.index x).get y.1.index).accepted = _
  by_cases same : i.index = y.1.index
  · have eq : i = y.1 := by revert same; cases i <;> cases y.1 <;> simp [SwitchId.index]
    rw [← same, vset_get_same]
    obtain door | keeps := accepted
    · rw [eq] at door
      simp only [doorInputs, List.mem_cons, List.not_mem_nil, or_false] at hy
      obtain rfl | rfl | rfl | rfl | rfl := hy <;> cases door
    · rw [keeps, eq]
  · rw [vset_get_other _ _ (Ne.symm same)]
    rfl

theorem rawChange_outers (i : SwitchId) (active : Bool) (s : State) : Outers s (s.rawChange i active) := by
  unfold State.rawChange
  dsimp only
  split
  · exact .refl
  · split
    · exact setSwitch_outers i _ s (.inr rfl)
    · exact setSwitch_outers i _ s (.inr rfl)

theorem engineChanges_deeds (b : Bool) (on : Bool) (s : State) : Deeds A (s, b) (s.engineChanges on, b) := by
  unfold State.engineChanges
  split
  · exact .single (.release s b _ rfl)
  · exact .single (.raise s b _ rfl _)

theorem setPress_outers (s : State) {w : Switches} (open_ : w.openSet = s.switches.openSet)
    (inputs : w.inputs = s.switches.inputs) : Outers s { s with switches := w } :=
  .single (.switches s w open_ fun x _ => by rw [inputs]; rfl)

theorem buttonChanges_outers (pressed : Bool) (s : State) : Outers s (s.buttonChanges pressed) := by
  unfold State.buttonChanges
  dsimp only
  split
  · exact setPress_outers s rfl rfl
  · split
    · exact setPress_outers s rfl rfl
    · exact (emit_outers _ _).behind (setPress_outers s rfl rfl)

/-- R122: the acceptance of a level of ENGINE_RUN or of the purge button. -/
theorem acceptLevel_deeds (b : Bool) {i : SwitchId} (other : doorOf i = none) (s : State) :
    Deeds A (s, b) (s.acceptLevel i, b) := by
  unfold State.acceptLevel
  dsimp only
  rw [other]
  dsimp only
  have settled (x : Switch) : Deeds A (s, b) (s.setSwitch i x, b) := (setSwitch_outers i x s (.inl other)).deeds b
  split
  · exact (engineChanges_deeds b _ _).behind (settled _)
  · exact ((buttonChanges_outers _ _).deeds b).behind (settled _)

theorem pressExpires_moves (b : Bool) (s : State) : Moves A (s, b) (s.pressExpires, b) := by
  unfold State.pressExpires
  exact (purgeTrigger_moves b _ _).behind (Outers.moves (by exact setPress_outers s rfl rfl) b)

theorem setSwitches_moves (free : A .doors) (b : Bool) (s : State) (w : Switches) :
    Moves A (s, b) ({ s with switches := w }, b) := .single (.doors s b w free)

theorem doorOpens_moves (free : A .doors) (b : Bool) (d : Door) (s : State) : Moves A (s, b) (s.doorOpens d, b) := by
  unfold State.doorOpens
  dsimp only
  refine (purgeDoorOpened_moves free b _).behind ((takeRaise_moves b (by simp) (.inr rfl) _ _).behind ?_)
  exact (emit_moves b _ _).behind (setSwitches_moves free b s _)

theorem doorCloses_moves (free : A .doors) (b : Bool) (d : Door) (s : State) : Moves A (s, b) (s.doorCloses d, b) := by
  unfold State.doorCloses
  dsimp only
  split
  · refine (purgeEpisodeEnded_moves free b _ _).behind ((takeRelease_moves b (by simp) (.inr rfl) _).behind ?_)
    exact (emit_moves b _ _).behind (setSwitches_moves free b s _)
  · refine (takeRelease_moves b (by simp) (.inr rfl) _).behind ?_
    exact (emit_moves b _ _).behind (setSwitches_moves free b s _)

/-- R122: the acceptance of a level of a door. -/
theorem acceptLevel_door_moves (free : A .doors) (b : Bool) {i : SwitchId} {d : Door} (door : doorOf i = some d) (s : State) :
    Moves A (s, b) (s.acceptLevel i, b) := by
  unfold State.acceptLevel
  dsimp only
  rw [door]
  dsimp only
  have settled (x : Switch) : Moves A (s, b) (s.setSwitch i x, b) := setSwitches_moves free b s _
  split
  · exact (doorOpens_moves free b d _).behind (settled _)
  · exact (doorCloses_moves free b d _).behind (settled _)

/-! ### The tag clock (R173) -/

theorem Lane.tick_move (x : Lane) (size : Nat) : LaneMove size x x.tick := by
  unfold Lane.tick
  split
  · exact ⟨id, fun _ k => k⟩
  next o ho =>
    split
    · exact ⟨fun h => by simpa [Lane.orderAgrees, ho] using h, fun _ k => k⟩
    · exact ⟨fun h => by simpa [Lane.orderAgrees, ho] using h, fun _ k => k⟩
    · exact ⟨id, fun _ k => k⟩

theorem Lane.tick_demand (x : Lane) : x.SameDemand x.tick := by
  unfold Lane.tick
  split
  · exact ⟨rfl, Iff.rfl, rfl⟩
  next o ho =>
    split
    · exact ⟨by simp [Lane.inForce, Lane.engaged, ho], Iff.rfl, rfl⟩
    · exact ⟨by simp [Lane.inForce, Lane.engaged, ho], Iff.rfl, rfl⟩
    · exact ⟨rfl, Iff.rfl, rfl⟩

theorem tickLane_moves (b : Bool) (l : LaneId) (s : State) : Moves A (s, b) (s.setLane l (s.lanes.get l).tick, b) :=
  .single (.lane s b b l _ (Lane.tick_move _ _) fun c => ⟨c, Lane.tick_demand _⟩)

theorem tickLanes_moves (b : Bool) (s : State) :
    Moves A (s, b) ({ s with lanes := ⟨s.lanes.front.tick, s.lanes.crew.tick, s.lanes.screen.tick⟩ }, b) :=
  (tickLane_moves b .screen _).behind ((tickLane_moves b .crew _).behind (tickLane_moves b .front s))

theorem tick_moves (b : Bool) (s : State) : Moves A (s, b) (s.tick, b) := by
  unfold State.tick
  dsimp only
  refine (purgeKeep_moves b (by rfl) (by rfl)).behind ((tickLanes_moves b _).behind ?_)
  have clock : Moves A (s, b) ({ s with tagClock := s.tagClock + 1, lastTick := s.lastTick + 100 }, b) :=
    .single (.outer _ _ b (.model s s.pending s.now s.serviceArg _ _ s.loader id))
  split
  · exact (emit_moves b _ _).behind clock
  · exact clock

end Sys2Proof.Machine
end

section
/-! PROOFS. Each step of the machine as a sequence of acts: deeds of the blocks in RUNNING, moves made in every part state,
the doors, the scanner, and the passages between the part states. -/

namespace Sys2Proof.Machine

variable {A : Freedom → Prop}

/-! ### Acts -/

/-- R169: the part as it enters FAULT, before it writes its words. -/
def State.faulted (s : State) (reason : FaultReason) : State :=
  { s with
    part := .fault, faultReason := some reason, loader := { phase := .none, words := [] }, governor := .reset ⟨0, 0, 0⟩ }

/-- R169: the part as it latches the layout read. -/
def State.latched (s : State) : State :=
  { s with layout := some (parseLayout s.loader.words), loader := { phase := .thresholds, words := [] } }

/-- R110: the part as it takes the threshold entries read. -/
def State.entriesTaken (s : State) : State :=
  { s with grader := startGrader s.loader.words, loader := { phase := .writes, words := [] } }

/-- One act of the machine. -/
inductive Act (A : Freedom → Prop) : State → State → Prop
  | outer {s t : State} (h : Outer s t) : Act A s t
  | deeds {s t : State} (running : s.part = .running) (h : Deeds A (s, false) (t, false)) : Act A s t
  | accept {s : State} (running : s.part = .running) {i : SwitchId} {d : Door} (door : doorOf i = some d) :
      Act A s (s.acceptLevel i)
  | convert {s : State} (running : s.part = .running) {v : Conversion} (under : s.scanner.conversion = some v) (r : Nat) :
      Act A s (s.completeConversion v.channel r)
  | pass {s : State} (running : s.part = .running) (waiting : s.scanner.state = .waiting) : Act A s s.beginPass
  | scanStop {s : State} (running : s.part = .running) : Act A s s.commandScanStop
  | scanStart {s : State} (running : s.part = .running) : Act A s s.commandScanStart
  | reset (s : State) : Act A s s.enterReset
  | loading {s : State} (other : s.part ≠ .running) (x : Loader) (phase : x.phase = .abandoned ∨ x.phase = .layout) :
      Act A s { s.clearForLoading with loader := x }
  | fault {s : State} (loading : s.part = .loading) (reason : FaultReason) : Act A s (s.faulted reason)
  | latch {s : State} (loading : s.part = .loading) (sound : layoutFault s.loader.words = none) : Act A s s.latched
  | entries {s : State} (loading : s.part = .loading) (phase : s.loader.phase = .thresholds) : Act A s s.entriesTaken
  | running {s : State} (loading : s.part = .loading) (phase : s.loader.phase = .writes) : Act A s s.enterRunning
  | draining {s : State} (running : s.part = .running) : Act A s s.stopBlocks

/-- A sequence of acts. -/
abbrev Acts (A : Freedom → Prop) : State → State → Prop := Sequence (Act A)

/-- The last part of a sequence first. -/
theorem Acts.behind {s t u : State} (k : Acts A t u) (h : Acts A s t) : Acts A s u := h.trans k

theorem Outers.acts {s t : State} (h : Outers s t) : Acts A s t := by
  induction h with
  | refl => exact .refl
  | tail _ k ih => exact ih.tail (.outer k)

theorem Deeds.acts {s t : State} (h : Deeds A (s, false) (t, false)) (running : s.part = .running) : Acts A s t :=
  .single (.deeds running h)

theorem Moves.acts {s t : State} (h : Moves A (s, false) (t, false)) (running : s.part = .running) : Acts A s t :=
  h.deeds.acts running

theorem each_acts {α : Type} {f : α → State → State} (h : ∀ x t, Acts A t (f x t)) (xs : List α) (s : State) :
    Acts A s (s.each xs f) := by
  unfold State.each
  induction xs generalizing s with
  | nil => exact .refl
  | cons x xs ih => exact (h x s).trans (ih (f x s))

/-! ### Start-up, RESTART and draining (R168 to R172) -/

theorem setLoader_outers (s : State) (x : Loader)
    (phase : x.phase = .thresholds ∨ x.phase = .writes → s.loader.phase = .thresholds ∨ s.loader.phase = .writes) :
    Outers s { s with loader := x } :=
  .single (.model s s.pending s.now s.serviceArg s.tagClock s.lastTick x phase)

theorem placeLayoutReads_outers (s : State) : Outers s s.placeLayoutReads := by
  unfold State.placeLayoutReads
  exact (placeReads_outers _ _ _).behind (setLoader_outers s _ (by simp))

theorem putPartState_outers (s : State) : Outers s s.putPartState := offer_outers s _ _

theorem putFaultReason_outers (s : State) : Outers s s.putFaultReason := offer_outers s _ _

theorem relamp_setLoader (s : State) (x : Loader) :
    ({ s with loader := x } : State).relamp = { s.relamp with loader := x } := by
  unfold State.relamp
  dsimp only
  split <;> rfl

theorem enterLoading_acts {s : State} (other : s.part ≠ .running) : Acts A s s.enterLoading := by
  have told (x : Loader) (phase : x.phase = .abandoned ∨ x.phase = .layout) :
      Acts A s { (s.clearForLoading.putPartState.putFaultReason).relamp with loader := x } := by
    rw [← relamp_setLoader]
    exact ((relamp_outers _).behind ((putFaultReason_outers _).behind (putPartState_outers _))).acts.behind
      (.single (.loading other x phase))
  unfold State.enterLoading
  dsimp only
  split
  · exact told _ (.inl rfl)
  · exact (placeReads_outers _ _ _).acts.behind (told _ (.inr rfl))

theorem enterFault_acts {s : State} (loading : s.part = .loading) (reason : FaultReason) :
    Acts A s (s.enterFault reason) :=
  ((relamp_outers _).behind ((putFaultReason_outers _).behind (putPartState_outers _))).acts.behind
    (.single (.fault loading reason))

theorem loaderReturned_loading {s : State} {phase : LoaderPhase} {n : Nat} (h : s.loaderReturned phase n = true) :
    s.part = .loading ∧ s.loader.phase = phase := by
  obtain ⟨loading, at_, _⟩ := loaderReturned_iff.1 h
  exact ⟨loading, at_⟩

theorem finishLayoutRead_acts (s : State) : Acts A s s.finishLayoutRead := by
  unfold State.finishLayoutRead State.judgeLayout
  split
  next returned =>
    obtain ⟨loading, _⟩ := loaderReturned_loading returned
    split
    · exact enterFault_acts loading _
    next sound => exact (placeReads_outers _ _ _).acts.behind (.single (.latch loading sound))
  · exact .refl

theorem offerInitial_outers (s : State) : Outers s s.offerInitial := by
  unfold State.offerInitial
  exact (offerAs_outers _ _ _ _).behind (each_outers (fun w t => offer_outers t _ _) _ s)

theorem finishThresholdRead_acts (s : State) : Acts A s s.finishThresholdRead := by
  unfold State.finishThresholdRead
  split
  next returned =>
    obtain ⟨loading, phase⟩ := loaderReturned_loading returned
    exact (offerInitial_outers _).acts.behind (.single (.entries loading phase))
  · exact .refl

theorem finishInitialWrites_acts (s : State) : Acts A s s.finishInitialWrites := by
  unfold State.finishInitialWrites
  split
  next ready =>
    obtain ⟨loading, phase, _⟩ := runningReady_iff.1 ready
    exact .single (.running loading phase)
  · exact .refl

theorem finishDraining_acts (s : State) : Acts A s s.finishDraining := by
  unfold State.finishDraining
  split
  next h => exact enterLoading_acts (by simp [h.1])
  · exact .refl

theorem finishFetch_acts (l : LaneId) (s : State) : Acts A s (s.finishFetch l) := by
  by_cases running : s.part = .running
  · exact (finishFetch_moves false l s).acts running
  · unfold State.finishFetch
    split
    · rw [if_neg (fun h => running h.1)]
      exact .refl
    · exact .refl

theorem writeBackService_outers (s : State) : Outers s s.writeBackService := offer_outers s _ _

theorem enterDraining_acts {s : State} (running : s.part = .running) : Acts A s s.enterDraining :=
  ((relamp_outers _).behind (putPartState_outers _)).acts.behind (.single (.draining running))

theorem abandon_outers (s : State) : Outers s { s with port := s.port.abandon } := .single (.port s _ ⟨id, id, id⟩)

theorem commandRestart_acts {s t : State} (h : s.commandRestart = some t) : Acts A s t := by
  have written := (writeBackService_outers s).acts (A := A)
  unfold State.commandRestart at h
  split at h
  next running => cases h; exact (enterDraining_acts (by exact running)).behind written
  next fault => cases h; exact (enterLoading_acts (by rw [show s.writeBackService.part = s.part from rfl, fault]; simp)).behind written
  next loading =>
    split at h
    · cases h
    · cases h
      refine (enterLoading_acts ?_).behind ((abandon_outers _).acts.behind written)
      rw [show ({ s.writeBackService with port := s.writeBackService.port.abandon } : State).part = s.part from rfl, loading]
      simp
  · cases h
  · cases h

/-! ### Part cycles (R161 to R166) -/

theorem settlePort_acts (s : State) : Acts A s s.settlePort := by
  unfold State.settlePort
  refine (each_acts finishFetch_acts _ _).behind ((finishInitialWrites_acts _).behind ?_)
  exact (finishThresholdRead_acts _).behind ((finishLayoutRead_acts _).behind (finishDraining_acts s))

theorem setPort_outers (s : State) {p : Port} (ram : p.ram = s.port.ram) (records : p.records = s.port.records)
    (images : p.images = s.port.images) : Outers s { s with port := p } :=
  .single (.port s p ⟨by rw [ram]; exact id, by rw [records]; exact id, by rw [images]; exact id⟩)

theorem passTurn_outers (x : Source) (s : State) : Outers s (s.passTurn x) := setPort_outers s rfl rfl rfl

theorem partWrite_outers (a : Nat) (d : Word) (s : State) : Outers s (s.partWrite a d) :=
  .single (.port s _ ⟨fun h => Memory.wf_write h a _, id, id⟩)

theorem recordReached_outers (role : EntryRole) (s : State) : Outers s (s.recordReached role) := by
  unfold State.recordReached
  split
  · exact setPort_outers s rfl rfl rfl
  · split
    · exact setEvents_outers s rfl rfl
    · exact .refl
  · exact .refl

theorem writeRecord_outers (s : State) : Outers s s.writeRecord := by
  unfold State.writeRecord
  split
  · exact .refl
  next e es hq =>
    refine (recordReached_outers _ _).behind ((partWrite_outers _ _ _).behind (.single (.port s _ ⟨id, fun h => ?_, id⟩)))
    rw [hq] at h
    exact Nat.le_trans (Nat.le_succ _) h

theorem writeImage_outers (s : State) : Outers s s.writeImage := by
  unfold State.writeImage
  split
  · exact .refl
  next e es hq =>
    refine (partWrite_outers _ _ _).behind (.single (.port s _ ⟨id, id, fun h => ?_⟩))
    rw [hq] at h
    exact h.of_cons

theorem giveRead_acts (x : Placer) (w : RamWord) (s : State) : Acts A s (s.giveRead x w) := by
  unfold State.giveRead
  split
  · unfold State.giveLane
    split
    next o ho =>
      split
      next h => exact Moves.acts (by exact setOrder_moves false ho rfl rfl) h.1
      · exact .refl
    · exact .refl
  · exact Outers.acts (by exact setLoader_outers s _ id)
  · unfold State.abandonedMade
    split
    · exact (placeLayoutReads_outers s).acts
    · exact .refl

theorem makeRead_acts (s : State) : Acts A s s.makeRead := by
  unfold State.makeRead
  split
  · exact .refl
  · exact (giveRead_acts _ _ _).behind (Outers.acts (by exact setPort_outers s rfl rfl rfl))

theorem servePart_acts (x : Source) (s : State) : Acts A s (s.servePart x) := by
  unfold State.servePart
  split
  · exact (makeRead_acts _).behind (passTurn_outers _ s).acts
  · exact ((writeRecord_outers _).behind (passTurn_outers _ s)).acts
  · exact ((writeImage_outers _).behind (passTurn_outers _ s)).acts

theorem admitWaiting_outers (s : State) : Outers s s.admitWaiting := .single (.port s _ ⟨id, Port.admit_bounded, id⟩)

theorem admitOne_outers {s : State} (room : s.port.canAdmit = true) : Outers s { s with port := s.port.admitOne } := by
  have free : s.port.records.length < 32 := by
    simp only [Port.canAdmit, Config.recordQueueSize, Bool.and_eq_true] at room
    exact of_decide_eq_true room.2
  refine .single (.port s _ ?_)
  unfold Port.admitOne
  split
  · exact ⟨id, id, id⟩
  · exact ⟨id, fun _ => by simp; omega, id⟩

/-! ### Held reads (R166) -/

theorem flushGranted_outers (h : HeldRead) (s : State) : Outers s (s.flushGranted h) := setPort_outers s rfl rfl rfl

theorem flushImage_outers (h : HeldRead) (s : State) : Outers s (s.flushImage h) := by
  unfold State.flushImage
  dsimp only
  have granted := flushGranted_outers { h with imageOwed := false } s
  split
  · refine (partWrite_outers _ _ _).behind (granted.tail (.port _ _ ⟨id, id, fun nodup => ?_⟩))
    exact nodup.sublist (List.filter_sublist.map _)
  · exact granted

theorem flushRecord_outers (h : HeldRead) (s : State) : Outers s (s.flushRecord h) :=
  (admitWaiting_outers _).behind ((writeRecord_outers _).behind ((admitWaiting_outers _).behind (flushGranted_outers _ s)))

theorem flush_outers (h : HeldRead) (s : State) : Outers s (s.flush h) := by
  unfold State.flush
  split
  · exact flushImage_outers h s
  · split
    · exact flushRecord_outers h s
    · exact .refl

theorem flushAll_acts (n : Nat) (s : State) : Acts A s (State.flushAll n s) := by
  induction n generalizing s with
  | zero => exact .refl
  | succ n ih =>
    unfold State.flushAll
    split
    · exact (ih _).behind ((settlePort_acts _).behind (flushRecord_outers _ s).acts)
    · exact .refl

theorem hostGranted_outers (s : State) : Outers s s.hostGranted := setPort_outers s rfl rfl rfl

theorem forwardRead_outers (a : Nat) (s : State) : Outers s (s.forwardRead a) := by
  unfold State.forwardRead
  dsimp only
  have read (x : Option RamCell) : Outers s { s with port := { s.port with lastRead := x } } := setPort_outers s rfl rfl rfl
  split
  · exact read _
  · exact (emit_outers _ _).behind (read _)

theorem grantHeld_outers (h : HeldRead) (s : State) : Outers s (s.grantHeld h) := by
  unfold State.grantHeld
  have freed : Outers s { s with port := { s.port with held := none } } := setPort_outers s rfl rfl rfl
  exact (forwardRead_outers _ _).behind ((hostGranted_outers _).behind freed)

theorem finishHeld_acts (s : State) : Acts A s s.finishHeld := by
  unfold State.finishHeld
  split
  · exact .refl
  next h _ =>
    dsimp only
    refine (grantHeld_outers _ _).acts.behind ((flushAll_acts _ _).behind ?_)
    split
    · exact (settlePort_acts _).behind (flushImage_outers h s).acts
    · exact .refl

theorem yieldPort_acts (s : State) : Acts A s s.yieldPort := by
  unfold State.yieldPort
  split
  · split
    · exact (settlePort_acts _).behind ((admitWaiting_outers _).acts.behind (servePart_acts _ s))
    · exact .refl
  · exact .refl

theorem atArrival_acts (s : State) : Acts A s s.atArrival :=
  (finishHeld_acts _).behind ((settlePort_acts _).behind (admitWaiting_outers s).acts)

theorem atGrant_acts (s : State) : Acts A s s.atGrant :=
  (hostGranted_outers _).acts.behind ((yieldPort_acts _).behind (atArrival_acts s))

theorem hostReadAt_acts (a : Nat) (s : State) : Acts A s (s.hostReadAt a) := by
  unfold State.hostReadAt
  dsimp only
  refine Acts.behind ?_ (atArrival_acts s)
  split
  · exact Outers.acts (by exact setPort_outers _ rfl rfl rfl)
  · exact ((forwardRead_outers _ _).behind (hostGranted_outers _)).acts.behind (yieldPort_acts _)

/-! ### Host writes (R155 to R159, R171, R176) -/

theorem forwardWrite_outers (a : Nat) (w : RamWord) (s : State) : Outers s (s.forwardWrite a w) :=
  .single (.port s _ ⟨fun h => Memory.wf_write h a w, id, id⟩)

theorem writeProducer_acts (l : LaneId) (a : Nat) (w : RamWord) {s : State} (running : s.part = .running) :
    Acts A s (s.writeProducer l a w) := by
  unfold State.writeProducer
  split
  next accepted =>
    simp only [State.producerAccepted, Bool.and_eq_true, decide_eq_true_eq] at accepted
    exact ((takeProducer_moves false l (by exact accepted.1)).acts (by exact running)).behind (forwardWrite_outers a w s).acts
  · exact (emit_outers s _).acts

theorem writeCommand_acts (l : LaneId) (code : Word) {s : State} (running : s.part = .running) :
    Acts A s (s.writeCommand l code) := by
  unfold State.writeCommand
  split
  · exact .refl
  · split
    next h => exact (offer_outers _ _ _).acts.behind ((laneCommand_moves false h).acts running)
    · exact (emit_outers s _).acts

section
variable (spots : A .spots)
include spots

theorem serviceHandler_acts {s t : State} (running : s.part = .running) {code : Nat} (h : s.serviceHandler code = some t) :
    Acts A s t := by
  unfold State.serviceHandler at h
  split at h
  · cases h; exact .single (.scanStart running)
  · cases h; exact .single (.scanStop running)
  · exact (commandSpotRead_moves spots false h).acts running
  · cases h; exact (purgeTrigger_moves false _ s).acts running
  · exact (commandClearJam_moves false h).acts running
  · cases h; exact (commandClearBlowerFail_deeds false s).acts running
  · cases h

theorem writeService_acts (code : Word) {s : State} (running : s.part = .running) : Acts A s (s.writeService code) := by
  unfold State.writeService
  split
  · exact .refl
  · split
    · cases h : s.commandRestart with
      | none => exact .refl
      | some t => exact commandRestart_acts h
    · split
      next h => exact (writeBackService_outers _).acts.behind (serviceHandler_acts spots running h)
      · exact (emit_outers s _).acts

end

theorem advanceConsumer_outers {v : Nat} {s : State} (inside : v < s.lay.eventSize) :
    Outers s (s.advanceConsumer v) := by
  unfold State.advanceConsumer
  have passed (f : RecordEntry → RecordEntry) : Outers s { s with port := { s.port with
      records := s.port.records.map f, waiting := s.port.waiting.map f } } :=
    .single (.port s _ ⟨id, fun h => by simpa using h, id⟩)
  exact (passed _).tail (.events _ _ (.inr inside) (.inl rfl))

theorem reportOverrun_outers (s : State) : Outers s s.reportOverrun := by
  unfold State.reportOverrun
  split
  · exact (emit_outers _ _).behind (setEvents_outers s rfl rfl)
  · exact .refl

theorem writeConsumer_outers (a : Nat) (w : RamWord) (s : State) : Outers s (s.writeConsumer a w) := by
  unfold State.writeConsumer
  dsimp only
  split
  next taken =>
    simp only [State.consumerTaken, Bool.and_eq_true, decide_eq_true_eq] at taken
    have advanced : Outers s ((s.forwardWrite a w).advanceConsumer w.data.toNat) :=
      (advanceConsumer_outers (by exact taken.1)).behind (forwardWrite_outers a w s)
    split
    · exact (reportOverrun_outers _).behind advanced
    · exact advanced
  · exact emit_outers s _

section
variable (spots : A .spots)
include spots

theorem writeRunning_acts (a : Nat) (w : RamWord) {s : State} (running : s.part = .running) :
    Acts A s (s.writeRunning a w) := by
  have forwarded : Acts A s (s.forwardWrite a w) := (forwardWrite_outers a w s).acts
  have plain (c : Bool) : Acts A s (if c then s.forwardWrite a w else (s.forwardWrite a w).emit (busParityWrite a w)) := by
    split
    · exact forwarded
    · exact (emit_outers _ _).acts.behind forwarded
  unfold State.writeRunning
  split
  · exact (emit_outers s _).acts
  · exact plain _
  · exact plain _
  · split
    · unfold State.handService
      dsimp only
      split
      · exact (writeService_acts spots _ (by exact running)).behind forwarded
      · exact forwarded.tail (.outer (.model _ s.pending s.now w.data s.tagClock s.lastTick s.loader id))
    · exact (emit_outers _ _).acts.behind forwarded
  · split
    · unfold State.handSnooped
      split
      · exact writeProducer_acts _ a w running
      · exact (writeCommand_acts _ _ (by exact running)).behind forwarded
      · exact (writeConsumer_outers a w s).acts
      · exact ((takeThreshold_moves false _ _ _).acts (by exact running)).behind forwarded
    · exact (emit_outers _ _).acts.behind forwarded

omit spots in
theorem writeStarting_acts (a : Nat) (w : RamWord) (s : State) : Acts A s (s.writeStarting a w) := by
  have forwarded : Acts A s (s.forwardWrite a w) := (forwardWrite_outers a w s).acts
  unfold State.writeStarting
  dsimp only
  split
  · cases h : (s.forwardWrite a w).commandRestart with
    | none => exact forwarded
    | some t => exact (commandRestart_acts h).behind forwarded
  · exact forwarded

theorem writeGranted_acts (a : Nat) (w : RamWord) (s : State) : Acts A s (s.writeGranted a w) := by
  have forwarded : Acts A s (s.forwardWrite a w) := (forwardWrite_outers a w s).acts
  unfold State.writeGranted
  split
  · exact forwarded
  · exact writeStarting_acts a w s
  · split
    · exact .refl
    · exact writeStarting_acts a w s
  next running => exact writeRunning_acts spots a w running
  · split
    · exact .refl
    · exact forwarded

theorem hostWriteAt_acts (a : Nat) (w : RamWord) (s : State) : Acts A s (s.hostWriteAt a w) :=
  (writeGranted_acts spots a w _).behind (atGrant_acts s)

theorem hostWritePlaced_acts (a : Layout → Nat) (v : Word) (s : State) : Acts A s (s.hostWritePlaced a v) := by
  unfold State.hostWritePlaced
  split
  · exact hostWriteAt_acts spots _ _ s
  · exact .refl

end

/-! ### Every command -/

/-- What an occurrence does where it is taken, it may do; where it is not, nothing changes. -/
theorem acts_if {c : Prop} [Decidable c] {s t : State} (h : c → Acts A s t) : Acts A s (if c then t else s) := by
  split
  next k => exact h k
  · exact .refl

theorem acceptLevel_acts {s : State} (running : s.part = .running) (i : SwitchId) : Acts A s (s.acceptLevel i) := by
  cases door : doorOf i with
  | none => exact (acceptLevel_deeds false door s).acts running
  | some d => exact .single (.accept running door)

theorem conversionComplete_acts (result : BitVec 12) (s : State) : Acts A s (match s.scanner.conversion with
    | some v => if s.part = .running ∧ s.conversionDue then s.completeConversion v.channel result.toNat else s
    | none => s) := by
  split
  next v under => exact acts_if fun h => .single (.convert h.1 under _)
  · exact .refl

/-- Every command is a sequence of acts. -/
theorem exec_acts (spots : A .spots) {c : Instr} {s t : State} (h : exec c s = .next t) : Acts A s t := by
  cases c <;> injection h with h <;> subst h
  case reset => exact .single (.reset s)
  case resetReleased => exact acts_if fun h => enterLoading_acts (by simp [h])
  case layoutReadComplete => exact finishLayoutRead_acts s
  case thresholdReadComplete => exact finishThresholdRead_acts s
  case runningEntry => exact finishInitialWrites_acts s
  case drainingComplete => exact finishDraining_acts s
  case tagClockTick =>
    refine acts_if fun h => (tick_moves false s).acts ?_
    simp only [State.tickDue, Bool.and_eq_true, beq_iff_eq] at h
    exact h.1
  case producerWrite => exact hostWritePlaced_acts spots _ _ s
  case start => exact hostWritePlaced_acts spots _ _ s
  case stopAfter => exact hostWritePlaced_acts spots _ _ s
  case abort => exact hostWritePlaced_acts spots _ _ s
  case flush => exact hostWritePlaced_acts spots _ _ s
  case laneCommandUnknown => exact hostWritePlaced_acts spots _ _ s
  case fetchReadDone => exact acts_if fun _ => servePart_acts _ s
  case orderFetchComplete => exact finishFetch_acts _ s
  case settleTimerExpiry l =>
    refine acts_if fun h => ((leaveSettle_moves recompute_again false true ?_).acts h.1)
    obtain ⟨_, due⟩ := h
    simp only [Lane.settleDue, Bool.and_eq_true, beq_iff_eq] at due
    exact due.1
  case dwellTimerExpiry => exact acts_if fun h => (dwellExpires_moves spots false _ s).acts h.1
  case inletHoldDownExpiry => exact acts_if fun h => (takeRelease_moves false (by simp) (.inr rfl) s).acts h.1
  case purgeRequest => exact hostWriteAt_acts spots _ _ s
  case purgeTimerExpiry => exact acts_if fun h => (purgeVerify_moves spots false h.2).acts h.1
  case conversionComplete => exact conversionComplete_acts _ s
  case scanPeriodElapsed =>
    refine acts_if fun h => .single (.pass h.1 ?_)
    obtain ⟨_, due⟩ := h
    simp only [State.scanPeriodDue, Bool.and_eq_true, beq_iff_eq] at due
    exact due.1
  case scanStop => exact hostWriteAt_acts spots _ _ s
  case scanStart => exact hostWriteAt_acts spots _ _ s
  case spotRead => exact hostWriteAt_acts spots _ _ s
  case thresholdWrite => exact hostWritePlaced_acts spots _ _ s
  case rawLevelChange => exact (rawChange_outers _ _ s).acts
  case debounceTimerExpiry => exact acts_if fun h => acceptLevel_acts h.1 _
  case pressTimerExpiry => exact acts_if fun h => (pressExpires_moves false s).acts h.1
  case movingPlannedEnd => exact acts_if fun h => (endMoving_moves false (planEnded_state h.2)).acts h.1
  case seatingTimeOut =>
    exact acts_if fun h => (comeToRest_moves false (by simp [Damper.granted, planEnded_state h.2]) _).acts h.1
  case stall => exact acts_if fun h => (stallDamper_moves false _ s).acts h
  case homingLimit =>
    exact acts_if fun h => (jamDamper_moves false (by simp [Damper.granted, planEnded_state h.2]) _ _).acts h.1
  case clearJam => exact hostWriteAt_acts spots _ _ s
  case tachPulse => exact acts_if fun h => (tachPulse_moves false s).acts h
  case tachTimeout =>
    exact acts_if fun h =>
      ((setSpeed_moves false _ _).behind (by exact setHeat_moves false s rfl rfl rfl)).acts h.1
  case blowerWatchExpiry => exact acts_if fun h => (blowerFails_deeds false s).acts h.1
  case clearBlowerFail => exact hostWriteAt_acts spots _ _ s
  case stageUpTimerExpiry => exact acts_if fun h => (stageUp_moves false s).acts h.1
  case restoreTimerExpiry => exact acts_if fun h => (restoreExpires_deeds false s).acts h.1
  case hostWrite => exact hostWriteAt_acts spots _ _ s
  case trespass => exact hostWriteAt_acts spots _ _ s
  case serviceArgumentWrite => exact hostWriteAt_acts spots _ _ s
  case serviceCodeUnknown => exact hostWriteAt_acts spots _ _ s
  case restart => exact hostWriteAt_acts spots _ _ s
  case eventConsumerWrite => exact hostWritePlaced_acts spots _ _ s
  case recordQueueWrite => exact acts_if fun _ => servePart_acts _ s
  case waitingWriteEntersQueue => exact acts_if fun h => (admitOne_outers h).acts
  case imageSetWrite => exact acts_if fun _ => servePart_acts _ s
  case hostReadHeld => exact hostReadAt_acts _ s
  case readFlushWrite =>
    split
    · exact (flush_outers _ s).acts
    · exact .refl
  case heldReadGranted =>
    split
    · split
      · exact .refl
      · exact (grantHeld_outers _ s).acts
    · exact .refl
  case hostRead => exact hostReadAt_acts _ s

/-- Every step is a sequence of acts. -/
theorem step_acts (spots : A .spots) {s t : State} (h : step s = .next t) : Acts A s t := by
  unfold step at h
  split at h
  · injection h with h
    subst h
    unfold State.idle
    split
    · exact .refl
    · exact .single (.outer (.model s s.pending (s.now + 1) s.serviceArg s.tagClock s.lastTick s.loader id))
  next c cs _ =>
    exact (exec_acts spots h).behind (.single (.outer (.model s cs s.now s.serviceArg s.tagClock s.lastTick s.loader id)))

end Sys2Proof.Machine
end

section
/-! PROOFS. What every step keeps: an invariant kept by each move and by each passage between part states is kept by every
step. The port, the layout, the ring indices and the Hold Table. -/

namespace Sys2Proof.Machine

/-! ### Entry to RUNNING in moves (R170) -/

/-- Every freedom. -/
abbrev Freely : Freedom → Prop := fun _ => True

theorem startConsumerWords_outers (s : State) : Outers s s.startConsumerWords :=
  each_outers (fun _ t => offer_outers t _ _) _ s

theorem startLevelWords_outers (s : State) : Outers s s.startLevelWords := by
  refine each_outers (fun c t => ?_) _ s
  split
  · exact .single (putImage_outer t _ _)
  · exact .refl

theorem startRefusals_outers (s : State) : Outers s s.startRefusals := by
  refine each_outers (fun c t => ?_) _ s
  split
  · exact thresholdEvent_outers c _ t
  · exact .refl

theorem startSwitches_outers (s : State) : Outers s s.startSwitches :=
  each_outers (fun i t => setSwitch_outers i { t.switch i with debounce := t.debounceFor i (t.switch i) } t (.inr rfl)) _ s

/-- R170: the first part of the entry to RUNNING, before the first pass begins. -/
def State.startHolds (s : State) : State :=
  ((s.startBlocks.putPartState.startConsumerWords.startLevelWords.grant State.recompute none).recomputeEntry
    |>.initialHolds.startRefusals.startDone)

/-- R170: the entry to RUNNING: the blocks, their first words and holds, then the first pass. -/
theorem enterRunning_eq (s : State) : s.enterRunning = s.startHolds.beginPass.startSwitches.relamp := rfl

section
variable {A : Freedom → Prop}

theorem initialHolds_deeds (s : State) : Deeds A (s, false) (s.initialHolds, false) := by
  unfold State.initialHolds
  refine .tail (Moves.deeds ?_) (.raise _ false .engineOff rfl .start)
  exact (takeRaise_moves false (by simp) (.inr rfl) _ _).behind (takeRaise_moves false (by simp) (.inr rfl) _ s)

/-- The entry to RUNNING up to the initial holds. -/
theorem startRecompute_moves (s : State) : Moves A (s.startBlocks, true)
    ((s.startBlocks.putPartState.startConsumerWords.startLevelWords.grant State.recompute none).recomputeEntry, false) := by
  refine (recomputeEntry_moves true _).behind ((grant_moves recompute_again true none _).behind (Outers.moves ?_ true))
  exact (startLevelWords_outers _).behind ((startConsumerWords_outers _).behind (putPartState_outers _))

theorem startHolds_deeds (s : State) : Deeds A (s.startBlocks, true) (s.startHolds, false) := by
  unfold State.startHolds
  refine Deeds.behind ?_ ((initialHolds_deeds _).behind (startRecompute_moves s).deeds)
  exact ((emit_outers _ _).behind (startRefusals_outers _)).deeds false

end

theorem enterRunning_moves (s : State) : Moves Freely (s.startBlocks, true) (s.enterRunning, false) := by
  rw [enterRunning_eq]
  refine ((relamp_outers _).moves false).behind (((startSwitches_outers _).moves false).behind ?_)
  exact (beginPass_moves trivial false _).behind ((startHolds_deeds s).moves_of_free trivial trivial)

/-! ### Invariants -/

/-- A predicate that every move in RUNNING and every passage between part states keeps. The flag of the moves is given to
it: set, the Mix Record may lag behind its inputs. -/
structure Invariant (P : State → Bool → Prop) : Prop where
  outer {s t : State} (b : Bool) : Outer s t → P s b → P t b
  move {s t : State} {b c : Bool} : s.part = .running → Move Freely (s, b) (t, c) → P s b → P t c
  reset (s : State) : P s false → P s.enterReset false
  loading {s : State} : s.part ≠ .running → ∀ x : Loader, x.phase = .abandoned ∨ x.phase = .layout → P s false →
    P { s.clearForLoading with loader := x } false
  fault {s : State} : s.part = .loading → ∀ reason, P s false → P (s.faulted reason) false
  latch {s : State} : s.part = .loading → layoutFault s.loader.words = none → P s false → P s.latched false
  entries {s : State} : s.part = .loading → s.loader.phase = .thresholds → P s false → P s.entriesTaken false
  start {s : State} : s.part = .loading → s.loader.phase = .writes → P s false → P s.startBlocks true
  draining {s : State} : s.part = .running → P s false → P s.stopBlocks false

theorem Outer.part {s t : State} (h : Outer s t) : t.part = s.part := by cases h <;> rfl

theorem Move.part {A : Freedom → Prop} {p q : State × Bool} (h : Move A p q) : q.1.part = p.1.part := by
  cases h with
  | outer _ _ _ h => exact h.part
  | _ => rfl

theorem Moves.part {A : Freedom → Prop} {p q : State × Bool} (h : Moves A p q) : q.1.part = p.1.part := by
  induction h with
  | refl => rfl
  | tail _ k ih => exact k.part.trans ih

namespace Invariant
variable {P : State → Bool → Prop} (inv : Invariant P)
include inv

theorem moves {s t : State} {b c : Bool} (h : Moves Freely (s, b) (t, c)) (running : s.part = .running) (hs : P s b) :
    P t c := by
  have kept {q : State × Bool} (k : Moves Freely (s, b) q) : P q.1 q.2 := by
    induction k with
    | refl => exact hs
    | tail k m ih => exact inv.move ((Moves.part k).trans running) m ih
  exact kept h

theorem deeds {s t : State} (h : Deeds Freely (s, false) (t, false)) (running : s.part = .running) (hs : P s false) :
    P t false := inv.moves (h.moves_of_free trivial trivial) running hs

theorem act {s t : State} (h : Act Freely s t) (hs : P s false) : P t false := by
  cases h with
  | outer h => exact inv.outer false h hs
  | deeds running h => exact inv.deeds h running hs
  | accept running door => exact inv.moves (acceptLevel_door_moves trivial false door s) running hs
  | convert running under r => exact inv.deeds (completeConversion_deeds trivial false _ r s) running hs
  | pass running waiting => exact inv.moves (beginPass_moves trivial false s) running hs
  | scanStop running => exact inv.moves (commandScanStop_moves trivial false s) running hs
  | scanStart running => exact inv.moves (commandScanStart_moves trivial false s) running hs
  | reset => exact inv.reset s hs
  | loading other x phase => exact inv.loading other x phase hs
  | fault loading reason => exact inv.fault loading reason hs
  | latch loading sound => exact inv.latch loading sound hs
  | entries loading phase => exact inv.entries loading phase hs
  | running loading phase => exact inv.moves (enterRunning_moves s) rfl (inv.start loading phase hs)
  | draining running => exact inv.draining running hs

/-- Every step keeps an invariant. -/
theorem step {s t : State} (h : step s = .next t) (hs : P s false) : P t false := by
  have acts : Acts Freely s t := step_acts trivial h
  clear h
  induction acts with
  | refl => exact hs
  | tail _ k ih => exact inv.act k ih

end Invariant

/-! ### The memory port and the layout (R164, R165, R169) -/

theorem ramCanonical_invariant : Invariant (fun s _ => s.ramCanonical) where
  outer _ h hs := by
    cases h with
    | port _ keeps => exact keeps.ram hs
    | _ => exact hs
  move _ h hs := by
    cases h with
    | outer _ _ _ h =>
      cases h with
      | port _ keeps => exact keeps.ram hs
      | _ => exact hs
    | _ => exact hs
  reset _ := id
  loading _ _ _ := id
  fault _ _ := id
  latch _ _ := id
  entries _ _ := id
  start _ _ := id
  draining _ := id

theorem queuesBounded_invariant : Invariant (fun s _ => s.queuesBounded) where
  outer _ h hs := by
    cases h with
    | port _ keeps => exact ⟨keeps.records hs.1, keeps.images hs.2⟩
    | _ => exact hs
  move _ h hs := by
    cases h with
    | outer _ _ _ h =>
      cases h with
      | port _ keeps => exact ⟨keeps.records hs.1, keeps.images hs.2⟩
      | _ => exact hs
    | _ => exact hs
  reset _ _ := ⟨by simp [State.enterReset, Port.reset], by simp [State.enterReset, Port.reset]⟩
  loading _ _ _ := id
  fault _ _ := id
  latch _ _ := id
  entries _ _ := id
  start _ _ := id
  draining _ := id

/-- R169: what the judgement of a layout tests. -/
theorem sound_of_layoutFault {ws : List RamWord} (h : layoutFault ws = none) :
    (parseLayout ws).regionsOk = true ∧ (parseLayout ws).rangesOk = true ∧ (parseLayout ws).scanListOk = true ∧
      (parseLayout ws).ranksOk = true := by
  unfold layoutFault at h
  simp only at h
  repeat' split at h
  all_goals simp_all

theorem layoutSound_of_outer {s t : State} (h : Outer s t) (hs : s.layoutSound) : t.layoutSound := by
  cases h with
  | model _ _ _ _ _ _ phase =>
    exact ⟨hs.1, fun k => hs.2 (k.imp_right (Or.imp_right fun l => ⟨l.1, phase l.2⟩))⟩
  | _ => exact hs

theorem layoutSound_invariant : Invariant (fun s _ => s.layoutSound) where
  outer _ := layoutSound_of_outer
  move _ h hs := by
    cases h with
    | outer _ _ _ h => exact layoutSound_of_outer h hs
    | _ => exact hs
  reset s _ := by
    refine ⟨fun _ h => (by cases h), fun h => ?_⟩
    simp [State.enterReset, State.reset] at h
  loading _ x phase _ := by
    refine ⟨fun _ h => (by cases h), fun h => ?_⟩
    rcases phase with phase | phase <;> simp [State.clearForLoading, phase] at h
  fault _ _ hs := ⟨hs.1, fun h => by simp [State.faulted] at h⟩
  latch _ sound _ := ⟨fun _ h => by cases h; exact sound_of_layoutFault sound, fun _ => rfl⟩
  entries loading phase hs := ⟨hs.1, fun _ => hs.2 (.inr (.inr ⟨loading, .inl phase⟩))⟩
  start loading phase hs := ⟨hs.1, fun _ => hs.2 (.inr (.inr ⟨loading, .inr phase⟩))⟩
  draining running hs := ⟨hs.1, fun _ => hs.2 (.inl running)⟩

/-! ### The indices of the rings (R2, R174) -/

theorem Outer.layout {s t : State} (h : Outer s t) : t.layout = s.layout := by cases h <;> rfl

theorem indexesBounded_of_outer {s t : State} (h : Outer s t) (hs : s.indexesBounded) : t.indexesBounded := by
  cases h with
  | events e consumer producer =>
    intro running
    obtain ⟨lanes, below, inside⟩ := hs running
    refine ⟨lanes, ?_, ?_⟩
    · obtain eq | eq := producer
      · rw [eq]; exact below
      · rw [eq]; exact Nat.mod_lt _ (by exact Nat.zero_lt_of_lt inside)
    · obtain eq | lt := consumer
      · rw [eq]; exact inside
      · exact lt
  | _ => exact hs

theorem lanes_get_setLane (s : State) (l m : LaneId) (x : Lane) :
    (s.setLane l x).lanes.get m = if m = l then x else s.lanes.get m := by
  cases l <;> cases m <;> rfl

theorem indexesBounded_invariant : Invariant (fun s _ => s.layoutSound ∧ s.indexesBounded) where
  outer _ h := fun ⟨sound, bounded⟩ => ⟨layoutSound_of_outer h sound, indexesBounded_of_outer h bounded⟩
  move running h := fun ⟨sound, bounded⟩ => by
    refine ⟨layoutSound_invariant.move running h sound, ?_⟩
    cases h with
    | outer _ _ _ h => exact indexesBounded_of_outer h bounded
    | lane _ _ _ l x keeps =>
      intro _
      obtain ⟨lanes, events⟩ := bounded running
      refine ⟨fun m some => ?_, events⟩
      rw [lanes_get_setLane]
      by_cases hm : m = l
      · rw [if_pos hm]
        subst hm
        exact keeps.inside some (lanes m some)
      · rw [if_neg hm]
        exact lanes m some
    | _ => exact bounded
  reset s hs := ⟨layoutSound_invariant.reset s hs.1, fun running => by cases running⟩
  loading other x phase hs := ⟨layoutSound_invariant.loading other x phase hs.1, fun running => by cases running⟩
  fault loading reason hs := ⟨layoutSound_invariant.fault loading reason hs.1, fun running => by cases running⟩
  latch loading sound hs := ⟨layoutSound_invariant.latch loading sound hs.1, fun running =>
    absurd (loading.symm.trans running) (by simp)⟩
  entries loading phase hs := ⟨layoutSound_invariant.entries loading phase hs.1, fun running =>
    absurd (loading.symm.trans running) (by simp)⟩
  start {s} loading phase hs := by
    refine ⟨layoutSound_invariant.start loading phase hs.1, fun _ => ?_⟩
    obtain ⟨L, hL⟩ := Option.isSome_iff_exists.1 (hs.1.2 (.inr (.inr ⟨loading, .inr phase⟩)))
    have lay : s.lay = L := by simp [State.lay, hL]
    obtain ⟨_, _, _, _, _, size, _⟩ := regions_of_ok (hs.1.1 L hL).1
    have some : 0 < s.lay.eventSize := by rw [lay]; exact Nat.lt_of_lt_of_le (by simp) size
    refine ⟨fun l hl => ?_, some, some⟩
    cases l <;> exact ⟨Nat.pos_of_ne_zero hl, Nat.pos_of_ne_zero hl⟩
  draining running hs := ⟨layoutSound_invariant.draining running hs.1, fun running => by cases running⟩

/-- Settles O53: each move and each passage keeps the port, the layout and the indices. -/
theorem stepKeepsPortLayoutAndIndexBounds : Obligations.StepKeepsPortLayoutAndIndexBounds := by
  intro s t h
  exact ⟨ramCanonical_invariant.step h, queuesBounded_invariant.step h, layoutSound_invariant.step h,
    fun sound bounded => (indexesBounded_invariant.step h ⟨sound, bounded⟩).2⟩

/-! ### The Hold Table (R52, R53, R61) -/

theorem holdsDistinct_invariant : Invariant (fun s _ => s.holdsDistinct) where
  outer _ h hs := by cases h <;> exact hs
  move _ h hs := by
    cases h with
    | outer _ _ _ h => cases h <;> exact hs
    | holds _ _ _ rs distinct => exact distinct hs
    | purge _ _ _ p rs distinct => exact distinct hs
    | _ => exact hs
  reset _ _ := List.nodup_nil
  loading _ _ _ := id
  fault _ _ := id
  latch _ _ := id
  entries _ _ := id
  start _ _ _ := List.nodup_nil
  draining _ _ := List.nodup_nil

theorem holdsOnlyRunning_invariant : Invariant (fun s _ => s.holdsOnlyRunning) where
  outer _ h hs := by cases h <;> exact hs
  move running h _ := fun other => absurd (h.part.trans running) other
  reset _ _ _ := rfl
  loading other _ _ hs _ := hs other
  fault loading _ hs _ := hs (by simp [loading])
  latch loading _ hs := hs
  entries loading _ hs := hs
  start _ _ _ := fun other => absurd rfl other
  draining _ _ _ := rfl

theorem purgeHeld_iff_pair (s : State) : s.purgeHeld ↔ (s.part = .running → PurgeHeld s.purge s.holds) := Iff.rfl

theorem purgeHeld_invariant : Invariant (fun s _ => s.holdsDistinct ∧ s.purgeHeld) where
  outer b h := fun hs => ⟨holdsDistinct_invariant.outer b h hs.1, by cases h <;> exact hs.2⟩
  move {s t b c} running h := fun ⟨distinct, held⟩ => by
    refine ⟨holdsDistinct_invariant.move running h distinct, ?_⟩
    rw [purgeHeld_iff_pair] at held ⊢
    cases h with
    | outer _ _ _ h => cases h <;> exact held
    | holds _ _ _ rs _ purge => exact fun k => purge distinct (held k)
    | purge _ _ _ p rs _ purge => exact fun k => purge distinct (held k)
    | _ => exact held
  reset _ _ := ⟨List.nodup_nil, fun running => by cases running⟩
  loading _ _ _ hs := ⟨hs.1, fun running => by cases running⟩
  fault _ _ hs := ⟨hs.1, fun running => by cases running⟩
  latch _ _ hs := hs
  entries _ _ hs := hs
  start _ _ _ := ⟨List.nodup_nil, fun _ => PurgeHeld.of_absent rfl rfl⟩
  draining _ _ := ⟨List.nodup_nil, fun running => by cases running⟩

/-- Settles O54: a pair is raised only where it is absent, and a change of the purge takes its hold with it. -/
theorem stepKeepsHoldTableSound : Obligations.StepKeepsHoldTableSound := by
  intro s t h
  exact ⟨holdsDistinct_invariant.step h, holdsOnlyRunning_invariant.step h,
    fun distinct held => (purgeHeld_invariant.step h ⟨distinct, held⟩).2⟩

end Sys2Proof.Machine
end

section
/-! PROOFS. What every step keeps: the dampers in motion, the lanes' orders, the Mix Record. -/

namespace Sys2Proof.Machine

/-! ### The dampers in motion (R132, R133) -/

theorem countP_vset {α : Type} {n : Nat} (p : α → Bool) (v : Vector α n) (i : Fin n) (x : α) :
    (vset v i x).toList.countP p + flag (p (v.get i)) = v.toList.countP p + flag (p x) := by
  obtain ⟨⟨xs⟩, rfl⟩ := v
  show (xs.set i.val x).countP p + flag (p xs[i.val]) = xs.countP p + flag (p x)
  rw [List.countP_set i.isLt]
  by_cases h : p xs[i.val] = true
  · have pos : 0 < xs.countP p := List.countP_pos_iff.2 ⟨_, List.getElem_mem i.isLt, h⟩
    simp only [h, flag, if_true]
    omega
  · simp [h, flag]

theorem DriveMove.grantsBounded {limit : Nat} {v w : Drive} (h : DriveMove limit v w) (le : v.granted ≤ limit) :
    w.granted ≤ limit := by
  unfold Drive.granted at le ⊢
  cases h with
  | edit d x _ grants =>
    have count := countP_vset Damper.granted v.dampers d x
    have : flag x.granted ≤ flag (v.dampers.get d).granted := by
      cases h : x.granted
      · exact Nat.zero_le _
      · exact Nat.le_of_eq (congrArg flag (grants h).symm)
    dsimp only
    omega
  | join d x _ waits _ =>
    have count := countP_vset Damper.granted v.dampers d x
    have : flag x.granted = 0 := by simp [Damper.granted, waits, flag]
    dsimp only
    omega
  | leave d x rests =>
    have count := countP_vset Damper.granted v.dampers d x
    have : flag x.granted = 0 := by simp [Damper.granted, rests, flag]
    dsimp only
    omega
  | grant e es x _ free _ =>
    have count := countP_vset Damper.granted v.dampers e.damper x
    have : flag x.granted ≤ 1 := by cases x.granted <;> simp [flag]
    unfold Drive.granted at free
    dsimp only
    omega

/-- R132: the Motion Queue holds each WAITING damper once, and no other. -/
def Drive.agrees (v : Drive) : Prop :=
  (v.queue.map MotionEntry.damper).Nodup ∧
    ∀ d, (v.dampers.get d).state = .waiting ↔ d ∈ v.queue.map MotionEntry.damper

theorem vset_get_state (v : Vector Damper 8) (d e : Fin 8) (x : Damper) :
    ((vset v d x).get e).state = if e = d then x.state else (v.get e).state := by
  by_cases h : e = d
  · rw [h, vset_get_same, if_pos rfl]
  · rw [vset_get_other v x h, if_neg h]

theorem DriveMove.agrees {limit : Nat} {v w : Drive} (h : DriveMove limit v w) (agrees : v.agrees) : w.agrees := by
  obtain ⟨distinct, waiting⟩ := agrees
  cases h with
  | edit d x waits _ =>
    refine ⟨distinct, fun e => ?_⟩
    rw [← waiting e]
    dsimp only
    rw [vset_get_state]
    by_cases h : e = d
    · rw [if_pos h, h, waits]
    · rw [if_neg h]
  | join d x homing waits before =>
    have absent : d ∉ v.queue.map MotionEntry.damper := fun k => before ((waiting d).2 k)
    refine ⟨?_, fun e => ?_⟩
    · dsimp only
      rw [List.map_append]
      exact nodup_snoc distinct absent
    · dsimp only
      rw [vset_get_state, List.map_append, List.mem_append, ← waiting e]
      by_cases h : e = d
      · simp [h, waits]
      · simp [h]
  | leave d x rests =>
    refine ⟨distinct.sublist (List.filter_sublist.map _), fun e => ?_⟩
    dsimp only
    rw [vset_get_state]
    by_cases h : e = d
    · simp [h, rests]
    · rw [if_neg h, waiting e]
      constructor
      · intro k
        obtain ⟨y, hy, rfl⟩ := List.mem_map.1 k
        exact List.mem_map_of_mem (List.mem_filter.2 ⟨hy, by simpa using h⟩)
      · exact fun k => (List.filter_sublist.map _).subset k
  | grant e es x head _ leaves =>
    rw [head] at distinct waiting
    obtain ⟨gone, distinct⟩ := List.nodup_cons.1 distinct
    refine ⟨distinct, fun d => ?_⟩
    dsimp only
    rw [vset_get_state]
    by_cases h : d = e.damper
    · simpa [h, leaves] using gone
    · rw [if_neg h, waiting d]
      simp [h]

/-- Dampers that all wait hold no grant. -/
theorem countP_granted_waiting {v : Vector Damper 8} (h : ∀ d, (v.get d).state = .waiting) :
    v.toList.countP Damper.granted = 0 := by
  refine List.countP_eq_zero.2 fun x hx => ?_
  obtain ⟨i, hi, rfl⟩ := List.mem_iff_getElem.1 hx
  have wait := h ⟨i, by simpa using hi⟩
  simp only [Vector.get] at wait
  simp_all [Damper.granted]

theorem reset_dampers_waiting (d : Fin 8) : (Drive.reset.dampers.get d).state = .waiting := by
  match d with
  | 0 | 1 | 2 | 3 | 4 | 5 | 6 | 7 => rfl

theorem stopped_dampers_waiting (v : Drive) (d : Fin 8) : (v.stopped.dampers.get d).state = .waiting := by
  simp [Drive.stopped, Vector.get]

theorem grantsBounded_invariant : Invariant (fun s _ => s.grantsBounded) where
  outer _ h hs := by cases h <;> exact hs
  move {s _ _ _} running h hs := by
    cases h with
    | outer _ _ _ h => cases h <;> exact hs
    | drive _ _ v keeps => exact ⟨fun k => keeps.grantsBounded (hs.1 k), fun k => absurd running k⟩
    | _ => exact hs
  reset _ _ := ⟨fun running => (by cases running), fun _ => countP_granted_waiting reset_dampers_waiting⟩
  loading other _ _ hs := ⟨fun running => (by cases running), fun _ => hs.2 other⟩
  fault loading _ hs := ⟨fun running => (by cases running), fun _ => hs.2 (by simp [loading])⟩
  latch loading _ hs := ⟨fun running => absurd (loading.symm.trans running) (by simp), hs.2⟩
  entries _ _ hs := hs
  start _ _ _ := by
    refine ⟨fun _ => ?_, fun other => absurd rfl other⟩
    exact Nat.le_trans (Nat.le_of_eq (countP_granted_waiting reset_dampers_waiting)) (Nat.zero_le _)
  draining _ _ :=
    ⟨fun running => (by cases running), fun _ => countP_granted_waiting (stopped_dampers_waiting _)⟩

theorem start_agrees : Drive.start.agrees := by
  refine ⟨by decide, fun d => ?_⟩
  match d with
  | 0 | 1 | 2 | 3 | 4 | 5 | 6 | 7 => decide

theorem motionAgrees_invariant : Invariant (fun s _ => s.motionAgrees) where
  outer _ h hs := by cases h <;> exact hs
  move _ h hs := by
    cases h with
    | outer _ _ _ h => cases h <;> exact hs
    | drive _ _ v keeps => exact fun k => keeps.agrees (hs k)
    | _ => exact hs
  reset _ _ := fun running => by cases running
  loading _ _ _ _ := fun running => by cases running
  fault _ _ _ := fun running => by cases running
  latch _ _ := id
  entries _ _ := id
  start _ _ _ := fun _ => start_agrees
  draining _ _ := fun running => by cases running

/-- Settles O56: a grant is given only below the limit and to the head of the queue, which alone it leaves. -/
theorem stepKeepsMotionGrantsAndQueue : Obligations.StepKeepsMotionGrantsAndQueue := by
  intro s t h
  exact ⟨grantsBounded_invariant.step h, motionAgrees_invariant.step h⟩

/-! ### The lanes' orders (R2, R11) -/

theorem ordersAgree_invariant : Invariant (fun s _ => s.ordersAgree) where
  outer _ h hs := by cases h <;> exact hs
  move _ h hs := by
    cases h with
    | outer _ _ _ h => cases h <;> exact hs
    | lane _ _ _ l x keeps =>
      intro running m
      rw [lanes_get_setLane]
      by_cases hm : m = l
      · rw [if_pos hm]
        exact keeps.agrees (hs running l)
      · rw [if_neg hm]
        exact hs running m
    | _ => exact hs
  reset _ _ := fun running => by cases running
  loading _ _ _ _ := fun running => by cases running
  fault _ _ _ := fun running => by cases running
  latch _ _ := id
  entries _ _ := id
  start {s} _ _ _ := fun _ l => by
    have starts (L : Layout) (m : LaneId) : (L.startLane m).orderAgrees := by
      unfold Layout.startLane Lane.orderAgrees
      dsimp only
      split
      · exact .inl rfl
      · exact .inr (.inl rfl)
    cases l <;> exact starts _ _
  draining _ _ := fun running => by cases running

/-- Settles O59: each change of a lane leaves its order and its state in agreement. -/
theorem stepKeepsLaneOrdersAgreed : Obligations.StepKeepsLaneOrdersAgreed := by
  intro s t h
  exact ordersAgree_invariant.step h

/-! ### The inputs of the Mix Record (R31, R35 to R48) -/

/-- What a recompute reads beside the relief is the same of two states. -/
structure State.SameInputs (s t : State) : Prop where
  layout : t.layout = s.layout
  keys : t.holds.map HoldRecord.key = s.holds.map HoldRecord.key
  view : t.governor.view = s.governor.view
  lanes : ∀ l, (s.lanes.get l).SameDemand (t.lanes.get l)
  channels : ∀ l : LaneId, t.channel l.channel = s.channel l.channel

/-- The kind of an open door's hold. -/
def HoldKey.isDoor : HoldKey → Bool
  | .doorOpen _ => true
  | _ => false

theorem doorHold_keys (s : State) : s.doorHold = (s.holds.map HoldRecord.key).any HoldKey.isDoor := by
  rw [List.any_map]
  unfold State.doorHold
  congr 1

namespace State.SameInputs
variable {s t : State} (h : s.SameInputs t)
include h

theorem lay : t.lay = s.lay := by rw [State.lay, h.layout]; rfl

theorem hasHold (k : HoldKey) : t.hasHold k = s.hasHold k := by
  have any_key (rs : List HoldRecord) : rs.any (fun r => decide (r.key = k)) =
      (rs.map HoldRecord.key).any (fun x => decide (x = k)) := by rw [List.any_map]; rfl
  rw [State.hasHold, State.hasHold, any_key, any_key, h.keys]

theorem doorHold : t.doorHold = s.doorHold := by rw [doorHold_keys, doorHold_keys, h.keys]

theorem inForce (l : LaneId) : (t.lanes.get l).inForce = (s.lanes.get l).inForce := (h.lanes l).force

theorem allowed (i : Inlet) : t.allowed i = s.allowed i := by rw [State.allowed, State.allowed, h.hasHold, h.view]

theorem allowedOf (i : Inlet) : t.allowedOf i = s.allowedOf i := by
  rw [State.allowedOf, State.allowedOf, h.allowed, h.allowed]

theorem satisfy (r : SourceReq) : t.satisfy r = s.satisfy r := by
  cases r <;> simp [State.satisfy, h.allowed, h.allowedOf, h.lay]

theorem ranked : t.ranked = s.ranked := by
  unfold State.ranked
  simp only [h.lay, h.inForce]

theorem firstSatisfied (xs : List (LaneId × OrderFields)) : t.firstSatisfied xs = s.firstSatisfied xs := by
  induction xs with
  | nil => rfl
  | cons x xs ih =>
    obtain ⟨l, f⟩ := x
    rw [State.firstSatisfied, State.firstSatisfied, h.satisfy, ih]

theorem purging : t.purging = s.purging := by rw [State.purging, State.purging, h.hasHold, h.view]

theorem flushing : t.flushing = s.flushing := by rw [State.flushing, State.flushing, h.hasHold, h.view]

theorem scrubbing : t.scrubbing = s.scrubbing := by rw [State.scrubbing, State.scrubbing, h.hasHold, h.view]

theorem sourceChoice : t.sourceChoice = s.sourceChoice := by
  have opens : t.allowedOf = s.allowedOf := funext h.allowedOf
  rw [State.sourceChoice, State.sourceChoice, h.flushing, h.scrubbing, h.doorHold, h.ranked, h.firstSatisfied, h.satisfy,
    h.lay, h.view, opens]

theorem freshOpening (c : SourceChoice) : t.freshOpening c = s.freshOpening c := by
  rw [State.freshOpening, State.freshOpening, h.hasHold, h.hasHold, h.lay]

theorem deniedLane (c : ChosenSource) (l : LaneId) : t.deniedLane c l = s.deniedLane c l := by
  rw [State.deniedLane, State.deniedLane, h.inForce]

theorem nextFilter (c : SourceChoice) (roof bumper : Nat) : t.nextFilter c roof bumper = s.nextFilter c roof bumper := by
  unfold State.nextFilter
  simp only [h.purging, h.doorHold, h.hasHold, h.view]

theorem nextBlower : t.nextBlower = s.nextBlower := by
  unfold State.nextBlower State.ordersInForce
  simp only [h.purging, h.doorHold, h.hasHold, h.lay, h.inForce]

theorem nextRelief (relief : t.governor.mix.relief = s.governor.mix.relief) (c : ChosenSource) (dp : Option Nat) :
    t.nextRelief c dp = s.nextRelief c dp := by
  unfold State.nextRelief State.reliefStep
  simp only [h.purging, h.doorHold, h.lay, relief]

/-- R46: a relief handed on is the relief of the next record without a new pressure. -/
theorem nextRelief_again {c : ChosenSource} {dp : Option Nat} (relief : t.governor.mix.relief = s.nextRelief c dp) :
    t.nextRelief c none = s.nextRelief c dp := by
  unfold State.nextRelief at relief ⊢
  simp only [h.purging, h.doorHold, h.lay, relief]
  split
  · rfl
  · split
    · rfl
    · split <;> rfl

theorem nextZone (l : LaneId) : t.nextZone l = s.nextZone l := by
  unfold State.nextZone State.demand
  simp only [h.purging, h.inForce, (h.lanes l).fetch, (h.lanes l).carried, h.lay]

theorem laneHeat (l : LaneId) : t.laneHeat l = s.laneHeat l := by
  unfold State.laneHeat
  simp only [h.inForce, h.channels, h.lay]

/-- R31: the Mix Record is computed from these inputs and the relief. -/
theorem nextMix_of_relief {dp dp' : Option Nat}
    (relief : t.nextRelief s.sourceChoice.source dp' = s.nextRelief s.sourceChoice.source dp) :
    t.nextMix dp' = s.nextMix dp := by
  have heats : t.laneHeat = s.laneHeat := funext h.laneHeat
  unfold State.nextMix
  simp only [h.sourceChoice, h.freshOpening, h.nextFilter, h.nextBlower, relief, h.nextZone, h.deniedLane, heats]

theorem nextMix (relief : t.governor.mix.relief = s.governor.mix.relief) (dp : Option Nat) :
    t.nextMix dp = s.nextMix dp := h.nextMix_of_relief (h.nextRelief relief _ dp)

end State.SameInputs

/-! ### The Mix Record (R28, R31) -/

theorem SameInputs.of_mix (s : State) (m : Mix) (chosen : ChosenSource) :
    s.SameInputs { s with governor := { s.governor with mix := m, chosen := chosen } } :=
  ⟨rfl, rfl, rfl, fun _ => ⟨rfl, Iff.rfl, rfl⟩, fun _ => rfl⟩

/-- R31: a Mix Record just computed is the one that its inputs give. -/
theorem nextMix_again (s : State) (dp : Option Nat) :
    ({ s with governor := { s.governor with mix := (s.nextMix dp).1, chosen := (s.nextMix dp).2 } } : State).nextMix none =
      s.nextMix dp :=
  have same := SameInputs.of_mix s (s.nextMix dp).1 (s.nextMix dp).2
  same.nextMix_of_relief (same.nextRelief_again rfl)

/-- The Mix Record is the one that its inputs give. -/
def State.mixFollows (s : State) : Prop := s.nextMix none = (s.governor.mix, s.governor.chosen)

theorem mixFollows_of_same {s t : State} (follows : s.mixFollows) (h : s.SameInputs t)
    (governor : t.governor = s.governor) : t.mixFollows := by
  rw [State.mixFollows, h.nextMix (by rw [governor]), governor]
  exact follows

/-- A change of what no recompute reads. -/
theorem mixFollows_of_unread {s t : State} (follows : s.mixFollows) (layout : t.layout = s.layout)
    (holds : t.holds = s.holds) (lanes : t.lanes = s.lanes) (channels : t.scanner.channels = s.scanner.channels)
    (governor : t.governor = s.governor) : t.mixFollows := by
  refine mixFollows_of_same follows ⟨layout, by rw [holds], by rw [governor], fun _ => ?_, fun l => ?_⟩ governor
  · rw [lanes]
    exact ⟨rfl, Iff.rfl, rfl⟩
  · rw [State.channel, channels]
    rfl

theorem mixFollows_of_outer {s t : State} (h : Outer s t) (follows : s.mixFollows) : t.mixFollows := by
  cases h <;> exact mixFollows_of_unread follows rfl rfl rfl rfl rfl

/-- R30: the Mix Record lags behind its inputs at most until the recompute that their change causes. -/
theorem mixCurrent_invariant : Invariant (fun s b => b = false → s.part = .running → s.mixFollows) where
  outer b h hs := fun k running => mixFollows_of_outer h (hs k (h.part.symm.trans running))
  move {s t b c} running h hs := fun current _ => by
    cases h with
    | lag => cases current
    | outside _ _ h => exact absurd running h
    | outer _ _ _ h => exact mixFollows_of_outer h (hs current running)
    | lane _ _ _ l x _ demand =>
      obtain ⟨up, demand⟩ := demand current
      refine mixFollows_of_same (hs up running) ⟨rfl, rfl, rfl, fun m => ?_, fun _ => rfl⟩ rfl
      rw [lanes_get_setLane]
      by_cases hm : m = l
      · rw [if_pos hm, hm]
        exact demand
      · rw [if_neg hm]
        exact ⟨rfl, Iff.rfl, rfl⟩
    | mix _ _ dp => exact nextMix_again s dp
    | view => cases current
    | scanner _ _ x channels => exact mixFollows_of_unread (hs current running) rfl rfl rfl channels rfl
    | channel _ _ _ i x other =>
      obtain ⟨up, eight, nine, ten⟩ := other current
      refine mixFollows_of_same (hs up running) ⟨rfl, rfl, rfl, fun _ => ⟨rfl, Iff.rfl, rfl⟩, fun l => ?_⟩ rfl
      refine setChannel_channel_other s x ?_
      cases l
      · exact Ne.symm eight
      · exact Ne.symm nine
      · exact Ne.symm ten
    | holds _ _ _ rs _ _ _ same =>
      obtain ⟨up, keys⟩ := same current
      exact mixFollows_of_same (hs up running) ⟨rfl, keys, rfl, fun _ => ⟨rfl, Iff.rfl, rfl⟩, fun _ => rfl⟩ rfl
    | purge _ _ _ p rs _ _ _ _ same =>
      obtain ⟨up, keys⟩ := same current
      exact mixFollows_of_same (hs up running) ⟨rfl, keys, rfl, fun _ => ⟨rfl, Iff.rfl, rfl⟩, fun _ => rfl⟩ rfl
    | _ => exact mixFollows_of_unread (hs current running) rfl rfl rfl rfl rfl
  reset _ _ := fun _ running => by cases running
  loading _ _ _ _ := fun _ running => by cases running
  fault _ _ _ := fun _ running => by cases running
  latch loading _ _ := fun _ running => absurd (loading.symm.trans running) (by simp)
  entries loading _ _ := fun _ running => absurd (loading.symm.trans running) (by simp)
  start _ _ _ := fun current => by cases current
  draining _ _ := fun _ running => by cases running

/-- R41: the fresh opening is a percent. -/
theorem freshOpening_le {s : State} (range : ∀ L, s.layout = some L → L.minFresh ≤ 100) (c : SourceChoice) :
    s.freshOpening c ≤ 100 := by
  have fresh : s.lay.minFresh ≤ 100 := by
    unfold State.lay
    cases h : s.layout with
    | none => exact Nat.zero_le _
    | some L => exact range L h
  unfold State.freshOpening
  split
  · exact fresh
  · exact Nat.le_refl _

/-- R28, R41: the three source openings sum to 100. -/
theorem openings_sum (c : ChosenSource) {n : Nat} (le : n ≤ 100) :
    (openings c n).1 + (openings c n).2.1 + (openings c n).2.2 = 100 := by
  unfold openings
  split <;> dsimp only <;> omega

theorem minFresh_le_of_rangesOk {L : Layout} (h : L.rangesOk = true) : L.minFresh ≤ 100 := by
  unfold Layout.rangesOk at h
  simp only [Bool.and_eq_true, within, decide_eq_true_eq] at h
  omega

theorem sourceWhole_of_outer {s t : State} (h : Outer s t) (hs : s.sourceWhole) : t.sourceWhole := by
  cases h <;> exact hs

theorem sourceWhole_invariant : Invariant (fun s _ => s.sourceWhole) where
  outer _ := sourceWhole_of_outer
  move {s t b c} _ h hs := by
    cases h with
    | outer _ _ _ h => exact sourceWhole_of_outer h hs
    | mix _ _ dp => exact ⟨openings_sum _ (freshOpening_le hs.2 _), hs.2⟩
    | _ => exact hs
  reset _ _ := ⟨rfl, fun _ h => by cases h⟩
  loading _ _ _ hs := ⟨hs.1, fun _ h => by cases h⟩
  fault _ _ hs := ⟨rfl, hs.2⟩
  latch _ sound hs := ⟨hs.1, fun _ h => by cases h; exact minFresh_le_of_rangesOk (sound_of_layoutFault sound).2.1⟩
  entries _ _ hs := hs
  start _ _ hs := ⟨rfl, hs.2⟩
  draining _ hs := ⟨rfl, hs.2⟩

/-- Settles O55: the Mix Record lags behind its inputs at most until the recompute that their change causes. -/
theorem stepKeepsMixRecordCurrentAndWhole : Obligations.StepKeepsMixRecordCurrentAndWhole := by
  intro s t h
  refine ⟨fun hs => ?_, sourceWhole_invariant.step h⟩
  exact mixCurrent_invariant.step h (fun _ => hs) rfl

end Sys2Proof.Machine
end

section
/-! PROOFS. What every step keeps: the door views, the energised stages, the Spot Queue. These three are given up and taken
up again within one act: where the doors, the holds that forbid heat or the scanner itself change. -/

namespace Sys2Proof.Machine

/-! ### Steps through acts -/

/-- What each act keeps, every step keeps. -/
theorem step_keeps {A : Freedom → Prop} (spots : A .spots) {P : State → Prop} (act : ∀ s t, Act A s t → P s → P t)
    {s t : State} (h : step s = .next t) (hs : P s) : P t := by
  have acts : Acts A s t := step_acts spots h
  clear h
  induction acts with
  | refl => exact hs
  | tail _ k ih => exact act _ _ k ih

/-- What each move in RUNNING keeps, a sequence of them keeps. -/
theorem moves_keep {A : Freedom → Prop} {P : State → Prop}
    (move : ∀ {s t : State} {b c : Bool}, s.part = .running → Move A (s, b) (t, c) → P s → P t) {s t : State} {b c : Bool}
    (h : Moves A (s, b) (t, c)) (running : s.part = .running) (hs : P s) : P t := by
  have kept {q : State × Bool} (k : Moves A (s, b) q) : P q.1 := by
    induction k with
    | refl => exact hs
    | tail k m ih => exact move ((Moves.part k).trans running) m ih
  exact kept h

section
variable {A : Freedom → Prop}

theorem startHolds_moves (notice : A .notice) (s : State) : Moves A (s.startBlocks, true) (s.startHolds, false) := by
  unfold State.startHolds State.initialHolds
  refine Moves.behind ?_ (startRecompute_moves s)
  refine Moves.behind (((emit_outers _ _).behind (startRefusals_outers _)).moves false) ?_
  refine (takeRaise_moves false (by simp) (.inl notice) _ _).behind ?_
  exact (takeRaise_moves false (by simp) (.inr rfl) _ _).behind (takeRaise_moves false (by simp) (.inr rfl) _ _)

theorem startedUp_outers (s : State) : Outers s s.startSwitches.relamp :=
  (relamp_outers _).behind (startSwitches_outers s)

end

/-! ### The door views (R72, R78, R123) -/

/-- What a step may do beyond the doors. -/
abbrev DoorsKept : Freedom → Prop := fun f => f ≠ .doors

/-- R72, R78, R123: the open set, the accepted levels and the purge's door view agree. -/
structure DoorsAgree (w : Switches) (p : Purge) : Prop where
  accepted : ∀ x ∈ doorInputs, w.openSet.get x.2.index = (w.inputs.get x.1.index).accepted
  view : p.doorOpen = true ↔ w.openCount ≠ 0
  active : p.state.active → p.doorOpen = false

theorem doorsAgree_iff (s : State) : s.doorsAgree ↔ (s.part = .running → DoorsAgree s.switches s.purge) := by
  have active (p : Purge) : p.state.active ↔ p.state = .run ∨ p.state = .scrub ∨ p.state = .verify := by
    cases h : p.state <;> simp [PurgeState.active]
  refine forall_congr' fun _ => ⟨fun ⟨a, v, p⟩ => ⟨a, v, fun k => p ((active _).1 k)⟩, fun h => ⟨h.accepted, h.view, fun k =>
    h.active ((active _).2 k)⟩⟩

theorem DoorsAgree.of_outer {s t : State} (h : Outer s t) (agree : DoorsAgree s.switches s.purge) :
    DoorsAgree t.switches t.purge := by
  cases h with
  | switches w same accepted =>
    refine ⟨fun x hx => ?_, ?_, agree.active⟩
    · show w.openSet.get _ = (w.inputs.get _).accepted
      rw [accepted x hx, same]
      exact agree.accepted x hx
    · show _ ↔ w.openCount ≠ 0
      rw [Switches.openCount, same]
      exact agree.view
  | _ => exact agree

theorem DoorsAgree.of_move {s t : State} {b c : Bool} (h : Move DoorsKept (s, b) (t, c))
    (agree : DoorsAgree s.switches s.purge) : DoorsAgree t.switches t.purge := by
  cases h with
  | outer _ _ _ h => exact agree.of_outer h
  | purge _ _ _ p rs _ _ _ doors =>
    obtain ⟨door, active⟩ := doors.resolve_left fun k => k rfl
    refine ⟨agree.accepted, by rw [door]; exact agree.view, fun k => ?_⟩
    obtain still | shut := active k
    · exact door.trans (agree.active still)
    · exact door.trans shut
  | doors _ _ _ h => exact absurd rfl h
  | _ => exact agree

theorem DoorsAgree.of_moves {s t : State} {b c : Bool} (h : Moves DoorsKept (s, b) (t, c)) (running : s.part = .running)
    (agree : DoorsAgree s.switches s.purge) : DoorsAgree t.switches t.purge :=
  moves_keep (P := fun s => DoorsAgree s.switches s.purge) (fun _ h hs => hs.of_move h) h running agree

/-! What an accepted door does to the purge's record. -/

theorem purgeGo_purge (new : Purge) (e : Option Event) (s : State) : (s.purgeGo new e).purge = new := by
  have words (old : Purge) (t : State) : ((t.putPurgeWords old).purgeLamp old new).purge = t.purge :=
    congrArg Below.purge ((purgeLamp_below old new _).trans (putPurgeWords_below old t))
  have told (t : State) : t.tellGovernorPurge.purge = t.purge := congrArg Below.purge (recompute_below _)
  rw [purgeGo_eq, words, told]
  exact congrArg Below.purge (purgeHold_below _ _ _)

theorem purgeKeep_purge (p : Purge) (s : State) : (s.purgeKeep p).purge = p :=
  congrArg Below.purge (putPurgeWords_below _ _)

theorem purgeTrigger_doorOpen (c : PurgeCause) (s : State) : (s.purgeTrigger c).purge.doorOpen = s.purge.doorOpen := by
  unfold State.purgeTrigger State.fullFlow
  dsimp only
  split
  · rw [purgeGo_purge]
    split
    · rfl
    · exact (flow_enters _ _ _ _).2
  · rw [purgeKeep_purge]
  · rw [purgeKeep_purge]
  · rw [purgeKeep_purge]
  · rw [purgeGo_purge]
    exact (flow_enters _ _ _ _).2

/-- R78: an opened door leaves no purge that moves air or is verified. -/
theorem purgeDoorOpened_purge (s : State) :
    s.purgeDoorOpened.purge.doorOpen = true ∧ ¬ s.purgeDoorOpened.purge.state.active := by
  unfold State.purgeDoorOpened
  dsimp only
  split
  case h_1 idle => exact ⟨rfl, by simp [idle, PurgeState.active]⟩
  case h_2 waits => exact ⟨rfl, by simp [waits, PurgeState.active]⟩
  all_goals
    rw [purgeGo_purge]
    exact ⟨rfl, by simp [PurgeState.active]⟩

/-- R79: the end of an episode leaves the purge's door view shut. -/
theorem purgeResume_doorOpen (s : State) : s.purgeResume.purge.doorOpen = false := by
  unfold State.purgeResume State.fullFlow
  dsimp only
  split
  · rw [purgeGo_purge]
    exact (flow_enters _ _ _ _).2
  · rfl

theorem purgeEpisodeEnded_doorOpen (trigger : Bool) (s : State) : (s.purgeEpisodeEnded trigger).purge.doorOpen = false := by
  unfold State.purgeEpisodeEnded
  split
  · rw [purgeTrigger_doorOpen, purgeResume_doorOpen]
  · exact purgeResume_doorOpen s

theorem switches_of_base {s t : State} (h : t.base = s.base) : t.switches = s.switches :=
  congrArg (fun x => x.switches) h

theorem switches_of_below {s t : State} (h : t.below = s.below) : t.switches = s.switches :=
  congrArg (fun x => x.switches) h

/-- R123: the open set after an accepted change of a door. -/
def Switches.doorSet (w : Switches) (d : Door) (isOpen : Bool) : Vector Bool 5 := vset w.openSet d.index isOpen

/-- R124: what an opened door leaves of the switches and the purge. -/
theorem doorOpens_views (d : Door) (s : State) :
    (s.doorOpens d).switches.inputs = s.switches.inputs ∧ (s.doorOpens d).switches.openSet = s.switches.doorSet d true ∧
      (s.doorOpens d).purge.doorOpen = true ∧ ¬ (s.doorOpens d).purge.state.active := by
  unfold State.doorOpens
  dsimp only
  rw [switches_of_base (purgeDoorOpened_base _),
    switches_of_below (takeRaise_below (by simp) (by simp) .input _), switches_of_below (emit_below _ _)]
  exact ⟨rfl, rfl, purgeDoorOpened_purge _⟩

/-- R125: the event and the release of a closed door change neither the switches nor the purge. -/
theorem doorTold_views (w : Switches) (e : Event) (d : Door) (s : State) :
    ((State.emit { s with switches := w } e).takeRelease (.doorOpen d)).switches = w ∧
      ((State.emit { s with switches := w } e).takeRelease (.doorOpen d)).purge = s.purge := by
  have below : ((State.emit { s with switches := w } e).takeRelease (.doorOpen d)).below =
      State.below { s with switches := w } := (takeRelease_below (by simp) (by simp) _).trans (emit_below _ _)
  exact ⟨switches_of_below below, congrArg Below.purge below⟩

/-- R125: what a closed door leaves of the switches and the purge: the last one ends the episode. -/
theorem doorCloses_views (d : Door) (s : State) :
    (s.doorCloses d).switches.inputs = s.switches.inputs ∧ (s.doorCloses d).switches.openSet = s.switches.doorSet d false ∧
      (if (s.switches.doorSet d false).toList.countP (fun b => b) = 0 then (s.doorCloses d).purge.doorOpen = false
       else (s.doorCloses d).purge = s.purge) := by
  unfold State.doorCloses
  dsimp only
  by_cases ends : (Switches.openCount { s.switches with openSet := vset s.switches.openSet d.index false } == 0) = true
  · have none : (s.switches.doorSet d false).toList.countP (fun b => b) = 0 := by
      simpa [Switches.openCount, Switches.doorSet] using ends
    simp only [ends, if_true]
    rw [switches_of_base (purgeEpisodeEnded_base _ _), (doorTold_views _ _ d s).1, if_pos none]
    exact ⟨rfl, rfl, purgeEpisodeEnded_doorOpen _ _⟩
  · have some : ¬ (s.switches.doorSet d false).toList.countP (fun b => b) = 0 := by
      simpa [Switches.openCount, Switches.doorSet] using ends
    rw [if_neg some]
    simp only [ends, Bool.false_eq_true, if_false]
    rw [(doorTold_views _ _ d s).1, (doorTold_views _ _ d s).2]
    exact ⟨rfl, rfl, rfl⟩

/-- R123: one more open door, or one fewer. -/
theorem doorSet_count (w : Switches) (d : Door) (isOpen : Bool) :
    (w.doorSet d isOpen).toList.countP (fun b => b) + flag (w.openSet.get d.index) = w.openCount + flag isOpen :=
  countP_vset (fun b => b) w.openSet d.index isOpen

theorem openCount_ne_zero {w : Switches} {d : Door} (h : w.openSet.get d.index = true) : w.openCount ≠ 0 := by
  have count := doorSet_count w d false
  rw [h, show flag true = 1 from rfl, show flag false = 0 from rfl] at count
  omega

/-- The inputs and the doors of R119 are numbered alike. -/
theorem doorInput_index {i : SwitchId} {d : Door} (door : doorOf i = some d) {x : SwitchId × Door} (hx : x ∈ doorInputs) :
    (x.1.index = i.index ↔ x.2.index = d.index) := by
  simp only [doorInputs, List.mem_cons, List.not_mem_nil, or_false] at hx
  obtain rfl | rfl | rfl | rfl | rfl := hx <;> cases i <;> cases door <;> decide

/-- R122, R123: an accepted level of a door enters the open set with it. -/
theorem doorSet_accepted {s : State} {i : SwitchId} {d : Door} (door : doorOf i = some d)
    (agree : DoorsAgree s.switches s.purge) (y : Switch) {x : SwitchId × Door} (hx : x ∈ doorInputs) :
    (s.switches.doorSet d y.accepted).get x.2.index = ((vset s.switches.inputs i.index y).get x.1.index).accepted := by
  unfold Switches.doorSet
  by_cases h : x.2.index = d.index
  · rw [h, (doorInput_index door hx).2 h, vset_get_same, vset_get_same]
  · rw [vset_get_other _ _ h, vset_get_other _ _ fun k => h ((doorInput_index door hx).1 k)]
    exact agree.accepted x hx

theorem acceptLevel_door {i : SwitchId} {d : Door} (door : doorOf i = some d) (s : State) :
    s.acceptLevel i = if (s.switch i).raw = true then (s.setSwitch i (s.switch i).settled).doorOpens d
      else (s.setSwitch i (s.switch i).settled).doorCloses d := by
  unfold State.acceptLevel
  dsimp only
  rw [door]
  rfl

/-- R122 to R125, R72: the door views agree after an accepted change of a door. -/
theorem DoorsAgree.of_accept {s : State} {i : SwitchId} {d : Door} (door : doorOf i = some d)
    (agree : DoorsAgree s.switches s.purge) : DoorsAgree (s.acceptLevel i).switches (s.acceptLevel i).purge := by
  rw [acceptLevel_door door]
  have accepted {x : SwitchId × Door} (hx : x ∈ doorInputs) := doorSet_accepted door agree (s.switch i).settled hx
  generalize hu : s.setSwitch i (s.switch i).settled = u
  have inputs : u.switches.inputs = vset s.switches.inputs i.index (s.switch i).settled := by rw [← hu]; rfl
  have doors (b : Bool) : u.switches.doorSet d b = s.switches.doorSet d b := by rw [← hu]; rfl
  have purge : u.purge = s.purge := by rw [← hu]; rfl
  have level : (s.switch i).settled.accepted = (s.switch i).raw := rfl
  by_cases raw : (s.switch i).raw = true
  · rw [if_pos raw]
    obtain ⟨hin, hset, hdoor, hactive⟩ := doorOpens_views d u
    rw [doors] at hset
    rw [level, raw, ← inputs, ← hin, ← hset] at accepted
    refine ⟨fun x hx => accepted hx, iff_of_true hdoor (openCount_ne_zero (d := d) ?_), fun k => absurd k hactive⟩
    rw [hset, Switches.doorSet, vset_get_same]
  · rw [if_neg raw]
    obtain ⟨hin, hset, hpurge⟩ := doorCloses_views d u
    rw [doors] at hset hpurge
    rw [level, Bool.eq_false_iff.2 raw, ← inputs, ← hin, ← hset] at accepted
    have count := doorSet_count s.switches d false
    rw [show flag false = 0 from rfl] at count
    have now : (u.doorCloses d).switches.openCount = (s.switches.doorSet d false).toList.countP (fun b => b) := by
      rw [Switches.openCount, hset]
    by_cases none : (s.switches.doorSet d false).toList.countP (fun b => b) = 0
    · rw [if_pos none] at hpurge
      exact ⟨fun x hx => accepted hx, by simp [hpurge, now, none], fun _ => hpurge⟩
    · rw [if_neg none, purge] at hpurge
      refine ⟨fun x hx => accepted hx, ?_, by rw [hpurge]; exact agree.active⟩
      rw [hpurge, agree.view, now]
      exact iff_of_true (by omega) none

/-- R123: no purge has begun and no door is open as the part enters RUNNING. -/
theorem startBlocks_doorsAgree (s : State) : DoorsAgree s.startBlocks.switches s.startBlocks.purge := by
  refine ⟨fun x hx => ?_, iff_of_false (by simp [State.startBlocks, Purge.reset]) (fun k => k rfl), fun _ => rfl⟩
  have shut (i : Fin 7) : ((s.switches.rest).inputs.get i).accepted = false := by simp [Switches.rest, Vector.get]
  refine Eq.trans ?_ (shut x.1.index).symm
  show Switches.reset.openSet.get x.2.index = false
  cases x.2 <;> rfl

theorem enterRunning_doorsAgree (s : State) : DoorsAgree s.enterRunning.switches s.enterRunning.purge := by
  have begun : Moves DoorsKept (s.startBlocks, true) (s.enterRunning, false) := by
    rw [enterRunning_eq]
    refine ((startedUp_outers _).moves false).behind ?_
    exact (beginPass_moves (by simp) false _).behind (startHolds_moves (by simp) s)
  exact (startBlocks_doorsAgree s).of_moves begun rfl

theorem doorsAgree_of_act {s t : State} (h : Act DoorsKept s t) (hs : s.doorsAgree) : t.doorsAgree := by
  rw [doorsAgree_iff] at hs ⊢
  intro still
  cases h with
  | outer h => exact (hs (h.part.symm.trans still)).of_outer h
  | deeds running h => exact (hs running).of_moves (h.moves_of_free (by simp) (by simp)) running
  | accept running door => exact (hs running).of_accept door
  | convert running under r =>
    have converted (c : Fin 16) :=
      (completeConversion_deeds (A := DoorsKept) (by simp) false c r s).moves_of_free (by simp) (by simp)
    exact (hs running).of_moves (converted _) running
  | pass running => exact (hs running).of_moves (beginPass_moves (by simp) false s) running
  | scanStop running => exact (hs running).of_moves (commandScanStop_moves (by simp) false s) running
  | scanStart running => exact (hs running).of_moves (commandScanStart_moves (by simp) false s) running
  | reset => cases still
  | loading => cases still
  | fault => cases still
  | latch loading => exact absurd (loading.symm.trans still) (by simp)
  | entries loading => exact absurd (loading.symm.trans still) (by simp)
  | running => exact enterRunning_doorsAgree s
  | draining => cases still

/-- Settles O58: only an accepted door changes the views, and it changes all three together. -/
theorem stepKeepsDoorViewsAgreed : Obligations.StepKeepsDoorViewsAgreed := by
  intro s t h
  exact step_keeps (A := DoorsKept) (by simp) (fun _ _ => doorsAgree_of_act) h

end Sys2Proof.Machine
end

section
/-! PROOFS. What every step keeps: the Spot Queue and the scanner in agreement (R95, R97, R99, R100). -/

namespace Sys2Proof.Machine

/-- What a step may do beyond the scanner's own progress. -/
abbrev ScanKept : Freedom → Prop := fun f => f ≠ .scan

/-- R97, R99, R100: the agreement of the Spot Queue and the scanner, with no conversion under handling. -/
theorem agrees_iff (x : Scanner) : x.Agrees False ↔
    (x.queue.map SpotEntry.channel).Nodup ∧ (x.state = .spot ↔ x.queue ≠ []) ∧
      (∀ e ∈ x.queue.head?, e.served.isSome = true) ∧ (∀ e ∈ x.queue.tail, e.served = none) ∧
      (x.state = .scanning → x.conversion.isSome = true) := by
  constructor
  · intro h
    have idle (k : x.state ≠ .spot) : x.queue = [] := by
      refine Classical.byContradiction fun some => ?_
      exact (h.waits k some).1
    refine ⟨h.distinct, ⟨fun k => ?_, fun some => Classical.byContradiction fun k => some (idle k)⟩, fun e he => ?_, fun e he => ?_, fun k => ?_⟩
    · obtain ⟨e, es, hq, _⟩ := h.spot k
      simp [hq]
    · by_cases k : x.state = .spot
      · obtain ⟨y, ys, hq, served, _⟩ := h.spot k
        rw [hq] at he
        cases he
        exact served
      · rw [idle k] at he
        cases he
    · by_cases k : x.state = .spot
      · obtain ⟨y, ys, hq, _, rest⟩ := h.spot k
        rw [hq] at he
        exact rest e he
      · rw [idle k] at he
        cases he
    · refine Classical.byContradiction fun none => ?_
      exact h.converts k (by simpa using none)
  · rintro ⟨distinct, spot, served, unserved, converts⟩
    have idle (k : x.state ≠ .spot) : x.queue = [] := by
      refine Classical.byContradiction fun some => ?_
      exact k (spot.2 some)
    refine ⟨distinct, fun k => ?_, fun k => by simp [idle k], fun k some => absurd (idle k) some, fun k none => ?_⟩
    · cases hq : x.queue with
      | nil => exact absurd hq (spot.1 k)
      | cons e es =>
        rw [hq] at served unserved
        exact ⟨e, es, rfl, served e rfl, unserved⟩
    · rw [none] at converts
      exact absurd (converts k) (by simp)

theorem spotsAgree_iff (s : State) : s.spotsAgree ↔ (s.part = .running → s.scanner.Agrees False) :=
  forall_congr' fun _ => (agrees_iff s.scanner).symm

theorem scanner_of_outer {s t : State} (h : Outer s t) : t.scanner = s.scanner := by cases h <;> rfl

theorem setChannel_agrees {s : State} {handling : Prop} (h : s.scanner.Agrees handling) (i : Fin 16) (x : Channel) :
    (s.setChannel i x).scanner.Agrees handling := ⟨h.distinct, h.spot, h.other, h.waits, h.converts⟩

theorem Scanner.Agrees.of_moves {handling : Prop} {s t : State} {b c : Bool} (h : Moves ScanKept (s, b) (t, c))
    (running : s.part = .running) (agrees : s.scanner.Agrees handling) : t.scanner.Agrees handling := by
  refine moves_keep (P := fun s => s.scanner.Agrees handling) (fun _ h hs => ?_) h running agrees
  cases h with
  | outer _ _ _ h => rwa [scanner_of_outer h]
  | scanner _ _ x _ keeps => exact keeps.resolve_left (fun k => k rfl) handling hs
  | channel _ _ _ i x => exact setChannel_agrees hs i x
  | _ => exact hs

/-! ### The scanner goes on -/

/-- A scanner without spot entries agrees where it does not stand in SPOT and a scan converts. -/
theorem agrees_of_empty {x : Scanner} (empty : x.queue = []) (state : x.state ≠ .spot)
    (converts : x.state = .scanning → x.conversion.isSome = true) : x.Agrees False := by
  refine (agrees_iff x).2 ⟨by simp [empty], iff_of_false state (by simp [empty]), ?_, ?_, converts⟩
  · simp [empty]
  · simp [empty]

theorem scanAt_agrees {s : State} (empty : s.scanner.queue = []) (p : Nat) : (s.scanAt p).scanner.Agrees False :=
  agrees_of_empty (by exact empty) (by simp [State.scanAt]) fun _ => rfl

theorem beginPass_agrees {s : State} (empty : s.scanner.queue = []) : s.beginPass.scanner.Agrees False :=
  scanAt_agrees (by exact empty) 0

theorem endPass_agrees {s : State} (empty : s.scanner.queue = []) : s.endPass.scanner.Agrees False := by
  unfold State.endPass
  dsimp only
  split
  · exact agrees_of_empty (by exact empty) (by simp) (by simp)
  · exact beginPass_agrees empty

theorem endScan_agrees {s : State} (empty : s.scanner.queue = []) : s.endScan.scanner.Agrees False := by
  have agrees := endPass_agrees empty
  unfold State.endScan
  dsimp only
  split
  · exact ⟨agrees.distinct, agrees.spot, agrees.other, agrees.waits, agrees.converts⟩
  · exact agrees

theorem stopScan_agrees {s : State} (empty : s.scanner.queue = []) : s.stopScan.scanner.Agrees False :=
  agrees_of_empty (by exact empty) (by simp [State.stopScan]) (by simp [State.stopScan])

theorem leaveSpot_agrees {s : State} (empty : s.scanner.queue = []) : s.leaveSpot.scanner.Agrees False := by
  unfold State.leaveSpot
  split
  · exact stopScan_agrees empty
  · exact scanAt_agrees empty _
  · exact endPass_agrees empty
  · exact beginPass_agrees empty

/-- The entries behind the head are not under conversion. -/
theorem Scanner.Agrees.tail {handling : Prop} {x : Scanner} (h : x.Agrees handling) : ∀ e ∈ x.queue.tail, e.served = none := by
  intro e he
  by_cases k : x.state = .spot
  · obtain ⟨y, ys, hq, _, rest⟩ := h.spot k
    rw [hq] at he
    exact rest e he
  · exact h.other k e (List.mem_of_mem_tail he)

/-- R95: whatever a conversion's handling has queued, the step after a scan conversion brings the scanner in agreement. -/
theorem afterScan_agrees {s : State} (h : s.scanner.Agrees True) : s.afterScan.scanner.Agrees False := by
  unfold State.afterScan
  dsimp only
  by_cases empty : s.scanner.queue = []
  · rw [if_pos (by simp [empty])]
    split
    · exact endScan_agrees empty
    · exact scanAt_agrees empty _
  · rw [if_neg (by simpa using empty)]
    exact serveHead_agrees (by exact h.distinct) (by exact h.tail) (by exact empty) False

theorem closeEntry_channels (q : List SpotEntry) :
    ((closeEntry q).map SpotEntry.channel).Sublist (q.map SpotEntry.channel) := by
  unfold closeEntry
  split
  · exact .slnil
  next e es =>
    split
    · exact (List.sublist_cons_self e es).map _
    · exact .refl _

theorem closeEntry_unserved {q : List SpotEntry} (h : ∀ e ∈ q.tail, e.served = none) : ∀ e ∈ closeEntry q, e.served = none := by
  unfold closeEntry
  split
  · simp
  next e es =>
    split
    · exact h
    · exact List.forall_mem_cons.2 ⟨rfl, h⟩

/-- R100: the step after a spot conversion brings the scanner in agreement. -/
theorem afterSpot_agrees {s : State} (h : s.scanner.Agrees True) : s.afterSpot.scanner.Agrees False := by
  have unserved := closeEntry_unserved h.tail
  unfold State.afterSpot
  dsimp only
  by_cases empty : closeEntry s.scanner.queue = []
  · rw [if_pos (by simp [empty])]
    exact leaveSpot_agrees (by exact empty)
  · rw [if_neg (by simpa using empty)]
    refine serveHead_agrees ?_ ?_ (by exact empty) False
    · exact h.distinct.sublist (closeEntry_channels _)
    · exact fun e he => unserved e (List.mem_of_mem_tail he)

/-- R92, R95: the handling of a completed conversion ends in agreement. -/
theorem completeConversion_agrees {s : State} (running : s.part = .running) (h : s.scanner.Agrees False) (c : Fin 16)
    (r : Nat) : (s.completeConversion c r).scanner.Agrees False := by
  rw [completeConversion_eq]
  have handling : (s.setScanner { s.scanner with conversion := none }).scanner.Agrees True :=
    ⟨h.distinct, h.spot, h.other, fun k some => (h.waits k some).1.elim, fun _ _ => trivial⟩
  have taken := handling.of_moves ((conversionTaken_deeds (A := ScanKept) false c r _).moves_of_free (by simp) (by simp))
    (by exact running)
  have part : ((s.setScanner { s.scanner with conversion := none }).conversionTaken c r).part = .running :=
    (Moves.part ((conversionTaken_deeds (A := ScanKept) false c r _).moves_of_free (by simp) (by simp))).trans running
  unfold State.conversionFollowed
  split
  · exact afterSpot_agrees (taken.of_moves (deliveries_moves false _ _) part)
  · exact afterScan_agrees taken

theorem commandScanStop_agrees {s : State} (h : s.scanner.Agrees False) : s.commandScanStop.scanner.Agrees False := by
  have empty (k : s.scanner.state ≠ .spot) : s.scanner.queue = [] := Classical.byContradiction fun some => (h.waits k some).1
  unfold State.commandScanStop
  split
  next k => exact stopScan_agrees (empty (by simp [k]))
  next k => exact stopScan_agrees (empty (by simp [k]))
  · exact ⟨h.distinct, h.spot, h.other, h.waits, h.converts⟩
  · exact h

theorem commandScanStart_agrees {s : State} (h : s.scanner.Agrees False) : s.commandScanStart.scanner.Agrees False := by
  have empty (k : s.scanner.state ≠ .spot) : s.scanner.queue = [] := Classical.byContradiction fun some => (h.waits k some).1
  unfold State.commandScanStart
  split
  next k => exact beginPass_agrees (empty (by simp [k]))
  next k => exact beginPass_agrees (empty (by simp [k]))
  next k => exact beginPass_agrees (empty (by simp [k]))
  · exact ⟨h.distinct, h.spot, h.other, h.waits, h.converts⟩

/-! ### The entry to RUNNING -/

/-- What the entry to RUNNING does before its first pass: it neither asks for a spot nor gives a budget. -/
abbrev Unasked : Freedom → Prop := fun f => f = .notice

/-- Without a budget of stages nothing asks for a spot of itself. -/
theorem scanner_of_unasked {s t : State} {b c : Bool} (h : Moves Unasked (s, b) (t, c)) (running : s.part = .running)
    (none : s.heat.allowed = 0) (empty : s.scanner.queue = []) :
    t.heat.allowed = 0 ∧ t.scanner.queue = [] := by
  refine moves_keep (P := fun s => s.heat.allowed = 0 ∧ s.scanner.queue = []) (fun _ h hs => ?_) h running ⟨none, empty⟩
  cases h with
  | outer _ _ _ h => cases h <;> exact hs
  | heat _ _ x count => exact ⟨(count.resolve_left (by simp)).trans hs.1, hs.2⟩
  | scanner _ _ x _ _ asked =>
    refine ⟨hs.1, ?_⟩
    obtain (scan | spots | some) | still := asked
    · cases scan
    · cases spots
    · exact absurd hs.1 some
    · show x.queue = []
      rw [still hs.2]
      exact hs.2
  | _ => exact hs

theorem startHolds_part (s : State) : s.startHolds.part = .running :=
  (Moves.part (startHolds_moves (A := Unasked) rfl s)).trans rfl

theorem startHolds_queue (s : State) : s.startHolds.scanner.queue = [] :=
  (scanner_of_unasked (startHolds_moves (A := Unasked) rfl s) rfl rfl rfl).2

theorem enterRunning_agrees (s : State) : s.enterRunning.scanner.Agrees False := by
  have part := startHolds_part s
  have empty := startHolds_queue s
  rw [enterRunning_eq]
  generalize s.startHolds = u at part empty
  have started : Moves ScanKept (u.beginPass, false) (u.beginPass.startSwitches.relamp, false) :=
    (startedUp_outers _).moves false
  exact (beginPass_agrees empty).of_moves started part

theorem spotsAgree_of_act {s t : State} (h : Act ScanKept s t) (hs : s.spotsAgree) : t.spotsAgree := by
  rw [spotsAgree_iff] at hs ⊢
  intro still
  cases h with
  | outer h => rw [scanner_of_outer h]; exact hs (h.part.symm.trans still)
  | deeds running h => exact (hs running).of_moves (h.moves_of_free (by simp) (by simp)) running
  | accept running door => exact (hs running).of_moves (acceptLevel_door_moves (by simp) false door s) running
  | convert running under r => exact completeConversion_agrees running (hs running) _ r
  | pass running waiting =>
    exact beginPass_agrees (Classical.byContradiction fun some => ((hs running).waits (by simp [waiting]) some).1)
  | scanStop running => exact commandScanStop_agrees (hs running)
  | scanStart running => exact commandScanStart_agrees (hs running)
  | reset => cases still
  | loading => cases still
  | fault => cases still
  | latch loading => exact absurd (loading.symm.trans still) (by simp)
  | entries loading => exact absurd (loading.symm.trans still) (by simp)
  | running => exact enterRunning_agrees s
  | draining => cases still

/-- Settles O60: requests and withdrawals keep the agreement; a completed conversion gives it up while it is handled, and
the scanner's next step restores it. -/
theorem stepKeepsSpotQueueAgreed : Obligations.StepKeepsSpotQueueAgreed := by
  intro s t h
  exact step_keeps (A := ScanKept) (by simp) (fun _ _ => spotsAgree_of_act) h

end Sys2Proof.Machine
end

section
/-! PROOFS. What every step keeps: the energised stages within their budget, with the heat unit's view of the holds (R56,
R148, R152). -/

namespace Sys2Proof.Machine

/-! ### The heat unit and the Hold Table -/

/-- What a step may do beyond the heat unit's budget and its view of the holds. -/
abbrev HeatKept : Freedom → Prop := fun f => f ≠ .budget ∧ f ≠ .notice

/-- R56: the unit's view of the holds is the Hold Table's own. -/
def HeatUnit.seesHolds (h : HeatUnit) (rs : List HoldRecord) : Prop :=
  h.sees = (holdsPair rs .heatShed, holdsPair rs .engineOff, holdsPair rs .blowerFail)

/-- R56, R148: the stages are within their budget under a table that holds no pair twice. -/
structure HeatSound (s : State) : Prop where
  distinct : DistinctKeys s.holds
  within : s.heat.withinBudget
  sees : s.heat.seesHolds s.holds

theorem stagesBounded_iff (s : State) : s.stagesBounded ↔
    (s.part = .running → s.heat.withinBudget ∧ s.heat.seesHolds s.holds) := by
  refine forall_congr' fun _ => ?_
  have shed : s.hasHold .heatShed = holdsPair s.holds .heatShed := rfl
  have engine : s.hasHold .engineOff = holdsPair s.holds .engineOff := rfl
  have blower : s.hasHold .blowerFail = holdsPair s.holds .blowerFail := rfl
  unfold HeatUnit.withinBudget HeatUnit.seesHolds HeatUnit.sees
  rw [Prod.mk.injEq, Prod.mk.injEq]
  constructor
  · rintro ⟨le, h1, h2, h3, none⟩
    exact ⟨⟨le, by rw [h1, h2, h3]; exact none⟩, h1, h2, h3⟩
  · rintro ⟨⟨le, none⟩, h1, h2, h3⟩
    refine ⟨le, h1, h2, h3, ?_⟩
    rw [shed, engine, blower, ← h1, ← h2, ← h3]
    exact none

/-- What the unit sees still stands where neither it nor the records it follows have changed. -/
theorem HeatUnit.seesHolds_congr {h k : HeatUnit} {rs ts : List HoldRecord} (seen : h.seesHolds rs) (sees : k.sees = h.sees)
    (pairs : ∀ j, j.heats = true → holdsPair ts j = holdsPair rs j) : k.seesHolds ts := by
  rw [HeatUnit.seesHolds, sees, pairs _ rfl, pairs _ rfl, pairs _ rfl]
  exact seen

/-- What the heat unit sees agrees with a table that holds no pair twice. -/
structure HeatSees (s : State) : Prop where
  distinct : DistinctKeys s.holds
  sees : s.heat.seesHolds s.holds

theorem holds_heat_of_outer {s t : State} (h : Outer s t) : t.holds = s.holds ∧ t.heat = s.heat := by
  cases h <;> exact ⟨rfl, rfl⟩

section
variable {A : Freedom → Prop} (kept : ¬ A .notice)
include kept

/-- No other move changes what the unit sees, or the holds that forbid heat. -/
theorem heat_view_of_moves {s t : State} {b c : Bool} (h : Moves A (s, b) (t, c)) (running : s.part = .running)
    (distinct : DistinctKeys s.holds) : DistinctKeys t.holds ∧ t.heat.sees = s.heat.sees ∧
      ∀ j, j.heats = true → holdsPair t.holds j = holdsPair s.holds j := by
  refine moves_keep (P := fun t => DistinctKeys t.holds ∧ t.heat.sees = s.heat.sees ∧
    ∀ j, j.heats = true → holdsPair t.holds j = holdsPair s.holds j) (fun _ h hs => ?_) h running
    ⟨distinct, rfl, fun _ _ => rfl⟩
  obtain ⟨unique, seen, pairs⟩ := hs
  cases h with
  | outer _ _ _ h =>
    obtain ⟨holds, heat⟩ := holds_heat_of_outer h
    rw [holds, heat]
    exact ⟨unique, seen, pairs⟩
  | heat _ _ x _ _ sees => exact ⟨unique, (sees.resolve_left kept).trans seen, pairs⟩
  | holds _ _ _ rs distinct _ heat =>
    exact ⟨distinct unique, seen, fun j hj => (heat.resolve_left kept unique j hj).trans (pairs j hj)⟩
  | purge _ _ _ p rs distinct _ heat =>
    exact ⟨distinct unique, seen, fun j hj => (heat unique j hj).trans (pairs j hj)⟩
  | _ => exact ⟨unique, seen, pairs⟩

theorem HeatSees.of_moves {s t : State} {b c : Bool} (h : Moves A (s, b) (t, c)) (running : s.part = .running)
    (hs : HeatSees s) : HeatSees t := by
  obtain ⟨distinct, seen, pairs⟩ := heat_view_of_moves kept h running hs.distinct
  exact ⟨distinct, HeatUnit.seesHolds_congr hs.sees seen pairs⟩

end

section
variable {A : Freedom → Prop} (kept : ¬ A .budget)
include kept

theorem withinBudget_of_move {s t : State} {b c : Bool} (h : Move A (s, b) (t, c)) (hs : s.heat.withinBudget) :
    t.heat.withinBudget := by
  cases h with
  | outer _ _ _ h => rw [(holds_heat_of_outer h).2]; exact hs
  | heat _ _ x _ within => exact within.resolve_left kept hs
  | _ => exact hs

theorem withinBudget_of_moves {s t : State} {b c : Bool} (h : Moves A (s, b) (t, c)) (running : s.part = .running)
    (hs : s.heat.withinBudget) : t.heat.withinBudget :=
  moves_keep (P := fun s => s.heat.withinBudget) (fun _ h hs => withinBudget_of_move kept h hs) h running hs

end

/-! ### Notices of the holds that forbid heat (R56, R147, R148) -/

/-- R148: a re-judgement leaves the stages within their budget. -/
theorem rejudgeHeat_withinBudget {s : State} (running : s.part = .running) : s.rejudgeHeat.heat.withinBudget := by
  have part : s.valved.part = .running := running
  rw [rejudgeHeat_eq]
  generalize s.valved = u at part
  split
  · refine withinBudget_of_le (s := u) rfl rfl ?_
    show (stageFalls _ _).toList.countP (fun x => x == .on) ≤ _
    rw [countOn_stageFalls]
    have : u.heat.energised = u.heat.stages.toList.countP (fun x => x == .on) := rfl
    omega
  next le =>
    refine withinBudget_of_moves (A := HeatKept) (by simp) (testStageUp_moves false u) part ?_
    exact withinBudget_of_le (s := u) rfl rfl (by omega)

/-- R147: what the unit sees once a notice of a hold has been taken. -/
def HeatUnit.noticed (h : HeatUnit) (k : HoldKey) (present : Bool) : HeatUnit :=
  match k with
  | .heatShed => { h with seesShed := present }
  | .engineOff => { h with seesEngineOff := present }
  | .blowerFail => { h with seesBlowerFail := present }
  | _ => h

theorem tellHeat_eq {k : HoldKey} (heats : k.heats = true) (present : Bool) (s : State) :
    s.tellHeat k present = (s.setHeat (s.heat.noticed k present)).rejudgeHeat := by
  cases k <;> first | rfl | cases heats

/-- R56: the unit's view follows a raise or a release. -/
theorem HeatUnit.noticed_seesHolds {h : HeatUnit} {rs ts : List HoldRecord} (seen : h.seesHolds rs) {k : HoldKey}
    {present : Bool} (same : holdsPair ts k = present) (other : ∀ j, j.heats = true → j ≠ k → holdsPair ts j = holdsPair rs j)
    (heats : k.heats = true) : (h.noticed k present).seesHolds ts := by
  unfold HeatUnit.seesHolds HeatUnit.sees at *
  rw [Prod.mk.injEq, Prod.mk.injEq] at *
  obtain ⟨h1, h2, h3⟩ := seen
  cases k with
  | heatShed => exact ⟨same.symm, h2.trans (other _ rfl (by simp)).symm, h3.trans (other _ rfl (by simp)).symm⟩
  | engineOff => exact ⟨h1.trans (other _ rfl (by simp)).symm, same.symm, h3.trans (other _ rfl (by simp)).symm⟩
  | blowerFail => exact ⟨h1.trans (other _ rfl (by simp)).symm, h2.trans (other _ rfl (by simp)).symm, same.symm⟩
  | _ => cases heats

/-- R56, step 6: a notice taken by the heat unit and the lamp. -/
theorem tellFollowers_heatSees {k : HoldKey} (heats : k.heats = true) {present : Bool} {s : State}
    (running : s.part = .running) (distinct : DistinctKeys s.holds)
    (sees : (s.heat.noticed k present).seesHolds s.holds) :
    HeatSees (s.tellFollowers k present) ∧ (s.tellFollowers k present).heat.withinBudget := by
  have lamp (t : State) : Moves HeatKept (t, false) (t.tellLamp k present, false) := tellLamp_moves false k present t
  have inlet (i : Inlet) : k ≠ .inletBarred i := by rintro rfl; cases heats
  have cab : k ≠ .cabFoul := by rintro rfl; cases heats
  rw [tellFollowers_heat_lamp inlet cab, tellHeat_eq heats]
  have judged := rejudgeHeat_moves (A := HeatKept) false (s.setHeat (s.heat.noticed k present))
  have part : (s.setHeat (s.heat.noticed k present)).rejudgeHeat.part = .running := (Moves.part judged).trans running
  have seen : HeatSees (s.setHeat (s.heat.noticed k present)) := ⟨distinct, sees⟩
  refine ⟨(seen.of_moves (by simp) judged running).of_moves (by simp) (lamp _) part, ?_⟩
  exact withinBudget_of_moves (by simp) (lamp _) part (rejudgeHeat_withinBudget (by exact running))

/-- R56: the followers of a pair raised or released, after its announcement. -/
theorem announced_heatSees {k : HoldKey} (heats : k.heats = true) {present : Bool} {s u t : State}
    (announced : Moves HeatKept (u, false) (t, false)) (running : s.part = .running) (part : u.part = s.part)
    (heat : u.heat = s.heat) (distinct : DistinctKeys u.holds) (hs : HeatSees s) (same : holdsPair u.holds k = present)
    (other : ∀ j, j.heats = true → j ≠ k → holdsPair u.holds j = holdsPair s.holds j) :
    HeatSees (t.tellFollowers k present) ∧ (t.tellFollowers k present).heat.withinBudget := by
  obtain ⟨unique, seen, pairs⟩ := heat_view_of_moves (by simp) announced (part.trans running) distinct
  rw [heat] at seen
  refine tellFollowers_heatSees heats ((Moves.part announced).trans (part.trans running)) unique ?_
  refine HeatUnit.noticed_seesHolds (rs := s.holds) ?_ ((pairs k heats).trans same)
    (fun j hj ne => (pairs j hj).trans (other j hj ne)) heats
  exact HeatUnit.seesHolds_congr hs.sees seen fun _ _ => rfl

/-- R54, R56: a raise of a hold that forbids heat reaches the heat unit. -/
theorem takeRaise_heatSees {k : HoldKey} (heats : k.heats = true) (cause : HoldCause) {s : State}
    (running : s.part = .running) (hs : HeatSees s) :
    HeatSees (s.takeRaise k cause) ∧ (s.heat.withinBudget → (s.takeRaise k cause).heat.withinBudget) := by
  unfold State.takeRaise
  rw [if_pos running]
  by_cases stands : holdsPair s.holds k = true
  · rw [if_pos (show s.hasHold k = true from stands)]
    have dropped := dropNotBefore_moves (A := HeatKept) false k s
    exact ⟨hs.of_moves (by simp) dropped running, withinBudget_of_moves (by simp) dropped running⟩
  · rw [if_neg (show ¬ s.hasHold k = true from stands), createHold_eq]
    have told := announced_heatSees heats (present := true) (announceRaise_moves false s.holds.length
      (s.newRecord k cause none) { s with holds := s.holds ++ [s.newRecord k cause none] }) running rfl rfl
      (hs.distinct.append (by simpa [State.newRecord] using stands)) hs ?_ fun j _ ne => ?_
    · exact ⟨told.1, fun _ => told.2⟩
    · simp [holdsPair, State.newRecord]
    · simp [holdsPair, State.newRecord, Ne.symm ne]

/-- R55, R56: a release of a hold that forbids heat reaches the heat unit. -/
theorem takeRelease_heatSees {k : HoldKey} (heats : k.heats = true) {s : State} (running : s.part = .running)
    (hs : HeatSees s) :
    HeatSees (s.takeRelease k) ∧ (s.heat.withinBudget → (s.takeRelease k).heat.withinBudget) := by
  unfold State.takeRelease
  rw [if_pos running]
  split
  next r hr =>
    have key : r.key = k := findHold_key hr
    rw [removeHold_eq, key]
    have told := announced_heatSees heats (present := false) (announceRelease_moves false (holdIndex k s.holds) r
      { s with holds := dropHold k s.holds }) running rfl rfl (hs.distinct.dropHold k) hs ?_ fun j _ ne => ?_
    · exact ⟨told.1, fun _ => told.2⟩
    · rw [holdsPair_eq, findHold_dropHold_same hs.distinct]
      rfl
    · rw [holdsPair_eq, holdsPair_eq, findHold_dropHold_other ne]
  · exact ⟨hs, id⟩

/-- R152: a new allowed count leaves the stages within it. -/
theorem setAllowed_heatSees (n : Nat) {s : State} (running : s.part = .running) (hs : HeatSees s) :
    HeatSees (s.setAllowed n) ∧ (s.heat.withinBudget → (s.setAllowed n).heat.withinBudget) := by
  have judged {u : State} (part : u.part = .running) (hu : HeatSees u) :
      HeatSees u.rejudgeHeat ∧ (s.heat.withinBudget → u.rejudgeHeat.heat.withinBudget) :=
    ⟨hu.of_moves (by simp) (rejudgeHeat_moves (A := HeatKept) false u) part, fun _ => rejudgeHeat_withinBudget part⟩
  unfold State.setAllowed
  dsimp only
  split
  · exact ⟨hs, id⟩
  · generalize hu : (s.setHeat { s.heat with allowed := n }).putHeatWord = u
    have part : u.part = .running := by rw [← hu]; exact running
    have seen : HeatSees u := by rw [← hu]; exact ⟨hs.distinct, hs.sees⟩
    have free : Freely .notice := trivial
    split
    · exact judged ((Moves.part (takeRaise_moves (A := Freely) false (by simp) (.inl free) _ _)).trans part)
        (takeRaise_heatSees rfl _ part seen).1
    · split
      · exact judged ((Moves.part (takeRelease_moves (A := Freely) false (by simp) (.inl free) _)).trans part)
          (takeRelease_heatSees rfl part seen).1
      · exact judged part seen

/-! ### Every act -/

/-- R148, R56: the stages within their budget, and the unit's view in step with the table. -/
def HeatKeeps (s : State) : Prop := HeatSees s ∧ s.heat.withinBudget

theorem Deed.part {A : Freedom → Prop} {p q : State × Bool} (h : Deed A p q) : q.1.part = p.1.part := by
  cases h with
  | moves h => exact Moves.part h
  | allowed s b n => exact Moves.part (setAllowed_moves (A := Freely) trivial trivial b n s)
  | raise s b k heats cause =>
    exact Moves.part (takeRaise_moves (A := Freely) b (HoldKey.heats_ne_purge heats) (.inl trivial) cause s)
  | release s b k heats =>
    exact Moves.part (takeRelease_moves (A := Freely) b (HoldKey.heats_ne_purge heats) (.inl trivial) s)

theorem HeatKeeps.of_moves {s t : State} {b c : Bool} (h : Moves HeatKept (s, b) (t, c)) (running : s.part = .running)
    (hs : HeatKeeps s) : HeatKeeps t :=
  ⟨hs.1.of_moves (by simp) h running, withinBudget_of_moves (by simp) h running hs.2⟩

theorem HeatKeeps.of_deed {p q : State × Bool} (h : Deed HeatKept p q) (running : p.1.part = .running)
    (hp : HeatKeeps p.1) : HeatKeeps q.1 := by
  obtain ⟨sees, within⟩ := hp
  cases h with
  | moves h => exact HeatKeeps.of_moves h running ⟨sees, within⟩
  | allowed s b n => exact (setAllowed_heatSees n running sees).imp_right fun k => k within
  | raise s b k heats cause => exact (takeRaise_heatSees heats cause running sees).imp_right fun k => k within
  | release s b k heats => exact (takeRelease_heatSees heats running sees).imp_right fun k => k within

theorem HeatKeeps.of_deeds {s t : State} {b c : Bool} (h : Deeds HeatKept (s, b) (t, c)) (running : s.part = .running)
    (hs : HeatKeeps s) : HeatKeeps t := by
  have kept {q : State × Bool} (k : Deeds HeatKept (s, b) q) : q.1.part = .running ∧ HeatKeeps q.1 := by
    induction k with
    | refl => exact ⟨running, hs⟩
    | tail _ d ih => exact ⟨d.part.trans ih.1, ih.2.of_deed d ih.1⟩
  exact (kept h).2

theorem startBlocks_heatKeeps (s : State) : HeatKeeps s.startBlocks :=
  ⟨⟨List.nodup_nil, rfl⟩, ⟨Nat.le_refl 0, fun _ => rfl⟩⟩

theorem enterRunning_heatKeeps (s : State) : HeatKeeps s.enterRunning := by
  have begun : Deeds HeatKept (s.startBlocks, true) (s.enterRunning, false) := by
    rw [enterRunning_eq]
    refine ((startedUp_outers _).deeds false).behind ?_
    exact (beginPass_moves ⟨nofun, nofun⟩ false _).deeds.behind (startHolds_deeds s)
  exact (startBlocks_heatKeeps s).of_deeds begun rfl

theorem heatKeeps_of_act {s t : State} (h : Act HeatKept s t) (hs : s.part = .running → HeatKeeps s)
    (still : t.part = .running) : HeatKeeps t := by
  cases h with
  | outer h =>
    obtain ⟨holds, heat⟩ := holds_heat_of_outer h
    have kept := hs (h.part.symm.trans still)
    exact ⟨⟨by rw [holds]; exact kept.1.distinct, by rw [holds, heat]; exact kept.1.sees⟩, by rw [heat]; exact kept.2⟩
  | deeds running h => exact (hs running).of_deeds h running
  | accept running door => exact (hs running).of_moves (acceptLevel_door_moves ⟨nofun, nofun⟩ false door s) running
  | convert running under r => exact (hs running).of_deeds (completeConversion_deeds ⟨nofun, nofun⟩ false _ r s) running
  | pass running => exact (hs running).of_moves (beginPass_moves ⟨nofun, nofun⟩ false s) running
  | scanStop running => exact (hs running).of_moves (commandScanStop_moves ⟨nofun, nofun⟩ false s) running
  | scanStart running => exact (hs running).of_moves (commandScanStart_moves ⟨nofun, nofun⟩ false s) running
  | reset => cases still
  | loading => cases still
  | fault => cases still
  | latch loading => exact absurd (loading.symm.trans still) (by simp)
  | entries loading => exact absurd (loading.symm.trans still) (by simp)
  | running => exact enterRunning_heatKeeps s
  | draining => cases still

/-- Settles O57: a notice of a hold that forbids heat, and a new allowed count, end in a re-judgement of the stages. -/
theorem stepKeepsStagesWithinBudget : Obligations.StepKeepsStagesWithinBudget := by
  intro s t h distinct bounded
  rw [stagesBounded_iff] at bounded ⊢
  have kept := step_keeps (A := HeatKept) (P := fun s => s.part = .running → HeatKeeps s) ⟨nofun, nofun⟩
    (fun _ _ => heatKeeps_of_act) h fun running => ⟨⟨distinct, (bounded running).2⟩, (bounded running).1⟩
  exact fun running => ⟨(kept running).2, (kept running).1.sees⟩

end Sys2Proof.Machine
end

section
/-! PROOFS. The machine and its start-up: the step, the state after RESET, the entries to LOADING, the layout read, the
tick, and the commands that come before their occasion (chapter 11, logs 1 to 8). -/

namespace Sys2Proof.Machine

/-! ### The step (logs 1, 2, 5) -/

/-- Settles O1. -/
theorem stepRunsFrontCommand : Obligations.StepRunsFrontCommand := fun _ _ _ => rfl

/-- Settles O2. -/
theorem emptyQueueStepPassesTime : Obligations.EmptyQueueStepPassesTime := by
  intro s empty
  unfold step
  split
  · rfl
  next front => rw [empty] at front; cases front

/-! ### The state after RESET (R168) -/

theorem reset_canonical : State.reset.ramCanonical ∧ State.reset.queuesBounded ∧ State.reset.layoutSound := by
  refine ⟨rfl, ⟨Nat.zero_le _, List.nodup_nil⟩, fun _ h => (by cases h), fun h => ?_⟩
  obtain h | h | h := h
  · cases h
  · cases h
  · cases h.1

/-- What is asked of RUNNING alone holds of the part after RESET. -/
theorem reset_not_running {P : Prop} (running : State.reset.part = .running) : P := by cases running

/-- Settles O3. -/
theorem resetStateMeetsEveryInvariant : Obligations.ResetStateMeetsEveryInvariant := by
  refine ⟨by decide, by decide, ?_, ?_⟩
  · refine ⟨rfl, rfl, rfl, rfl, rfl, fun c => ?_, rfl, fun c => ?_, fun i => ?_, fun d => ?_, rfl, rfl, rfl, fun i => rfl⟩
    · exact get_replicate _ c
    · exact get_replicate _ c
    · cases i <;> exact ⟨rfl, rfl⟩
    · exact congrArg Damper.estimate (get_replicate Damper.reset d)
  · obtain ⟨ram, queues, layout⟩ := reset_canonical
    refine ⟨ram, queues, layout, reset_not_running, List.nodup_nil, fun _ => rfl, reset_not_running, ?_, reset_not_running,
      ⟨reset_not_running, fun _ => countP_granted_waiting reset_dampers_waiting⟩, reset_not_running, reset_not_running,
      reset_not_running, reset_not_running, reset_not_running⟩
    exact ⟨rfl, fun _ h => by cases h⟩

theorem rest_switch (s : State) (i : SwitchId) :
    s.switches.rest.inputs.get i.index = { raw := (s.switch i).raw, accepted := false, debounce := none } := by
  simp only [Switches.rest, State.switch, Vector.get, Vector.toArray_map, Array.getElem_map]
  rfl

/-- Settles O4: RESET keeps the RAM, the contacts, the queue and the time, and gives a held read its word. -/
theorem resetEntersResetFromAnyState : Obligations.ResetEntersResetFromAnyState := by
  intro s
  refine ⟨s.enterReset, rfl, rfl, rfl, rfl, rfl, rfl, rfl, rfl, rfl, rfl, rfl, rfl, rfl, rfl, fun h held => ?_, fun none => ?_,
    rfl, rfl, rfl, rfl, rfl, rfl, rfl, rfl, rfl, rest_switch s, rfl, rfl, rfl⟩
  · show s.port.flushed = _
    rw [Port.flushed, held]
  · show s.port.flushed = _
    rw [Port.flushed, none]

/-! ### The entries to LOADING and FAULT (R168, R169) -/

/-- R179: re-judging the lamp leaves all but the lamp. -/
theorem relamp_eq (s : State) : s.relamp = { s with events := { s.events with
    lamp := lampMode s.part s.events
    lampSince := if lampMode s.part s.events = s.events.lamp then s.events.lampSince else s.now } } := by
  unfold State.relamp
  dsimp only
  split
  next same => rw [← same.symm]
  · rfl

/-- R168: the blocks cleared, with the two part state words queued and the lamp re-judged. -/
def State.loadingTold (s : State) : State := (s.clearForLoading.putPartState.putFaultReason).relamp

theorem enterLoading_eq (s : State) : s.enterLoading =
    if s.loadingTold.port.abandonedLeft then { s.loadingTold with loader := { phase := .abandoned, words := [] } }
    else s.loadingTold.placeLayoutReads := rfl

/-- R168: the port of a part that enters LOADING. -/
def Port.cleared (p : Port) : Port :=
  (({ p with guards := [], hostPassed := false, pointer := .fetch } : Port).offer ⟨0x42, 1, .plain⟩).offer ⟨0x43, 0, .plain⟩

theorem loadingTold_eq (s : State) : s.loadingTold =
    { s.clearForLoading with
      port := s.port.cleared
      events := { EventWriter.reset with
        lamp := .off, lampSince := if .off = s.events.lamp then s.events.lampSince else s.now } } := by
  unfold State.loadingTold
  rw [relamp_eq]
  rfl

theorem loadingTold_abandonedLeft (s : State) : s.loadingTold.port.abandonedLeft = s.port.abandonedLeft := by
  rw [loadingTold_eq]
  show s.port.cleared.abandonedLeft = _
  simp [Port.cleared, Port.abandonedLeft, Port.offer_reads]

/-- R168, R167, R172: what an entry to LOADING is. -/
theorem enterLoading_entered (s : State) : LoadingEntered s s.enterLoading := by
  have entered {t : State} (told : t = { s.loadingTold with port := t.port, loader := t.loader })
      (writes : t.port.writes = s.port.writes ++ [⟨0x42, 1, .plain⟩, ⟨0x43, 0, .plain⟩])
      (reads : if s.port.abandonedLeft
        then t.port.reads = s.port.reads ∧ t.loader = ⟨.abandoned, []⟩
        else t.port.reads = s.port.reads ++ (List.range 64).map (fun a => ⟨a, .loader⟩) ∧ t.loader = ⟨.layout, []⟩)
      (port : t.port.guards = [] ∧ t.port.hostPassed = false ∧ t.port.pointer = .fetch ∧ t.port.ram = s.port.ram ∧
        t.port.images = s.port.images ∧ t.port.held = s.port.held ∧ t.port.lastRead = s.port.lastRead) :
      LoadingEntered s t := by
    rw [loadingTold_eq] at told
    constructor
    case writes => exact writes
    case reads => exact reads
    case port => exact port
    all_goals
      rw [told]
    case blocks => exact ⟨rfl, rfl, rfl, rfl, rfl, rfl, rfl, rfl, rfl⟩
    case writer => exact ⟨rfl, rfl, rfl, rfl, rfl, rfl⟩
    case model => exact ⟨rfl, rfl, rfl⟩
    all_goals rfl
  have writes : s.port.cleared.writes = s.port.writes ++ [⟨0x42, 1, .plain⟩, ⟨0x43, 0, .plain⟩] := by
    simp only [Port.cleared, Port.offer_writes, List.append_assoc]
    rfl
  have told : s.loadingTold.port = s.port.cleared := by rw [loadingTold_eq]
  have reads : s.port.cleared.reads = s.port.reads := by simp [Port.cleared, Port.offer_reads]
  have rest : s.port.cleared.guards = [] ∧ s.port.cleared.hostPassed = false ∧ s.port.cleared.pointer = .fetch ∧
      s.port.cleared.ram = s.port.ram ∧ s.port.cleared.images = s.port.images ∧ s.port.cleared.held = s.port.held ∧
      s.port.cleared.lastRead = s.port.lastRead := by
    simp [Port.cleared, Port.offer_guards, Port.offer_hostPassed, Port.offer_pointer, Port.offer_ram, Port.offer_images,
      Port.offer_held, Port.offer_lastRead]
  rw [enterLoading_eq, loadingTold_abandonedLeft]
  split
  next left =>
    refine entered rfl ?_ ?_ ?_
    · show s.loadingTold.port.writes = _
      rw [told, writes]
    · rw [if_pos left]
      exact ⟨by show s.loadingTold.port.reads = _; rw [told, reads], rfl⟩
    · show s.loadingTold.port.guards = _ ∧ _
      rw [told]
      exact rest
  next left =>
    have placed : s.loadingTold.placeLayoutReads.port = { s.port.cleared with
        reads := s.port.reads ++ (List.range 64).map (fun a => ⟨a, .loader⟩) } := by
      show ({ s.loadingTold.port with
        reads := s.loadingTold.port.reads ++ (List.range 64).map (fun a => ⟨a, .loader⟩) } : Port) = _
      rw [told, reads]
    refine entered rfl ?_ ?_ ?_
    · rw [placed]
      exact writes
    · rw [if_neg left, placed]
      exact ⟨rfl, rfl⟩
    · rw [placed]
      exact rest

/-- Settles O5. -/
theorem loadingEnteredFromResetAndDraining : Obligations.LoadingEnteredFromResetAndDraining := by
  refine ⟨fun s reset => ⟨s.enterLoading, congrArg Host.Outcome.next (if_pos reset), enterLoading_entered s⟩,
    fun s draining records waiting images reads => ⟨s.enterLoading, ?_, enterLoading_entered s⟩⟩
  refine congrArg Host.Outcome.next (if_pos ⟨draining, ?_⟩)
  simp [Port.drained, records, waiting, images, reads]

/-- R169: the part as it stands in FAULT. -/
theorem enterFault_eq (reason : FaultReason) (s : State) : s.enterFault reason =
    { s.faulted reason with
      port := (s.port.offer ⟨0x42, 3, .plain⟩).offer ⟨0x43, w16 reason.code, .plain⟩
      events := { s.events with
        lamp := .fastFlash, lampSince := if .fastFlash = s.events.lamp then s.events.lampSince else s.now } } := by
  show ((s.faulted reason).putPartState.putFaultReason).relamp = _
  rw [relamp_eq]
  rfl

/-- Settles O6: the 64 words are judged by the seven tests, and the outcome is the latch or FAULT. -/
theorem layoutReadJudgesLayout : Obligations.LayoutReadJudgesLayout := by
  intro s loading phase returned
  have judged : exec .layoutReadComplete s = .next s.judgeLayout :=
    congrArg Host.Outcome.next (if_pos (loaderReturned_iff.2 ⟨loading, phase, returned⟩))
  refine ⟨fun sound => ?_, fun r fails => ?_⟩
  · have latches : s.judgeLayout = s.latchLayout (parseLayout s.loader.words) := by rw [State.judgeLayout, sound]
    rw [latches] at judged
    exact ⟨_, judged, loading, rfl, rfl, by simp [State.latchLayout, State.placeReads], rfl, rfl, rfl⟩
  · have stops : s.judgeLayout = s.enterFault r := by rw [State.judgeLayout, fails]
    rw [stops, enterFault_eq] at judged
    refine ⟨_, judged, rfl, rfl, rfl, rfl, ?_, ?_, ?_, rfl, rfl, ?_, rfl, rfl⟩
    · simp [Port.offer_writes]
    · simp [Port.offer_ram]
    · simp [Port.offer_reads]
    · unfold State.interruptLine
      split
      · rfl
      · simp [State.faulted]

end Sys2Proof.Machine
end

section
/-! PROOFS. When an occurrence is due, and that a command which comes before its occasion changes nothing (log 3). -/

namespace Sys2Proof.Machine

/-! ### Occasions -/

theorem tickDue_iff {s : State} : s.tickDue = true ↔ s.part = .running ∧ s.lastTick + 100 ≤ s.now := by
  simp [State.tickDue]

theorem reached_iff {s : State} {d : Option Nat} : s.reached d = true ↔ ∃ n, d = some n ∧ n ≤ s.now := by
  cases d <;> simp [State.reached]

theorem fetchReturned_iff {x : Lane} : x.fetchReturned = true ↔ x.state = .fetch ∧ ∃ o, x.order = some o ∧ 8 ≤ o.words.length := by
  cases h : x.order <;> simp [Lane.fetchReturned, h]

theorem settleDue_iff {x : Lane} : x.settleDue = true ↔ x.state = .settle ∧ ∃ o, x.order = some o ∧ o.settleTimer = 0 := by
  cases h : x.order <;> simp [Lane.settleDue, h]

theorem dwellDue_iff {x : Lane} : x.dwellDue = true ↔ x.state = .dwell ∧ ∃ o, x.order = some o ∧ o.dwellTimer = 0 := by
  cases h : x.order <;> simp [Lane.dwellDue, h]

theorem holdDownDue_iff {s : State} {i : Inlet} :
    s.holdDownDue i = true ↔ ∃ r, s.holdRecord (.inletBarred i) = some r ∧ r.notBefore = some s.tagClock := by
  cases h : s.holdRecord (.inletBarred i) <;> simp [State.holdDownDue, h]

theorem timerDue_iff {p : Purge} :
    p.timerDue = true ↔ (p.state = .run ∨ p.state = .scrub) ∧ p.remaining = some 0 := by
  simp [Purge.timerDue]

theorem conversionDue_iff {s : State} :
    s.conversionDue = true ↔ ∃ v, s.scanner.conversion = some v ∧ v.began + 3 ≤ s.now := by
  cases h : s.scanner.conversion <;> simp [State.conversionDue, h]

theorem scanPeriodDue_iff {s : State} : s.scanPeriodDue = true ↔
    s.scanner.state = .waiting ∧ 100 * s.lay.scanPeriod ≤ s.now - s.scanner.passStart.getD s.now := by
  simp [State.scanPeriodDue]

theorem planEnded_iff {s : State} {d : Fin 8} {x : DamperState} : s.planEnded d x = true ↔
    (s.damper d).state = x ∧ ∃ p, (s.damper d).plan = some p ∧ p.ends ≤ s.now := by
  cases h : (s.damper d).plan <;> simp [State.planEnded, h]

theorem tachDue_iff {s : State} : s.tachDue = true ↔ ∃ n, s.heat.lastPulse = some n ∧ 1000 ≤ s.now - n := by
  cases h : s.heat.lastPulse <;> simp [State.tachDue, h]

theorem watchDue_iff {s : State} : s.watchDue = true ↔ ∃ n, s.heat.watch = .timing n ∧ n ≤ s.now := by
  cases h : s.heat.watch <;> simp [State.watchDue, h]

theorem restoreDue_iff {s : State} : s.restoreDue = true ↔ ∃ r, s.heat.restore = some r ∧ r.deadline ≤ s.now := by
  unfold State.restoreDue
  rw [reached_iff]
  cases s.heat.restore <;> simp

theorem canAdmit_iff {p : Port} : p.canAdmit = true ↔ p.waiting ≠ [] ∧ p.records.length < 32 := by
  simp only [Port.canAdmit, Bool.and_eq_true]
  exact and_congr (by simp) decide_eq_true_iff

theorem drained_iff {p : Port} :
    p.drained = true ↔ p.records = [] ∧ p.waiting = [] ∧ p.images = [] ∧ p.reads = [] := by
  simp [Port.drained, and_assoc]

theorem turnOf_iff {s : State} {x : Source} :
    s.turnOf x = true ↔ s.port.held = none ∧ s.port.canAdmit = false ∧ s.port.turn = some x := by
  simp [State.turnOf, and_assoc]

theorem initialLeft_iff {p : Port} : p.initialLeft = true ↔ ∃ e ∈ p.writes, e.role = .lastInitial := by
  simp [Port.initialLeft, Port.writes, or_and_right, exists_or]

theorem owes_iff {h : HeldRead} : h.owes = true ↔ h.imageOwed = true ∨ 0 < h.recordsOwed := by simp [HeldRead.owes]

/-! ### Before the occasion (log 3) -/

/-- A command with an occasion does nothing where the occasion has not come. -/
theorem next_of_not {c : Prop} [Decidable c] {s t : State} (h : ¬ c) :
    (Host.Outcome.next (if c then t else s) : Host.Outcome State Fault Refusal) = .next s := by rw [if_neg h]

theorem exec_orderFetchComplete (l : LaneId) (s : State) : exec (.orderFetchComplete l) s = .next (s.finishFetch l) := rfl

theorem finishFetch_before {s : State} {l : LaneId} (h : ¬ (s.part = .running ∧ (s.lanes.get l).fetchReturned = true)) :
    s.finishFetch l = s := by
  unfold State.finishFetch
  split
  · exact if_neg h
  · rfl

theorem conversionComplete_before {s : State} (h : ¬ (s.part = .running ∧ s.conversionDue = true)) (r : BitVec 12) :
    exec (.conversionComplete r) s = .next s := by
  show Host.Outcome.next (match s.scanner.conversion with
    | some v => if s.part = PartState.running ∧ s.conversionDue then s.completeConversion v.channel r.toNat else s
    | none => s) = _
  split
  · exact next_of_not h
  · rfl

theorem readFlushWrite_before {s : State} (h : ∀ x, s.port.held = some x → x.imageOwed = false ∧ x.recordsOwed = 0) :
    exec .readFlushWrite s = .next s := by
  show Host.Outcome.next (match s.port.held with | some h => s.flush h | none => s) = _
  split
  next x held =>
    obtain ⟨image, records⟩ := h x held
    simp [State.flush, image, records]
  · rfl

theorem heldReadGranted_before {s : State} (h : ∀ x, s.port.held = some x → x.imageOwed = true ∨ 0 < x.recordsOwed) :
    exec .heldReadGranted s = .next s := by
  show Host.Outcome.next (match s.port.held with | some h => if h.owes then s else s.grantHeld h | none => s) = _
  split
  next x held => rw [if_pos (owes_iff.2 (h x held))]
  · rfl

/-- Settles O13: outside its occasion each command's guard fails. -/
theorem commandsBeforeTheirOccasionChangeNothing : Obligations.CommandsBeforeTheirOccasionChangeNothing := by
  intro s
  refine ⟨fun h => next_of_not h, fun h => next_of_not ?_, fun h => next_of_not ?_, fun h => next_of_not ?_, fun h => next_of_not ?_,
    fun other => ?_, fun h => next_of_not ?_, fun l h => congrArg _ (finishFetch_before ?_), fun l h => next_of_not ?_,
    fun l h => next_of_not ?_, fun i h => next_of_not ?_, fun h => next_of_not ?_, fun h r => conversionComplete_before ?_ r,
    fun h => next_of_not ?_, fun i h => next_of_not ?_, fun h => next_of_not ?_, fun d => ⟨fun h => next_of_not ?_, fun h =>
    next_of_not ?_, fun h => next_of_not ?_⟩, fun h => next_of_not ?_, fun h => next_of_not ?_, fun h => next_of_not ?_,
    fun h => next_of_not ?_, fun h => next_of_not ?_, fun h => next_of_not ?_, fun h => next_of_not ?_, fun h => next_of_not ?_,
    readFlushWrite_before, heldReadGranted_before⟩
  · rw [drained_iff]
    rintro ⟨draining, records, waiting, images, reads⟩
    obtain h | h | h | h | h := h
    · exact h draining
    · exact h records
    · exact h waiting
    · exact h images
    · exact h reads
  iterate 2
    · rw [loaderReturned_iff]
      rintro ⟨loading, phase, words⟩
      obtain h | h | h := h
      · exact h loading
      · exact h phase
      · exact h words
  · rw [runningReady_iff, Bool.eq_false_iff, Ne, initialLeft_iff]
    rintro ⟨loading, phase, none⟩
    obtain h | h | h := h
    · exact h loading
    · exact h phase
    · exact none h
  · have never {c : Prop} : ¬ (s.part = .running ∧ c) := fun h => other h.1
    refine ⟨next_of_not ?_, next_of_not never, next_of_not never, next_of_not never, next_of_not other, next_of_not never,
      next_of_not never, next_of_not never, next_of_not never, fun r => conversionComplete_before never r,
      fun l => ⟨congrArg _ (finishFetch_before never), next_of_not never, next_of_not never⟩, fun i => next_of_not never,
      fun i => next_of_not never, fun d => ⟨next_of_not never, next_of_not never, next_of_not other, next_of_not never⟩⟩
    rw [tickDue_iff]
    exact never
  · rw [tickDue_iff]; omega
  · rw [fetchReturned_iff]
    rintro ⟨_, fetch, o, ho, le⟩
    obtain h | h := h
    · exact h fetch
    · exact absurd (h o ho) (by omega)
  · rw [settleDue_iff]
    rintro ⟨_, settle, o, ho, zero⟩
    obtain h | h := h
    · exact h settle
    · exact absurd (h o ho) (by omega)
  · rw [dwellDue_iff]
    rintro ⟨_, dwell, o, ho, zero⟩
    obtain h | h := h
    · exact h dwell
    · exact absurd (h o ho) (by omega)
  · rw [holdDownDue_iff]
    rintro ⟨_, r, hr, due⟩
    exact h r hr due
  · rw [timerDue_iff]
    rintro ⟨_, phase, due⟩
    obtain ⟨run, scrub⟩ | remains := h
    · exact phase.elim run scrub
    · exact remains due
  · rw [conversionDue_iff]
    rintro ⟨_, v, hv, due⟩
    exact absurd (h v hv) (by omega)
  · rw [scanPeriodDue_iff]
    rintro ⟨_, waiting, due⟩
    obtain h | h := h
    · exact h waiting
    · omega
  · rw [reached_iff]
    rintro ⟨_, n, hn, due⟩
    exact absurd (h n hn) (by omega)
  · rw [reached_iff]
    rintro ⟨_, n, hn, due⟩
    exact absurd (h n hn) (by omega)
  iterate 3
    · rw [planEnded_iff]
      rintro ⟨_, state, p, hp, due⟩
      obtain h | h := h
      · exact h state
      · exact absurd (h p hp) (by omega)
  · rw [tachDue_iff]
    rintro ⟨_, n, hn, due⟩
    exact absurd (h n hn) (by omega)
  · rw [watchDue_iff]
    rintro ⟨_, n, hn, due⟩
    exact absurd (h n hn) (by omega)
  · rw [reached_iff]
    rintro ⟨_, n, hn, due⟩
    exact absurd (h n hn) (by omega)
  · rw [restoreDue_iff]
    rintro ⟨_, r, hr, due⟩
    exact absurd (h r hr) (by omega)
  iterate 3
    · rw [turnOf_iff]
      rintro ⟨free, full, turn⟩
      obtain h | h | h := h
      · exact h free
      · rw [full] at h; cases h
      · exact h turn
  · rw [canAdmit_iff]
    rintro ⟨some, room⟩
    obtain h | h := h
    · exact some h
    · omega

/-! ### The tick (R173) -/

theorem Lane.tick_order {x : Lane} {o : ActiveOrder} (ho : x.order = some o) : x.tick = { x with
    order := some { o with
      settleTimer := if x.state = .settle then o.settleTimer - 1 else o.settleTimer
      dwellTimer := if x.state = .dwell then o.dwellTimer - 1 else o.dwellTimer } } := by
  obtain ⟨state, mirror, consumer, stopPending, order, carried⟩ := x
  cases ho
  cases state <;> rfl

theorem Lane.tick_none {x : Lane} (h : x.order = none) : x.tick = x := by simp [Lane.tick, h]

/-- R175: the port after the five writes of an event. -/
def State.recordPort (s : State) (e : Event) : Port :=
  let p := s.events.producer
  let base := s.lay.eventBase + 2 + 4 * p
  ((((s.port.offer ⟨base, w16 (e.kind.number + 256 * e.qualifier), .plain⟩).offer ⟨base + 1, e.subject, .plain⟩).offer
    ⟨base + 2, s.tagClock, .plain⟩).offer ⟨base + 3, e.value, .eventValue p (s.lay.signals e.kind)⟩).offer
    ⟨s.lay.eventBase, w16 ((p + 1) % s.lay.eventSize), .plain⟩

/-- R175: a record appended, as an update of the port and of the producer index. -/
theorem appendRecord_eq (s : State) (e : Event) : s.appendRecord e =
    { s with port := s.recordPort e
             events := { s.events with producer := (s.events.producer + 1) % s.lay.eventSize } } := by
  simp only [State.appendRecord, State.recordPort, State.offer, State.offerAs, State.lay]

/-- R164: an offer changes the queued and the waiting writes alone. -/
theorem Port.offer_eq (p : Port) (e : RecordEntry) :
    p.offer e = { p with records := (p.offer e).records, waiting := (p.offer e).waiting } := by
  unfold Port.offer
  split <;> rfl

theorem recordPort_eq (s : State) (e : Event) : s.recordPort e =
    { s.port with records := (s.recordPort e).records, waiting := (s.recordPort e).waiting } := by
  unfold State.recordPort
  dsimp only
  rw [Port.offer_eq (Port.offer _ _), Port.offer_eq (Port.offer _ _), Port.offer_eq (Port.offer _ _),
    Port.offer_eq (Port.offer _ _), Port.offer_eq s.port]

/-- R179: an event leaves all but the writes and the writer as it stands. -/
theorem emit_eq (s : State) (e : Event) : s.emit e = { s with
    port := { s.port with records := (s.emit e).port.records, waiting := (s.emit e).port.waiting }
    events := (s.emit e).events } := by
  by_cases running : s.part = .running
  · by_cases room : s.unread + 1 < s.lay.eventSize
    · rw [emit_appended running room, appendRecord_eq, recordPort_eq]
    · rw [emit_counted running room]
  · rw [emit_dropped running]

/-- R173: the clock of a tick, with TAG_ROLLOVER where it comes round. -/
def State.ticked (s : State) : State :=
  let t := { s with tagClock := s.tagClock + 1, lastTick := s.lastTick + 100 }
  if t.tagClock = 0 then t.emit { kind := .tagRollover, subject := 0, value := 0 } else t

theorem tick_eq (s : State) : s.tick = State.purgeKeep s.ticked.purge.tick
    { s.ticked with lanes := ⟨s.ticked.lanes.front.tick, s.ticked.lanes.crew.tick, s.ticked.lanes.screen.tick⟩ } := rfl

theorem ticked_eq (s : State) : s.ticked = { s with
    tagClock := s.tagClock + 1, lastTick := s.lastTick + 100
    port := { s.port with records := s.ticked.port.records, waiting := s.ticked.port.waiting }
    events := s.ticked.events } := by
  unfold State.ticked
  dsimp only
  split
  · rw [emit_eq]
  · rfl

/-- R174: what an event does to the writer is a matter of the part state, the ring and the writer. -/
theorem emit_events_of {s t : State} (part : t.part = s.part) (layout : t.layout = s.layout) (events : t.events = s.events)
    (e : Event) : (t.emit e).events = (s.emit e).events := by
  have lay : t.lay = s.lay := by simp only [State.lay, layout]
  have unread : t.unread = s.unread := by simp only [State.unread, lay, events]
  unfold State.emit
  rw [part, unread, lay, events]
  split
  · split
    · rw [appendRecord_eq, appendRecord_eq]
      show ({ t.events with producer := (t.events.producer + 1) % t.lay.eventSize } : EventWriter) = _
      rw [events, lay]
    · rfl
  · exact events

theorem putPurgeWords_eq (old : Purge) (s : State) :
    s.putPurgeWords old = { s with port := { s.port with images := (s.putPurgeWords old).port.images } } := by
  unfold State.putPurgeWords
  dsimp only
  split <;> split <;> rfl

/-- R75: a kept purge state changes the purge record and the images alone. -/
theorem purgeKeep_eq (new : Purge) (s : State) : s.purgeKeep new =
    { s with purge := new, port := { s.port with images := (s.purgeKeep new).port.images } } :=
  putPurgeWords_eq s.purge (s.setPurge new)

theorem lanes_ticked_get (p : PerLane Lane) (l : LaneId) :
    (PerLane.mk p.front.tick p.crew.tick p.screen.tick).get l = (p.get l).tick := by cases l <;> rfl

theorem ticked_events (s : State) : s.ticked.events = (if s.tagClock = 0xFFFF then
    ({ s with tagClock := 0 }).emit { kind := .tagRollover, subject := 0, value := 0 } else s).events := by
  have wraps : s.tagClock + 1 = 0 ↔ s.tagClock = 0xFFFF := by
    constructor
    · intro h; bv_omega
    · intro h; rw [h]; rfl
  unfold State.ticked
  dsimp only
  by_cases h : s.tagClock = 0xFFFF
  · rw [if_pos (wraps.2 h), if_pos h]
    exact emit_events_of (by rfl) (by rfl) (by rfl) _
  · rw [if_neg (fun e => h (wraps.1 e)), if_neg h]

/-- R173: a tick leaves all but the clock, the lanes, the purge and what its event and the purge words change. -/
theorem tick_state (s : State) : s.tick = { s with
    tagClock := s.tagClock + 1, lastTick := s.lastTick + 100, purge := s.purge.tick, events := s.ticked.events
    lanes := ⟨s.lanes.front.tick, s.lanes.crew.tick, s.lanes.screen.tick⟩
    port := { s.port with
      records := s.tick.port.records, waiting := s.tick.port.waiting, images := s.tick.port.images } } := by
  rw [tick_eq, purgeKeep_eq, ticked_eq]

/-- Settles O11. -/
theorem tagClockTickCountsTimers : Obligations.TagClockTickCountsTimers := by
  intro s running due
  have ticks : exec .tagClockTick s = .next s.tick :=
    congrArg Host.Outcome.next (if_pos (tickDue_iff.2 ⟨running, due⟩))
  refine ⟨s.tick, ticks, ?_⟩
  rw [tick_state]
  refine ⟨rfl, rfl, fun l o ho => ?_, fun l none => ?_, rfl, ticked_events s, rfl, rfl, rfl, rfl, rfl, rfl, rfl, rfl, rfl, rfl,
    rfl, rfl⟩
  · exact (lanes_ticked_get s.lanes l).trans (Lane.tick_order ho)
  · exact (lanes_ticked_get s.lanes l).trans (Lane.tick_none none)

end Sys2Proof.Machine
end

section
/-! PROOFS. RESTART (R172) and the Event Writer (chapter 12): an event appended or counted, the interrupt line, the lamp. -/

namespace Sys2Proof.Machine

/-! ### RESTART (R172) -/

theorem stopped_damper (v : Drive) (d : Fin 8) : v.stopped.dampers.get d =
    { v.dampers.get d with state := .waiting, estimate := none, plan := none, jam := none, cleared := false } := by
  simp only [Drive.stopped, Vector.get, Vector.toArray_map, Array.getElem_map]
  rfl

theorem stopped_switch (w : Switches) (i : Fin 7) : w.stopped.inputs.get i = { w.inputs.get i with debounce := none } := by
  simp only [Switches.stopped, Vector.get, Vector.toArray_map, Array.getElem_map]
  rfl

/-- R172: the part as it stands at the entry to DRAINING. -/
theorem enterDraining_eq (s : State) : s.enterDraining = { s.stopBlocks with
    port := s.port.offer ⟨0x42, 4, .plain⟩
    events := { s.stopBlocks.events with
      lamp := .off, lampSince := if .off = s.events.lamp then s.events.lampSince else s.now } } := by
  unfold State.enterDraining
  rw [relamp_eq]
  rfl

theorem good_data (d : Word) : (RamWord.good d).data = d := rfl

theorem restart_granted (s : State) : exec .restart s = .next (s.atGrant.writeGranted 0x40 (.good 1)) := rfl

theorem restart_in_running {g : State} (h : g.part = .running) :
    g.writeGranted 0x40 (.good 1) = (g.forwardWrite 0x40 (.good 1)).writeBackService.enterDraining := by
  have taken : (g.forwardWrite 0x40 (.good 1)).commandRestart =
      some (g.forwardWrite 0x40 (.good 1)).writeBackService.enterDraining := by
    unfold State.commandRestart
    rw [show (g.forwardWrite 0x40 (.good 1)).part = .running from h]
  have written : g.writeGranted 0x40 (.good 1) = (g.forwardWrite 0x40 (.good 1)).writeService 1 := by
    simp [State.writeGranted, h, State.writeRunning, wordClass_service, RamWord.good_parityOk, State.handService,
      good_data]
  rw [written]
  unfold State.writeService
  rw [taken]
  rfl

theorem restart_in_starting {g : State} (h : g.part = .loading ∨ g.part = .fault) : g.writeGranted 0x40 (.good 1) =
    ((g.forwardWrite 0x40 (.good 1)).commandRestart).getD (g.forwardWrite 0x40 (.good 1)) := by
  obtain h | h := h <;>
    simp [State.writeGranted, h, State.writeStarting, RamWord.good_parityOk, good_data]

/-- Settles O10. -/
theorem restartActsByPartState : Obligations.RestartActsByPartState := by
  intro s
  rw [restart_granted]
  generalize s.atGrant = granted
  intro g w b
  have goes (t : State) (h : g.writeGranted 0x40 (.good 1) = t) :
      (.next (g.writeGranted 0x40 (.good 1)) : Host.Outcome State Fault Refusal) = .next t := congrArg _ h
  refine ⟨fun running => ⟨_, goes _ (restart_in_running running), ?_⟩, fun fault => ⟨_, goes _ ?_, enterLoading_entered b⟩,
    fun loading busy => goes _ ?_, fun loading none free => ⟨_, goes _ ?_, enterLoading_entered _⟩, fun other => goes _ ?_⟩
  · rw [enterDraining_eq]
    refine ⟨rfl, rfl, ?_, ?_, ?_, ?_, ?_, fun l => by cases l <;> rfl, rfl, rfl, rfl, rfl, rfl, rfl, fun c => rfl, rfl,
      fun i => ?_, fun d => ?_, rfl, rfl, rfl, rfl, rfl, rfl, rfl⟩
    · exact (Port.offer_ram _ _).trans (Port.offer_ram _ _)
    · show ((w.writeBackService).port.offer _).writes = _
      rw [Port.offer_writes]
      exact (congrArg (· ++ _) (Port.offer_writes w.port _)).trans (List.append_assoc _ _ _)
    · exact (Port.offer_images _ _).trans (Port.offer_images _ _)
    · exact (Port.offer_reads _ _).trans (Port.offer_reads _ _)
    · exact (Port.offer_guards _ _).trans (Port.offer_guards _ _)
    · show (g.switches.stopped.inputs.get i.index).accepted = _ ∧ (g.switches.stopped.inputs.get i.index).debounce = _
      rw [stopped_switch]
      exact ⟨rfl, rfl⟩
    · show (g.drive.stopped.dampers.get d).state = _ ∧ (g.drive.stopped.dampers.get d).estimate = _
      rw [stopped_damper]
      exact ⟨rfl, rfl⟩
  · rw [restart_in_starting (.inr fault)]
    unfold State.commandRestart
    rw [show (g.forwardWrite 0x40 (.good 1)).part = .fault from fault]
    rfl
  · rw [restart_in_starting (.inl loading)]
    unfold State.commandRestart
    rw [show (g.forwardWrite 0x40 (.good 1)).part = .loading from loading]
    exact congrArg (Option.getD · w) (if_pos busy)
  · rw [restart_in_starting (.inl loading)]
    unfold State.commandRestart
    rw [show (g.forwardWrite 0x40 (.good 1)).part = .loading from loading]
    refine congrArg (Option.getD · w) (if_neg ?_)
    rintro (left | waiting)
    · rw [show (g.forwardWrite 0x40 (.good 1)).port.abandonedLeft = false from none] at left
      cases left
    · exact waiting free
  · obtain reset | draining := other
    · unfold State.writeGranted
      rw [reset]
    · unfold State.writeGranted
      rw [draining]
      exact if_neg (by rw [(wordClass_service g).1]; decide)

end Sys2Proof.Machine
end

section
/-! PROOFS. What the operations of the blocks do to the Record Queue and to the lamp view: writes are only offered behind
those that stand, and below the notices the lamp view stands. -/

namespace Sys2Proof.Machine

/-! ### Growing queues -/

/-- R179: what the holds have told the lamp: the jams, BLOWER_FAIL and CAB_FOUL. -/
def EventWriter.alarms (e : EventWriter) : Nat × Bool × Bool := (e.jams, e.blowerFail, e.cabFoul)

/-- R179: the lamp view. -/
def EventWriter.view (e : EventWriter) : (Nat × Bool × Bool) × Bool := (e.alarms, e.scrub)

/-- Writes are offered behind those that stand, and `f` of the writer record stands. -/
structure Tells {α : Type} (f : EventWriter → α) (s t : State) : Prop where
  writes : s.port.writes <+: t.port.writes
  kept : f t.events = f s.events

section
variable {α : Type} {f : EventWriter → α} {s t u : State}

theorem Tells.refl : Tells f s s := ⟨List.prefix_refl _, rfl⟩

theorem Tells.trans (h : Tells f s t) (k : Tells f t u) : Tells f s u := ⟨h.writes.trans k.writes, k.kept.trans h.kept⟩

/-- The last of two steps first. -/
theorem Tells.behind (k : Tells f t u) (h : Tells f s t) : Tells f s u := h.trans k

theorem Tells.of_eq (port : t.port.writes = s.port.writes := by rfl) (events : t.events = s.events := by rfl) : Tells f s t :=
  ⟨⟨[], by rw [port, List.append_nil]⟩, congrArg f events⟩

/-- What tells a state with the same writes and the same writer record tells that state. -/
theorem Tells.from (h : Tells f t u) (port : t.port.writes = s.port.writes := by rfl)
    (events : t.events = s.events := by rfl) : Tells f s u :=
  (Tells.of_eq port events).trans h

/-- What keeps more of the writer record keeps less of it. -/
theorem Tells.less {β : Type} {g : EventWriter → β} (h : Tells f s t) (less : ∀ d e, f d = f e → g d = g e) : Tells g s t :=
  ⟨h.writes, less _ _ h.kept⟩

theorem Tells.of_follows (h : Follows s t) (still : t.still = s.still) : Tells f s t :=
  ⟨h.writes, congrArg f (congrArg Still.events still)⟩

theorem each_tells {β : Type} {g : β → State → State} (h : ∀ x t, Tells f t (g x t)) (xs : List β) (s : State) :
    Tells f s (s.each xs g) := by
  unfold State.each
  induction xs generalizing s with
  | nil => exact .refl
  | cons x xs ih => exact (h x s).trans (ih (g x s))

theorem offerAs_tells (s : State) (r : EntryRole) (a : Nat) (d : Word) : Tells f s (s.offerAs r a d) :=
  ⟨by rw [offerAs_writes]; exact List.prefix_append _ _, rfl⟩

theorem offer_tells (s : State) (a : Nat) (d : Word) : Tells f s (s.offer a d) := offerAs_tells s _ a d

theorem recompute_tells (s : State) : Tells f s s.recompute := .of_follows (recompute_follows s) (recompute_still s)

theorem requestSpot_tells (s : State) (r : Requester) (c : Fin 16) : Tells f s (s.requestSpot r c) :=
  .of_follows (requestSpot_follows s r c) (requestSpot_still s r c)

theorem rejudgeHeat_tells (s : State) : Tells f s s.rejudgeHeat :=
  .of_follows (rejudgeHeat_follows s) (rejudgeHeat_still s)

theorem testStageUp_tells (s : State) : Tells f s s.testStageUp :=
  .of_follows (testStageUp_follows s) (testStageUp_still s)

theorem grant_tells (s : State) : Tells f s (s.grant State.recompute none) :=
  .of_follows (grant_follows recompute_follows none s) (grant_still recompute_still none s)

theorem Tells.alarms (h : Tells EventWriter.view s t) : Tells EventWriter.alarms s t := h.less fun _ _ => congrArg Prod.fst

/-- The writes alone. -/
def State.Grows (s t : State) : Prop := Tells (fun _ => ()) s t

theorem Tells.grows (h : Tells f s t) : s.Grows t := h.less fun _ _ _ => rfl

end

/-! ### Events and lanes -/

theorem appendRecord_writes (s : State) (e : Event) :
    let p := s.events.producer
    let base := s.lay.eventBase + 2 + 4 * p
    (s.appendRecord e).port.writes = s.port.writes ++
      [⟨base, w16 (e.kind.number + 256 * e.qualifier), .plain⟩, ⟨base + 1, e.subject, .plain⟩,
       ⟨base + 2, s.tagClock, .plain⟩, ⟨base + 3, e.value, .eventValue p (s.lay.signals e.kind)⟩,
       ⟨s.lay.eventBase, w16 ((p + 1) % s.lay.eventSize), .plain⟩] := by
  rw [appendRecord_eq]
  simp [State.recordPort, Port.offer_writes]

theorem emit_tells (s : State) (e : Event) : Tells EventWriter.view s (s.emit e) := by
  by_cases running : s.part = .running
  · by_cases room : s.unread + 1 < s.lay.eventSize
    · rw [emit_appended running room]
      refine ⟨?_, ?_⟩
      · rw [appendRecord_writes]
        exact List.prefix_append _ _
      · rw [appendRecord_eq]
        rfl
    · rw [emit_counted running room]
      exact ⟨List.prefix_refl _, rfl⟩
  · rw [emit_dropped running]
    exact .refl

theorem setLane_tells {α : Type} {f : EventWriter → α} (s : State) (l : LaneId) (x : Lane) : Tells f s (s.setLane l x) :=
  .of_eq

theorem beginFetch_tells {α : Type} {f : EventWriter → α} (l : LaneId) (s : State) : Tells f s (s.beginFetch l) := by
  unfold State.beginFetch
  dsimp only
  refine (recompute_tells _).behind (Tells.behind (.of_eq) ((offer_tells _ _ _).from))

theorem goIdle_tells {α : Type} {f : EventWriter → α} (l : LaneId) (s : State) : Tells f s (s.goIdle l) := by
  unfold State.goIdle
  exact (recompute_tells _).behind ((offer_tells _ _ _).from)

theorem fetchOrIdle_tells {α : Type} {f : EventWriter → α} (l : LaneId) (s : State) : Tells f s (s.fetchOrIdle l) := by
  unfold State.fetchOrIdle
  split
  · exact beginFetch_tells l s
  · exact goIdle_tells l s

theorem goStopped_tells (l : LaneId) (code : Completion) (s : State) : Tells EventWriter.view s (s.goStopped l code) := by
  unfold State.goStopped
  exact (recompute_tells _).behind ((emit_tells _ _).behind ((offer_tells _ _ _).from))

theorem withdrawSpot_tells {α : Type} {f : EventWriter → α} (s : State) (r : Requester) (c : Fin 16) :
    Tells f s (s.withdrawSpot r c) := .of_eq

theorem withdrawLane_tells {α : Type} {f : EventWriter → α} (l : LaneId) (s : State) : Tells f s (s.withdrawLane l) := by
  unfold State.withdrawLane
  split
  · exact .refl
  · exact each_tells (fun c t => withdrawSpot_tells t _ c) _ s

theorem endQueued_writes (s : State) (l : LaneId) (o : ActiveOrder) (code : Completion) :
    (((s.offer (s.slotWord l o.slot 5) (slotStatusWord code o.flags o.retries)).offerAs (.endTag l o.slot)
      (s.slotWord l o.slot 7) s.tagClock).offer (s.laneWord l 2)
        (w16 (((s.lanes.get l).consumer + 1) % s.ringSize l))).port.writes = s.port.writes ++ s.endWrites l o code := by
  rw [offer_writes, offerAs_writes, offer_writes, List.append_assoc, List.append_assoc]
  rfl

/-- R22: what an order's end tells: its three writes first, then its event. -/
theorem endTold_tells (s : State) (l : LaneId) (o : ActiveOrder) (code : Completion) :
    Tells EventWriter.view s (s.endTold l o code) ∧
      s.port.writes ++ s.endWrites l o code <+: (s.endTold l o code).port.writes := by
  have queued := (offer_tells (f := EventWriter.view) s (s.slotWord l o.slot 5) (slotStatusWord code o.flags o.retries)).trans
    ((offerAs_tells _ (.endTag l o.slot) (s.slotWord l o.slot 7) s.tagClock).trans
      (offer_tells _ (s.laneWord l 2) (w16 (((s.lanes.get l).consumer + 1) % s.ringSize l))))
  unfold State.endTold
  dsimp only
  rw [← endQueued_writes]
  split
  · exact ⟨(emit_tells _ _).behind queued, (emit_tells _ _).writes⟩
  · exact ⟨queued, List.prefix_refl _⟩

theorem endOrder_tells_told {l : LaneId} {s : State} {o : ActiveOrder} (ho : (s.lanes.get l).order = some o)
    (code : Completion) (stop : Bool) : Tells EventWriter.view (s.endTold l o code) (s.endOrder l code stop) := by
  rw [endOrder_eq ho]
  dsimp only
  split
  · exact (goStopped_tells _ _ _).behind (setLane_tells _ _ _)
  · exact (fetchOrIdle_tells _ _).behind (setLane_tells _ _ _)

theorem endOrder_tells (l : LaneId) (code : Completion) (stop : Bool) (s : State) :
    Tells EventWriter.view s (s.endOrder l code stop) := by
  cases ho : (s.lanes.get l).order with
  | none => simp only [State.endOrder, ho]; exact .refl
  | some o => exact (endTold_tells s l o code).1.trans (endOrder_tells_told ho code stop)

theorem endOrder_writes {l : LaneId} {s : State} {o : ActiveOrder} (ho : (s.lanes.get l).order = some o)
    (code : Completion) (stop : Bool) :
    s.port.writes ++ s.endWrites l o code <+: (s.endOrder l code stop).port.writes :=
  (endTold_tells s l o code).2.trans (endOrder_tells_told ho code stop).writes

theorem cutOrder_tells (l : LaneId) (code : Completion) (s : State) : Tells EventWriter.view s (s.cutOrder l code) :=
  (endOrder_tells l code false _).behind (withdrawLane_tells l s)

theorem offerHold_tells (k : HoldKey) (l : LaneId) (s : State) : Tells EventWriter.view s (s.offerHold k l) := by
  unfold State.offerHold
  dsimp only
  split
  · split
    · split
      · exact cutOrder_tells _ _ s
      · exact setLane_tells s _ _
    · exact .refl
  · exact .refl

/-! ### Holds -/

theorem createHold_tells (k : HoldKey) (cause : HoldCause) (phase : Option PurgeState) (s : State) :
    Tells EventWriter.view s (s.createHold k cause phase) := by
  unfold State.createHold
  dsimp only
  refine (each_tells (offerHold_tells k) _ _).behind ((recompute_tells _).behind ?_)
  exact (emit_tells _ _).from

theorem putStatus_tells {α : Type} {f : EventWriter → α} (s : State) (n : Nat) (d : Word) : Tells f s (s.putStatus n d) :=
  .of_eq

theorem putHoldEntry_tells {α : Type} {f : EventWriter → α} (j : Nat) (r : Option HoldRecord) (s : State) :
    Tells f s (s.putHoldEntry j r) := .of_eq

theorem removeHold_tells (r : HoldRecord) (s : State) : Tells EventWriter.view s (s.removeHold r) := by
  unfold State.removeHold State.closeGap
  dsimp only
  refine (recompute_tells _).behind ((emit_tells _ _).behind ?_)
  exact (each_tells (fun j t => putHoldEntry_tells j _ t) _ _).from

theorem changePhase_tells {α : Type} {f : EventWriter → α} (phase : PurgeState) (s : State) : Tells f s (s.changePhase phase) := by
  unfold State.changePhase
  dsimp only
  split <;> exact .of_eq

theorem tellHeat_tells {α : Type} {f : EventWriter → α} (k : HoldKey) (present : Bool) (s : State) :
    Tells f s (s.tellHeat k present) := by
  unfold State.tellHeat
  split
  case h_4 => exact .refl
  all_goals exact (rejudgeHeat_tells _).from

/-! ### The purge -/

theorem relamp_tells (s : State) : Tells EventWriter.view s s.relamp := by
  rw [relamp_eq]
  exact ⟨List.prefix_refl _, rfl⟩

theorem purgeTold_tells (new : Purge) (event : Option Event) (s : State) :
    Tells EventWriter.view s (s.purgeTold new event) := by
  have spots : Tells EventWriter.view s (s.purgeSpots s.purge new) := by
    have left (t : State) : Tells EventWriter.view t
        (if s.purge.state = .verify then t.each s.purge.awaited (fun c t => t.withdrawSpot .purge c) else t) := by
      split
      · exact each_tells (fun c t => withdrawSpot_tells t _ c) _ _
      · exact .refl
    have asked (t : State) : Tells EventWriter.view t
        (if new.state = .verify then t.each new.awaited (fun c t => t.requestSpot .purge c) else t) := by
      split
      · exact each_tells (fun c t => requestSpot_tells t _ c) _ _
      · exact .refl
    exact (left s).trans (asked _)
  unfold State.purgeTold
  split
  · exact (emit_tells _ _).behind spots
  · exact spots

theorem purgeHold_tells (old new : Purge) (s : State) : Tells EventWriter.view s (s.purgeHold old new) := by
  unfold State.purgeHold
  split
  · split
    · exact .refl
    · exact createHold_tells _ _ _ s
  · split
    · split
      · exact removeHold_tells _ s
      · exact .refl
    · exact changePhase_tells _ s

theorem tellGovernorPurge_tells {α : Type} {f : EventWriter → α} (s : State) : Tells f s s.tellGovernorPurge :=
  (recompute_tells _).from

theorem putPurgeWords_tells {α : Type} {f : EventWriter → α} (old : Purge) (s : State) : Tells f s (s.putPurgeWords old) := by
  rw [putPurgeWords_eq]
  exact .of_eq

/-- R75: all of a change but its last step. -/
def State.purgeGone (new : Purge) (event : Option Event) (s : State) : State :=
  (((((s.purgeTold new event).setPurge new).purgeHold s.purge new).tellGovernorPurge).putPurgeWords s.purge)

theorem purgeGo_gone (new : Purge) (event : Option Event) (s : State) :
    s.purgeGo new event = (s.purgeGone new event).purgeLamp s.purge new := purgeGo_eq new event s

theorem purgeGone_tells_event (new : Purge) (event : Option Event) (s : State) :
    Tells EventWriter.view (s.purgeTold new event) (s.purgeGone new event) := by
  unfold State.purgeGone
  refine (putPurgeWords_tells _ _).behind ((tellGovernorPurge_tells _).behind ?_)
  exact (purgeHold_tells _ _ _).from

theorem purgeGone_tells (new : Purge) (event : Option Event) (s : State) :
    Tells EventWriter.view s (s.purgeGone new event) :=
  (purgeTold_tells new event s).trans (purgeGone_tells_event new event s)

theorem purgeLamp_tells (old new : Purge) (s : State) : Tells EventWriter.alarms s (s.purgeLamp old new) := by
  unfold State.purgeLamp
  split
  · exact (relamp_tells _).alarms.behind ⟨List.prefix_refl _, rfl⟩
  · exact .refl

theorem purgeGo_tells (new : Purge) (event : Option Event) (s : State) :
    Tells EventWriter.alarms s (s.purgeGo new event) := by
  rw [purgeGo_gone]
  exact (purgeLamp_tells _ _ _).behind (purgeGone_tells new event s).alarms

theorem purgeKeep_tells {α : Type} {f : EventWriter → α} (new : Purge) (s : State) : Tells f s (s.purgeKeep new) :=
  (putPurgeWords_tells s.purge (s.setPurge new)).from

theorem purgeTrigger_tells (c : PurgeCause) (s : State) : Tells EventWriter.alarms s (s.purgeTrigger c) := by
  unfold State.purgeTrigger
  dsimp only
  split
  case h_1 | h_5 => exact purgeGo_tells _ _ s
  all_goals exact purgeKeep_tells _ s

theorem purgeSwitch_tells {α : Type} {f : EventWriter → α} (i : Inlet) (s : State) : Tells f s (s.purgeSwitch i) := by
  unfold State.purgeSwitch
  exact (putPurgeWords_tells _ _).behind ((tellGovernorPurge_tells _).from)

theorem purgeRejudge_tells (s : State) : Tells EventWriter.alarms s s.purgeRejudge := by
  unfold State.purgeRejudge
  dsimp only
  split
  · split
    · exact .refl
    · split
      · exact purgeSwitch_tells _ s
      · exact purgeGo_tells _ _ s
  · split
    · exact purgeGo_tells _ _ s
    · exact .refl
  · exact .refl

/-! ### Notices -/

theorem tellLamp_grows (k : HoldKey) (present : Bool) (s : State) : s.Grows (s.tellLamp k present) := by
  unfold State.tellLamp
  split
  case h_4 => exact .refl
  all_goals exact (relamp_tells _).grows.behind ⟨List.prefix_refl _, rfl⟩

theorem tellFollowers_grows (k : HoldKey) (present : Bool) (s : State) : s.Grows (s.tellFollowers k present) := by
  unfold State.tellFollowers
  dsimp only
  refine (tellLamp_grows k present _).behind ((tellHeat_tells k present _).behind ?_)
  split
  · exact (purgeRejudge_tells s).grows
  · split
    · exact (purgeTrigger_tells _ s).grows
    · exact .refl
  · exact .refl

theorem takeRaise_grows (k : HoldKey) (cause : HoldCause) (s : State) : s.Grows (s.takeRaise k cause) := by
  unfold State.takeRaise
  split
  · split
    · exact .of_eq
    · exact (tellFollowers_grows _ _ _).behind (createHold_tells _ _ _ s).grows
  · exact .refl

theorem takeRelease_grows (k : HoldKey) (s : State) : s.Grows (s.takeRelease k) := by
  unfold State.takeRelease
  split
  · split
    · exact (tellFollowers_grows _ _ _).behind (removeHold_tells _ s).grows
    · exact .refl
  · exact .refl

/-! ### The lamp (R179) -/

theorem takeRaise_absent {s : State} (running : s.part = .running) {k : HoldKey} (absent : s.hasHold k = false)
    (cause : HoldCause) : s.takeRaise k cause = (s.createHold k cause none).tellFollowers k true := by
  rw [State.takeRaise, if_pos running, absent]
  rfl

theorem takeRelease_present {s : State} (running : s.part = .running) {k : HoldKey} {r : HoldRecord}
    (present : s.holdRecord k = some r) : s.takeRelease k = (s.removeHold r).tellFollowers k false := by
  rw [State.takeRelease, if_pos running, present]

theorem holdRecord_of_hasHold {s : State} {k : HoldKey} (h : s.hasHold k = true) : ∃ r, s.holdRecord k = some r := by
  have found : (findHold k s.holds).isSome = true := (holdsPair_eq s.holds k).symm.trans h
  exact Option.isSome_iff_exists.1 found

/-- R179: the mode in RUNNING, by the lamp view. -/
def EventWriter.mode (e : EventWriter) : LampMode :=
  if 0 < e.jams ∨ e.blowerFail = true then .slowFlash else if e.cabFoul = true ∨ e.scrub = true then .steady else .off

theorem lampMode_running (e : EventWriter) : lampMode .running e = e.mode := by simp [lampMode, EventWriter.mode]

/-- R179: a changed view is taken as it is, and the lamp follows it. -/
theorem relamp_viewed {s : State} (running : s.part = .running) (e : EventWriter) :
    ({ s with events := e } : State).relamp.events.view = e.view ∧
      ({ s with events := e } : State).relamp.events.lamp = e.mode := by
  rw [relamp_eq]
  exact ⟨rfl, by rw [← lampMode_running, ← running]⟩

theorem view_fields {d e : EventWriter} (h : d.view = e.view) :
    d.jams = e.jams ∧ d.blowerFail = e.blowerFail ∧ d.cabFoul = e.cabFoul ∧ d.scrub = e.scrub := by
  simpa [EventWriter.view, EventWriter.alarms, and_assoc] using h

theorem alarms_fields {d e : EventWriter} (h : d.alarms = e.alarms) :
    d.jams = e.jams ∧ d.blowerFail = e.blowerFail ∧ d.cabFoul = e.cabFoul := by
  simpa [EventWriter.alarms] using h

theorem part_of_base {s t : State} (h : t.base = s.base) : t.part = s.part := congrArg (fun x => x.part) h

/-- R179: a writer record by its lamp view, with the lamp in the mode that this view gives. -/
def EventWriter.Viewed (v : EventWriter) (jams : Nat) (blowerFail cabFoul scrub : Bool) : Prop :=
  v.jams = jams ∧ v.blowerFail = blowerFail ∧ v.cabFoul = cabFoul ∧ v.scrub = scrub ∧ v.lamp = v.mode

/-- R179: the lamp after the raise of an absent pair or the release of a present one. -/
theorem tellLamp_viewed {s : State} (running : s.part = .running) (present : Bool) :
    (∀ d, (s.tellLamp (.damperJam d) present).events.Viewed
      (if present then s.events.jams + 1 else s.events.jams - 1) s.events.blowerFail s.events.cabFoul s.events.scrub) ∧
    (s.tellLamp .blowerFail present).events.Viewed s.events.jams present s.events.cabFoul s.events.scrub ∧
    (s.tellLamp .cabFoul present).events.Viewed s.events.jams s.events.blowerFail present s.events.scrub := by
  have judged (e : EventWriter) : ({ s with events := e } : State).relamp.events.Viewed e.jams e.blowerFail e.cabFoul e.scrub := by
    obtain ⟨view, lamp⟩ := relamp_viewed running e
    obtain ⟨jams, blower, cab, scrub⟩ := view_fields view
    refine ⟨jams, blower, cab, scrub, ?_⟩
    rw [lamp, EventWriter.mode, EventWriter.mode, jams, blower, cab, scrub]
  exact ⟨fun _ => judged _, judged _, judged _⟩

theorem tellHeat_events (k : HoldKey) (present : Bool) (s : State) : (s.tellHeat k present).events = s.events :=
  congrArg Still.events (tellHeat_still s k present)

theorem tellHeat_part (k : HoldKey) (present : Bool) (s : State) : (s.tellHeat k present).part = s.part :=
  congrArg (fun x => x.part) (tellHeat_still s k present)

/-- R179: the raise of a hold that the lamp follows. -/
theorem takeRaise_viewed {s : State} (running : s.part = .running) (k : HoldKey) (absent : s.hasHold k = false)
    (c : HoldCause) :
    let v := (s.takeRaise k c).events
    (∀ d, k = .damperJam d → v.jams = s.events.jams + 1 ∧ v.lamp = .slowFlash) ∧
    (k = .blowerFail → v.blowerFail = true ∧ v.lamp = .slowFlash) ∧
    (k = .cabFoul → v.cabFoul = true ∧
      v.lamp = if 0 < s.events.jams ∨ s.events.blowerFail = true then .slowFlash else .steady) := by
  rw [takeRaise_absent running absent]
  have created := createHold_tells k c none s
  have createdPart : (s.createHold k c none).part = .running :=
    (part_of_base (State.base_of_below (createHold_below k c none s))).trans running
  generalize s.createHold k c none = u at created createdPart ⊢
  obtain ⟨jams, blower, _⟩ := view_fields created.kept
  refine ⟨?_, ?_, ?_⟩
  · rintro d rfl
    obtain ⟨jam, _, _, _, lamp⟩ := (tellLamp_viewed createdPart true).1 d
    refine ⟨jam.trans (by simp [jams]), lamp.trans (if_pos (.inl ?_))⟩
    rw [jam]
    simp
  · rintro rfl
    obtain ⟨_, fails, _, _, lamp⟩ :=
      (tellLamp_viewed ((tellHeat_part .blowerFail true u).trans createdPart) true).2.1
    exact ⟨fails, lamp.trans (if_pos (.inr fails))⟩
  · rintro rfl
    have triggered := purgeTrigger_tells .cabFoul u
    have part := (part_of_base (purgeTrigger_base .cabFoul u)).trans createdPart
    obtain ⟨jams', blower', _⟩ := alarms_fields triggered.kept
    obtain ⟨jam, fails, foul, _, lamp⟩ := (tellLamp_viewed part true).2.2
    refine ⟨foul, lamp.trans ?_⟩
    rw [EventWriter.mode, foul, jam, fails, jams', blower', jams, blower]
    simp

/-- R179: the release of a hold that the lamp follows. -/
theorem takeRelease_viewed {s : State} (running : s.part = .running) (k : HoldKey) (present : s.hasHold k = true) :
    let u := s.events
    let v := (s.takeRelease k).events
    (∀ d, k = .damperJam d → v.jams = u.jams - 1 ∧
      v.lamp = if 1 < u.jams ∨ u.blowerFail = true then .slowFlash
        else if u.cabFoul = true ∨ u.scrub = true then .steady else .off) ∧
    (k = .blowerFail → v.blowerFail = false ∧
      v.lamp = if 0 < u.jams then .slowFlash else if u.cabFoul = true ∨ u.scrub = true then .steady else .off) ∧
    (k = .cabFoul → v.cabFoul = false ∧
      v.lamp = if 0 < u.jams ∨ u.blowerFail = true then .slowFlash else if u.scrub = true then .steady else .off) := by
  obtain ⟨r, hr⟩ := holdRecord_of_hasHold present
  rw [takeRelease_present running hr]
  have removed := removeHold_tells r s
  have part : (s.removeHold r).part = .running :=
    (part_of_base (State.base_of_below (removeHold_below r s))).trans running
  generalize s.removeHold r = t at removed part ⊢
  obtain ⟨jams, blower, cab, scrub⟩ := view_fields removed.kept
  refine ⟨?_, ?_, ?_⟩
  · rintro d rfl
    obtain ⟨jam, fails, foul, scrubs, lamp⟩ := (tellLamp_viewed part false).1 d
    refine ⟨jam.trans (by simp [jams]), lamp.trans ?_⟩
    rw [EventWriter.mode, jam, fails, foul, scrubs, jams, blower, cab, scrub]
    have less : 0 < s.events.jams - 1 ↔ 1 < s.events.jams := by omega
    simp [less]
  · rintro rfl
    obtain ⟨jam, fails, foul, scrubs, lamp⟩ :=
      (tellLamp_viewed ((tellHeat_part .blowerFail false t).trans part) false).2.1
    refine ⟨fails, lamp.trans ?_⟩
    rw [EventWriter.mode, fails, jam, foul, scrubs, tellHeat_events, jams, cab, scrub]
    simp
  · rintro rfl
    obtain ⟨jam, fails, foul, scrubs, lamp⟩ := (tellLamp_viewed part false).2.2
    refine ⟨foul, lamp.trans ?_⟩
    rw [EventWriter.mode, foul, jam, fails, scrubs, jams, blower, scrub]
    simp

/-- R179: the passage of the purge into and out of SCRUB. -/
theorem purgeGo_viewed {s : State} (running : s.part = .running) (new : Purge) (e : Option Event) :
    let u := s.events
    let v := (s.purgeGo new e).events
    (s.purge.state ≠ .scrub → new.state = .scrub → v.scrub = true ∧
      v.lamp = if 0 < u.jams ∨ u.blowerFail = true then .slowFlash else .steady) ∧
    (s.purge.state = .scrub → new.state ≠ .scrub → v.scrub = false ∧
      v.lamp = if 0 < u.jams ∨ u.blowerFail = true then .slowFlash else if u.cabFoul = true then .steady else .off) := by
  have gone := purgeGone_tells new e s
  have part : (s.purgeGone new e).part = .running := by
    have h : (s.purgeGo new e).part = (s.purgeGone new e).part := by
      rw [purgeGo_gone]
      exact part_of_base (State.base_of_below (purgeLamp_below _ _ _))
    exact h.symm.trans ((part_of_base (purgeGo_base new e s)).trans running)
  rw [purgeGo_gone]
  generalize s.purgeGone new e = t at gone part ⊢
  obtain ⟨jams, blower, cab, _⟩ := view_fields gone.kept
  have changes (b : Bool) (h : (s.purge.state == .scrub) = !b) (h' : (new.state == .scrub) = b) :
      (t.purgeLamp s.purge new).events.scrub = b ∧ (t.purgeLamp s.purge new).events.lamp =
        if 0 < s.events.jams ∨ s.events.blowerFail = true then .slowFlash
        else if s.events.cabFoul = true ∨ b = true then .steady else .off := by
    obtain ⟨view, lamp⟩ := relamp_viewed part { t.events with scrub := b }
    obtain ⟨_, _, _, scrub⟩ := view_fields view
    have told : t.purgeLamp s.purge new = ({ t with events := { t.events with scrub := b } } : State).relamp := by
      rw [State.purgeLamp, h, h']
      exact if_pos (by cases b <;> rfl)
    rw [told]
    refine ⟨scrub, lamp.trans ?_⟩
    rw [EventWriter.mode, jams, blower, cab]
  refine ⟨fun old new => ?_, fun old new => ?_⟩
  · obtain ⟨scrub, lamp⟩ := changes true (by simpa using old) (by simpa using new)
    exact ⟨scrub, lamp.trans (by simp)⟩
  · obtain ⟨scrub, lamp⟩ := changes false (by simpa using old) (by simpa using new)
    exact ⟨scrub, lamp.trans (by simp)⟩

theorem interruptLine_iff {s : State} : s.interruptLine = true ↔
    ∃ i, s.events.lastSignalled = some i ∧ (s.part = .running ∨ s.part = .draining) ∧
      (i + s.lay.eventSize - s.events.consumer) % s.lay.eventSize < s.unread := by
  cases h : s.events.lastSignalled <;> simp [State.interruptLine, h]

/-- Settles O12. -/
theorem eventAppendedOrCounted : Obligations.EventAppendedOrCounted := by
  refine ⟨fun s e => ⟨fun other => emit_dropped other e, fun running room => ?_, fun running full => emit_counted running full e⟩,
    fun s => interruptLine_iff, fun p v => ?_, fun s => ⟨relamp_eq s, fun h => ?_, fun h => ?_, fun h => ?_, fun h => ?_⟩,
    fun s k c running absent => takeRaise_viewed running k absent c, fun s k running present => takeRelease_viewed running k present,
    fun s new e running => purgeGo_viewed running new e⟩
  · rw [emit_appended running room]
    refine ⟨appendRecord_writes s e, ?_, ?_⟩
    · rw [appendRecord_eq]
    · rw [appendRecord_eq]
  · by_cases fault : p = .fault <;> by_cases fails : 0 < v.jams ∨ v.blowerFail = true <;>
      by_cases foul : v.cabFoul = true ∨ v.scrub = true <;> simp [lampMode, fault, fails, foul]
  all_goals simp [State.lampLit, h]

end Sys2Proof.Machine
end

section
/-! PROOFS. What the timed commands leave unchanged (chapters 1 to 9): each is the operation of its row or nothing, and
the operation's frame is a law of its block. -/

namespace Sys2Proof.Machine

/-- A command with an occasion keeps what its operation keeps. -/
theorem kept_of_next_if {β : Type} (g : State → β) {c : Prop} [Decidable c] {s t u : State}
    (kept : c → g t = g s) (h : (.next (if c then t else s) : Host.Outcome State Fault Refusal) = .next u) : g u = g s := by
  have eq : (if c then t else s) = u := Host.Outcome.next.inj h
  rw [← eq]
  split
  · exact kept ‹c›
  · rfl

theorem laneTimer_lower {s t : State} {l : LaneId} {c : Instr}
    (timed : c = .orderFetchComplete l ∨ c = .settleTimerExpiry l ∨ c = .dwellTimerExpiry l) (h : exec c s = .next t) :
    t.lower = s.lower := by
  obtain rfl | rfl | rfl := timed
  · have eq : s.finishFetch l = t := Host.Outcome.next.inj h
    rw [← eq]
    exact finishFetch_lower l s
  · exact kept_of_next_if State.lower (fun _ => leaveSettle_lower true l s) h
  · exact kept_of_next_if State.lower (fun _ => dwellExpires_lower l s) h

theorem beginPass_base (s : State) : s.beginPass.base = s.base := rfl

theorem tachTimeout_base (s : State) :
    ((s.setHeat { s.heat with lastPulse := none }).setSpeed 0).base = s.base :=
  setSpeed_base (s.setHeat { s.heat with lastPulse := none }) 0

theorem stageUp_base (s : State) : ((s.setHeat { s.heat with stageUpTimer := none }).testStageUp).base = s.base :=
  testStageUp_base (s.setHeat { s.heat with stageUpTimer := none })

theorem watchExpires_base (s : State) :
    ((s.setHeat { s.heat with watch := .spent }).takeRaise .blowerFail .watch).base = s.base :=
  takeRaise_base .blowerFail .watch (s.setHeat { s.heat with watch := .spent })

theorem blockTimer_base {s t : State} {d : Fin 8} {i : Inlet} {c : Instr}
    (timed : c = .inletHoldDownExpiry i ∨ c = .purgeTimerExpiry ∨ c = .movingPlannedEnd d ∨ c = .seatingTimeOut d ∨
      c = .stall d ∨ c = .homingLimit d ∨ c = .tachPulse ∨ c = .tachTimeout ∨ c = .blowerWatchExpiry ∨
      c = .stageUpTimerExpiry ∨ c = .restoreTimerExpiry ∨ c = .scanPeriodElapsed) (h : exec c s = .next t) :
    t.base = s.base := by
  obtain rfl | rfl | rfl | rfl | rfl | rfl | rfl | rfl | rfl | rfl | rfl | rfl := timed
  · exact kept_of_next_if State.base (fun _ => takeRelease_base _ s) h
  · exact kept_of_next_if State.base (fun _ => purgeVerify_base s) h
  · exact kept_of_next_if State.base (fun _ => endMoving_base d s) h
  · exact kept_of_next_if State.base (fun _ => comeToRest_base d _ s) h
  · exact kept_of_next_if State.base (fun _ => stallDamper_base d s) h
  · exact kept_of_next_if State.base (fun _ => jamDamper_base d _ _ s) h
  · exact kept_of_next_if State.base (fun _ => tachPulse_base s) h
  · exact kept_of_next_if State.base (fun _ => tachTimeout_base s) h
  · exact kept_of_next_if State.base (fun _ => watchExpires_base s) h
  · exact kept_of_next_if State.base (fun _ => stageUp_base s) h
  · exact kept_of_next_if State.base (fun _ => restoreExpires_base s) h
  · exact kept_of_next_if State.base (fun _ => beginPass_base s) h

/-! ### The Switch Input Unit (R122 to R127) -/

/-- What leaves all of the base but the Switch Input Unit. -/
theorem base_of_switches {s t : State} {w : Switches} (h : t.base = ({ s with switches := w } : State).base) :
    t.base = { s.base with switches := t.switches } := by
  have switches : t.switches = w := congrArg (fun x => x.switches) h
  rw [h, switches]
  rfl

theorem doorOpens_base (d : Door) (s : State) : (s.doorOpens d).base = { s.base with switches := (s.doorOpens d).switches } := by
  refine base_of_switches (w := { s.switches with
    openSet := vset s.switches.openSet d.index true
    episodeStart := if s.switches.openCount = 0 then some s.now else s.switches.episodeStart }) ?_
  unfold State.doorOpens
  rw [purgeDoorOpened_base, takeRaise_base, emit_base]

theorem doorCloses_base (d : Door) (s : State) : (s.doorCloses d).base = { s.base with switches := (s.doorCloses d).switches } := by
  unfold State.doorCloses
  dsimp only
  split
  · exact base_of_switches ((purgeEpisodeEnded_base _ _).trans ((takeRelease_base _ _).trans (emit_base _ _)))
  · exact base_of_switches ((takeRelease_base _ _).trans (emit_base _ _))

theorem buttonChanges_base (pressed : Bool) (s : State) :
    (s.buttonChanges pressed).base = { s.base with switches := (s.buttonChanges pressed).switches } := by
  unfold State.buttonChanges
  dsimp only
  split
  · rfl
  · refine base_of_switches (w := { s.switches with pressDeadline := none, pressBegan := none, longPressed := false }) ?_
    split
    · rfl
    · exact emit_base _ _

theorem acceptLevel_base (i : SwitchId) (s : State) :
    (s.acceptLevel i).base = { s.base with switches := (s.acceptLevel i).switches } := by
  unfold State.acceptLevel
  dsimp only
  split
  · split
    · exact doorOpens_base _ _
    · exact doorCloses_base _ _
  · split
    · exact base_of_switches (engineChanges_base _ _)
    · exact buttonChanges_base _ _

theorem pressExpires_base (s : State) : s.pressExpires.base = { s.base with switches := s.pressExpires.switches } :=
  base_of_switches (purgeTrigger_base .button _)

theorem inputTimer_base {s t : State} {i : SwitchId} {c : Instr} (timed : c = .debounceTimerExpiry i ∨ c = .pressTimerExpiry)
    (h : exec c s = .next t) : t.base = { s.base with switches := t.switches } := by
  have cases {p : Prop} [Decidable p] {u : State} (changed : u.base = { s.base with switches := u.switches })
      (eq : (.next (if p then u else s) : Host.Outcome State Fault Refusal) = .next t) :
      t.base = { s.base with switches := t.switches } := by
    have ends : (if p then u else s) = t := Host.Outcome.next.inj eq
    rw [← ends]
    split
    · exact changed
    · rfl
  obtain rfl | rfl := timed
  · exact cases (acceptLevel_base i s) h
  · exact cases (pressExpires_base s) h

/-- Settles O52. -/
theorem timedCommandsKeepTheRest : Obligations.TimedCommandsKeepTheRest :=
  ⟨fun _ _ _ _ timed h => laneTimer_lower timed h, fun _ _ _ _ _ timed h => blockTimer_base timed h,
    fun _ _ _ _ timed h => inputTimer_base timed h⟩

/-! ### Contacts (R120) -/

theorem setSwitch_other (i : SwitchId) (x : Switch) (s : State) {j : SwitchId} (h : j ≠ i) :
    (s.setSwitch i x).switch j = s.switch j := by
  refine vset_get_other _ _ fun e => h ?_
  cases i <;> cases j <;> first | rfl | exact absurd e (by decide)

theorem setSwitch_same (i : SwitchId) (x : Switch) (s : State) : (s.setSwitch i x).switch i = x := vset_get_same _ _ _

/-- R120: what a contact's change comes to. -/
theorem rawChange_eq (i : SwitchId) (active : Bool) (s : State) : s.rawChange i active =
    if active = (s.switch i).raw then s
    else s.setSwitch i { s.switch i with
      raw := active
      debounce := if s.part = .running then
          if active = (s.switch i).accepted then none else some (s.now + s.lay.debounce i)
        else (s.switch i).debounce } := by
  unfold State.rawChange
  dsimp only
  by_cases running : s.part = .running
  · rw [if_pos running, if_pos running]
    rfl
  · rw [if_neg running, if_neg running]

/-- Settles O34. -/
theorem rawChangeDebounced : Obligations.RawChangeDebounced := by
  intro s i active
  refine ⟨_, rfl, ?_⟩
  rw [rawChange_eq]
  by_cases same : active = (s.switch i).raw
  · rw [if_pos same]
    exact ⟨same.symm, rfl, fun _ => rfl, fun other => absurd same other, fun other => absurd same other, fun _ => rfl,
      fun _ _ => rfl, rfl, rfl⟩
  · rw [if_neg same, setSwitch_same]
    refine ⟨rfl, rfl, fun h => absurd h same, fun _ running off => ?_, fun _ running on => ?_, fun other => ?_,
      fun j h => setSwitch_other i _ s h, rfl, rfl⟩
    · exact (if_pos running).trans (if_neg off)
    · exact (if_pos running).trans (if_pos on)
    · exact if_neg other

end Sys2Proof.Machine
end

section
/-! PROOFS. The ends of orders and the lane commands (R5 to R10, R22, R23): the lane that each leaves, what it does to the
other lanes, and the writes it queues. -/

namespace Sys2Proof.Machine

/-! ### The passage to STOPPED (R23) -/

/-- R23: a lane as it enters STOPPED. -/
def Lane.stopping (x : Lane) (rest : Nat) : Lane :=
  { x with state := .stopped, stopPending := false, order := none, carried := .rest rest }

/-- R23: the passage to STOPPED before its recompute. -/
def State.stoppedTold (l : LaneId) (code : Completion) (s : State) : State :=
  ((s.setLane l ((s.lanes.get l).stopping (s.lay.rest.get l))).putLaneStatus l).emit
    { kind := .laneStopped, subject := w16 l.index, value := w16 code.code }

theorem goStopped_eq (l : LaneId) (code : Completion) (s : State) :
    s.goStopped l code = (s.stoppedTold l code).recompute := rfl

theorem stoppedTold_lanes (l : LaneId) (code : Completion) (s : State) :
    (s.stoppedTold l code).lanes = s.lanes.set l ((s.lanes.get l).stopping (s.lay.rest.get l)) := by
  unfold State.stoppedTold
  rw [emit_lanes]
  rfl

theorem goStopped_lane (l : LaneId) (code : Completion) (s : State) :
    (s.goStopped l code).lanes.get l = (s.lanes.get l).stopping (s.lay.rest.get l) := by
  have same := lane_still_of_still (recompute_still (s.stoppedTold l code)) l
  rw [stoppedTold_lanes, PerLane.get_set_same] at same
  rw [goStopped_eq]
  exact Lane.eq_of_still rfl same

theorem goStopped_other {l m : LaneId} (hm : m ≠ l) (code : Completion) (s : State) :
    ((s.goStopped l code).lanes.get m).still = (s.lanes.get m).still := by
  have same := lane_still_of_still (recompute_still (s.stoppedTold l code)) m
  rw [stoppedTold_lanes, PerLane.get_set_other _ _ hm] at same
  rw [goStopped_eq]
  exact same

theorem goStopped_events (l : LaneId) (code : Completion) (s : State) : (s.goStopped l code).events =
    (s.emit { kind := .laneStopped, subject := w16 l.index, value := w16 code.code }).events := by
  rw [goStopped_eq, show (s.stoppedTold l code).recompute.events = (s.stoppedTold l code).events from
    congrArg Still.events (recompute_still _)]
  exact emit_events_of (by rfl) (by rfl) (by rfl) _

/-! ### The passages to FETCH and IDLE (R7, R23) -/

/-- R7, R23: the lane that goes on to FETCH or IDLE. -/
def Lane.goesOn (x : Lane) (rest : Nat) : Lane := if x.consumer ≠ x.mirror then x.fetching else x.idling rest

theorem fetchOrIdle_lane (l : LaneId) (s : State) :
    (s.fetchOrIdle l).lanes.get l = (s.lanes.get l).goesOn (s.lay.rest.get l) := by
  unfold Lane.goesOn
  by_cases h : (s.lanes.get l).consumer = (s.lanes.get l).mirror
  · rw [fetchOrIdle_idle h, if_neg (not_not_intro h)]
    exact setLane_of_still (goIdle_still l s) rfl
  · rw [fetchOrIdle_fetch h, if_pos h]
    exact setLane_of_still (s := s.askSlot l (s.lanes.get l).consumer) (beginFetch_still l s) rfl

/-! ### The end of an order (R22, R23) -/

theorem afterEnd_stops (x : Lane) (size rest : Nat) : x.afterEnd size rest true = (x.advanced size).stopping rest := rfl

theorem afterEnd_goesOn (x : Lane) (size rest : Nat) : x.afterEnd size rest false = (x.advanced size).goesOn rest := rfl

section
variable {s : State} {l : LaneId} {o : ActiveOrder} (ho : (s.lanes.get l).order = some o) (code : Completion) (fails : Bool)
include ho

theorem endOrder_lane : (s.endOrder l code fails).lanes.get l = (s.lanes.get l).afterEnd (s.ringSize l) (s.lay.rest.get l)
    (stopsAfter (s.lanes.get l).stopPending fails code) := by
  rw [endOrder_eq ho]
  dsimp only
  have told : ((s.endTold l o code).setLane l ((s.lanes.get l).advanced (s.ringSize l))).lanes.get l =
      (s.lanes.get l).advanced (s.ringSize l) := PerLane.get_set_same _ _ _
  have lay : ((s.endTold l o code).setLane l ((s.lanes.get l).advanced (s.ringSize l))).lay = s.lay :=
    lay_of_lower (endTold_lower s l o code)
  split
  next stops => rw [goStopped_lane, told, lay, stops, afterEnd_stops]
  next goes => rw [fetchOrIdle_lane, told, lay, eq_false_of_ne_true goes, afterEnd_goesOn]

theorem endOrder_other {m : LaneId} (hm : m ≠ l) :
    ((s.endOrder l code fails).lanes.get m).still = (s.lanes.get m).still := by
  have told : ((s.endTold l o code).setLane l ((s.lanes.get l).advanced (s.ringSize l))).lanes.get m = s.lanes.get m := by
    rw [setLane_lanes, PerLane.get_set_other _ _ hm, endTold_lanes]
  rw [endOrder_eq ho]
  dsimp only
  split
  · rw [goStopped_other hm, told]
  · rw [fetchOrIdle_other _ hm, told]

end

/-- R98: a change of the scanner alone. -/
theorem eq_of_setScanner {s t : State} (h : t.setScanner Scanner.reset = s.setScanner Scanner.reset) :
    t = s.setScanner t.scanner := by
  have put := congrArg (fun u : State => u.setScanner t.scanner) h
  exact put

theorem withdrawLane_eq (l : LaneId) (s : State) : s.withdrawLane l = s.setScanner (s.withdrawLane l).scanner := by
  refine eq_of_setScanner ?_
  unfold State.withdrawLane
  split
  · rfl
  · exact each_leaves (State.setScanner · Scanner.reset) (fun c t => t.withdrawSpot (.lane l) c) (fun _ _ => rfl) _ s

section
variable {s : State} {l : LaneId} {o : ActiveOrder} (ho : (s.lanes.get l).order = some o) (code : Completion)
include ho

/-- R9, R16: an order cut short ends as any order does. -/
theorem cutOrder_lane : (s.cutOrder l code).lanes.get l =
    (s.lanes.get l).afterEnd (s.ringSize l) (s.lay.rest.get l) (stopsAfter (s.lanes.get l).stopPending false code) := by
  unfold State.cutOrder
  rw [withdrawLane_eq]
  generalize (s.withdrawLane l).scanner = left
  exact endOrder_lane (s := s.setScanner left) ho code false

theorem cutOrder_other {m : LaneId} (hm : m ≠ l) : ((s.cutOrder l code).lanes.get m).still = (s.lanes.get m).still := by
  unfold State.cutOrder
  rw [withdrawLane_eq]
  generalize (s.withdrawLane l).scanner = left
  exact endOrder_other (s := s.setScanner left) ho code false hm

theorem cutOrder_writes : s.port.writes ++ s.endWrites l o code <+: (s.cutOrder l code).port.writes := by
  unfold State.cutOrder
  rw [withdrawLane_eq]
  generalize (s.withdrawLane l).scanner = left
  exact endOrder_writes (s := s.setScanner left) ho code false

end

theorem stopsAfter_always (pending fails : Bool) {code : Completion} (h : code = .aborted ∨ code = .holdEnded) :
    stopsAfter pending fails code = true := by
  obtain rfl | rfl := h <;> cases pending <;> rfl

/-! ### Lane commands (R6 to R10) -/

theorem exec_laneCommand {s : State} {L : Layout} (h : s.takesHost L) (l : LaneId) (code : Word) :
    (.next (s.hostWriteLane l 1 code) : Host.Outcome State Fault Refusal) =
      .next ((s.atGrant.forwardWrite (s.atGrant.laneWord l 1) (.good code)).writeCommand l code) :=
  congrArg Host.Outcome.next (hostWriteLane_command h l code)

/-- R6: a taken lane command is its handler with the write-back of 0. -/
theorem lane_taken {s t : State} {l : LaneId} {code : Word} (hc : code ≠ 0) (h : s.laneCommand l code.toNat = some t) :
    (.next (s.writeCommand l code) : Host.Outcome State Fault Refusal) = .next (t.writeBackLane l) :=
  congrArg Host.Outcome.next (writeCommand_taken hc h)

theorem lane_refused {s : State} {l : LaneId} {code : Word} (hc : code ≠ 0) (h : s.laneCommand l code.toNat = none) :
    (.next (s.writeCommand l code) : Host.Outcome State Fault Refusal) = .next (s.emit (commandRefused l code)) :=
  congrArg Host.Outcome.next (writeCommand_refused hc h)

/-- R6: what a taken command leaves is what its handler leaves, and the write-back is queued last. -/
theorem writeBackLane_frame {s t : State} (l : LaneId) (lower : t.lower = s.lower) :
    (t.writeBackLane l).lower = s.lower ∧
      (t.writeBackLane l).port.writes.getLast? = some ⟨s.laneWord l 1, 0, .plain⟩ :=
  ⟨(offer_lower t _ _).trans lower, by rw [writeBackLane_last, laneWord_of_lower lower]⟩

section
variable {s : State} {L : Layout} (l : LaneId)

theorem markStop_lower (s : State) : (s.markStop l).lower = s.lower := by
  unfold State.markStop
  dsimp only
  generalize (_ || _) = c
  split
  · rfl
  · exact putLaneStatus_lower _ l

/-- R8: STOP_AFTER in an order. -/
theorem commandStopAfter_order {x : Lane} (hx : s.lanes.get l = x) (active : x.state = .fetch ∨ x.state = .settle ∨
    x.state = .dwell ∨ x.state = .check) : s.commandStopAfter l = some (s.markStop l) := by
  unfold State.commandStopAfter
  rw [hx]
  obtain h | h | h | h := active <;> rw [h]

/-- R8: the mark, on an order that is not aborting. -/
theorem markStop_eq {o : ActiveOrder} (ho : (s.lanes.get l).order = some o) : ∃ p : Port, s.markStop l =
    { s.setLane l { s.lanes.get l with stopPending := (s.lanes.get l).stopPending || !o.abortPending } with port := p } := by
  have marks : s.markStop l = if ((s.lanes.get l).stopPending || o.abortPending) = true then s
      else (s.setLane l { s.lanes.get l with stopPending := true }).putLaneStatus l := by
    unfold State.markStop
    dsimp only
    rw [ho]
  rw [marks]
  cases pending : (s.lanes.get l).stopPending <;> cases aborting : o.abortPending
  case false.false => exact ⟨_, rfl⟩
  all_goals
    refine ⟨s.port, ?_⟩
    have same : s.setLane l { s.lanes.get l with stopPending := (s.lanes.get l).stopPending } = s :=
      congrArg (fun p => ({ s with lanes := p } : State)) (PerLane.set_get s.lanes l)
    rw [pending] at same
    exact same.symm

end

/-- Settles O16. -/
theorem stopAfterActsByLaneState : Obligations.StopAfterActsByLaneState := by
  intro s L l h
  rw [show exec (.stopAfter l) s = _ from exec_laneCommand h l 2]
  have layout := takesHost_lay h
  generalize s.atGrant = granted at layout ⊢
  intro g x w
  have code : (2 : Word) ≠ 0 := by decide
  have command {o : Option State} (k : w.commandStopAfter l = o) : w.laneCommand l (2 : Word).toNat = o := k
  refine ⟨fun disabled => ?_, fun stopped => ?_, fun idle => ?_, fun o ho active => ?_⟩
  · refine lane_refused code (command ?_)
    unfold State.commandStopAfter
    rw [show (w.lanes.get l).state = .disabled from disabled]
  · refine lane_taken code (command ?_)
    unfold State.commandStopAfter
    rw [show (w.lanes.get l).state = .stopped from stopped]
  · have taken : w.commandStopAfter l = some (w.goStopped l .none) := by
      unfold State.commandStopAfter
      rw [show (w.lanes.get l).state = .idle from idle]
    obtain ⟨lower, last⟩ := writeBackLane_frame l (goStopped_lower l .none w)
    refine ⟨_, lane_taken code (command taken), lower, ?_, fun m hm => ?_, last, ?_⟩
    · refine (goStopped_lane l .none w).trans ?_
      rw [show w.lay = L from layout]
      rfl
    · exact goStopped_other hm .none w
    · exact (goStopped_events l .none w).trans (emit_events_of (by rfl) (by rfl) (by rfl) _)
  · obtain ⟨p, marked⟩ := markStop_eq (s := w) l (o := o) ho
    obtain ⟨lower, last⟩ := writeBackLane_frame l (markStop_lower l w)
    refine ⟨_, lane_taken code (command (commandStopAfter_order l rfl active)), lower, ?_, fun m hm => ?_, last, ?_⟩
    · show (w.markStop l).lanes.get l = _
      rw [marked]
      exact PerLane.get_set_same _ _ _
    · show (w.markStop l).lanes.get m = _
      rw [marked]
      exact PerLane.get_set_other _ _ hm
    · have rest (t : State) (k : t = w.markStop l) : (t.writeBackLane l).governor = g.governor ∧
          (t.writeBackLane l).drive = g.drive ∧ (t.writeBackLane l).heat = g.heat ∧
          (t.writeBackLane l).scanner = g.scanner ∧ (t.writeBackLane l).events = g.events := by
        rw [k, marked]
        exact ⟨rfl, rfl, rfl, rfl, rfl⟩
      exact rest _ rfl

/-- Settles O17. -/
theorem abortActsByLaneState : Obligations.AbortActsByLaneState := by
  intro s L l h
  rw [show exec (.abort l) s = _ from exec_laneCommand h l 3]
  have layout := takesHost_lay h
  generalize s.atGrant = granted at layout ⊢
  intro g x w
  have code : (3 : Word) ≠ 0 := by decide
  have rest : w.lay = L := layout
  have aborts {o : Option State} (k : w.commandAbort l = o) : w.laneCommand l (3 : Word).toNat = o := k
  have inState {state : LaneState} (k : x.state = state) : (w.lanes.get l).state = state := k
  refine ⟨fun disabled => ?_, fun stopped => ?_, fun idle => ?_, fun o ho fetch => ?_, fun o ho active => ?_⟩
  · refine lane_refused code (aborts ?_)
    unfold State.commandAbort
    rw [inState disabled]
  · refine lane_taken code (aborts ?_)
    unfold State.commandAbort
    rw [inState stopped]
  · have taken : w.commandAbort l = some (w.goStopped l .none) := by
      unfold State.commandAbort
      rw [inState idle]
    obtain ⟨lower, last⟩ := writeBackLane_frame l (goStopped_lower l .none w)
    refine ⟨_, lane_taken code (aborts taken), lower, ?_, last, ?_⟩
    · refine (goStopped_lane l .none w).trans ?_
      rw [rest]
      rfl
    · exact (goStopped_events l .none w).trans (emit_events_of (by rfl) (by rfl) (by rfl) _)
  · refine lane_taken code (aborts ?_)
    unfold State.commandAbort
    rw [inState fetch]
    dsimp only
    rw [show (w.lanes.get l).order = some o from ho]
  · have taken : w.commandAbort l = some (w.cutOrder l .aborted) := by
      unfold State.commandAbort
      obtain k | k | k := active <;> rw [inState k]
    have order : (w.lanes.get l).order = some o := ho
    have stops := stopsAfter_always (w.lanes.get l).stopPending false (code := .aborted) (.inl rfl)
    obtain ⟨lower, last⟩ := writeBackLane_frame l (cutOrder_lower l .aborted w)
    refine ⟨_, lane_taken code (aborts taken), lower, ?_, fun m hm => cutOrder_other order .aborted hm, ?_, last⟩
    · refine (cutOrder_lane order .aborted).trans ?_
      rw [stops, State.ringSize, rest]
      rfl
    · exact (cutOrder_writes order .aborted).trans (offer_tells (f := id) _ _ _).writes

/-- Settles O18. -/
theorem flushTakenInStopped : Obligations.FlushTakenInStopped := by
  intro s L l h
  rw [show exec (.flush l) s = _ from exec_laneCommand h l 4]
  generalize s.atGrant = granted
  intro g x w
  have code : (4 : Word) ≠ 0 := by decide
  have flushes {o : Option State} (k : w.commandFlush l = o) : w.laneCommand l (4 : Word).toNat = o := k
  refine ⟨fun stopped differ => lane_taken code (flushes ?_), fun stopped equal => lane_taken code (flushes ?_),
    fun other => lane_refused code (flushes ?_)⟩
  · unfold State.commandFlush
    rw [show (w.lanes.get l).state = .stopped from stopped]
    exact if_neg differ
  · unfold State.commandFlush
    rw [show (w.lanes.get l).state = .stopped from stopped]
    exact if_pos equal
  · unfold State.commandFlush
    split
    next stopped => exact absurd stopped other
    · rfl

theorem serviceRefused {s : State} {code : Word} (other : 1 < code.toNat) (h : s.serviceHandler code.toNat = none) :
    s.writeService code = s.emit { kind := .serviceRefused, subject := code, value := s.serviceArg } := by
  have nonzero : code ≠ 0 := fun e => by rw [e] at other; exact absurd other (by decide)
  have notOne : code ≠ 1 := fun e => by rw [e] at other; exact absurd other (by decide)
  rw [State.writeService, if_neg nonzero, if_neg notOne, h]

/-- Settles O19. -/
theorem unknownCodesForwardedAndRefused : Obligations.UnknownCodesForwardedAndRefused := by
  refine ⟨fun s L l code h unlisted => ?_, fun s code running unlisted => ?_⟩
  · rw [show exec (.laneCommandUnknown l code) s = _ from exec_laneCommand h l code]
    refine lane_refused (fun e => by rw [e] at unlisted; exact absurd unlisted (by decide)) ?_
    unfold State.laneCommand
    split
    case h_5 => rfl
    all_goals omega
  · have written : exec (.serviceCodeUnknown code) s = _ := congrArg Host.Outcome.next (hostWriteService_running running code)
    rw [written, serviceRefused (by omega)]
    · rfl
    unfold State.serviceHandler
    split
    case h_7 => rfl
    all_goals omega

/-! ### The producer word (R5) -/

theorem producerAccepted_iff {s : State} {l : LaneId} {v : Nat} : s.producerAccepted l v = true ↔
    v < s.ringSize l ∧ ∀ o, (s.lanes.get l).order = some o → v ≠ o.slot := by
  unfold State.producerAccepted
  rw [Bool.and_eq_true, decide_eq_true_iff]
  cases (s.lanes.get l).order <;> simp

theorem takeProducer_eq (l : LaneId) (v : Nat) (s : State) : s.takeProducer l v =
    if (s.lanes.get l).state = .idle ∧ v ≠ (s.lanes.get l).consumer
    then (s.setLane l { s.lanes.get l with mirror := v }).beginFetch l
    else s.setLane l { s.lanes.get l with mirror := v } := by
  have taken : (s.setLane l { s.lanes.get l with mirror := v }).lanes.get l = { s.lanes.get l with mirror := v } :=
    PerLane.get_set_same _ _ _
  unfold State.takeProducer
  dsimp only
  rw [taken]

/-- Settles O14. -/
theorem producerWriteTakenOrAbsorbed : Obligations.ProducerWriteTakenOrAbsorbed := by
  intro s L l v h canonical
  rw [show exec (.producerWrite l v) s = _ from congrArg Host.Outcome.next (hostWriteLane_producer h l v)]
  have layout := takesHost_lay h
  generalize s.atGrant = granted at layout canonical ⊢
  intro g x accepted
  have word : g.laneWord l 0 = L.laneBase + 4 * l.index := by rw [State.laneWord, layout]; rfl
  have judged : g.producerAccepted l v.toNat = true ↔ accepted := by
    rw [producerAccepted_iff, State.ringSize, layout]
  unfold State.writeProducer
  rw [good_data, word]
  refine ⟨fun ok => ?_, fun bad => congrArg Host.Outcome.next (if_neg (fun k => bad (judged.1 k)))⟩
  rw [if_pos (judged.2 ok)]
  refine ⟨_, rfl, ?_⟩
  generalize L.laneBase + 4 * l.index = a
  have taken : ((g.forwardWrite a (.good v)).setLane l { x with mirror := v.toNat }).lanes.get l = { x with mirror := v.toNat } :=
    PerLane.get_set_same _ _ _
  have read : (g.forwardWrite a (.good v)).port.ram.read a = .good v := Memory.read_write_same canonical a _
  have others (b : Nat) (hb : b ≠ a) : (g.forwardWrite a (.good v)).port.ram.read b = g.port.ram.read b :=
    Memory.read_write_other _ _ hb
  have ram {t : State} (k : t.lower = (g.forwardWrite a (.good v)).lower) :
      t.port.ram = (g.forwardWrite a (.good v)).port.ram := congrArg (fun k => k.ram) k
  have steps : (g.forwardWrite a (.good v)).takeProducer l v.toNat = if x.state = .idle ∧ v.toNat ≠ x.consumer
      then ((g.forwardWrite a (.good v)).setLane l { x with mirror := v.toNat }).beginFetch l
      else (g.forwardWrite a (.good v)).setLane l { x with mirror := v.toNat } :=
    takeProducer_eq l v.toNat (g.forwardWrite a (.good v))
  rw [steps]
  by_cases begins : x.state = .idle ∧ v.toNat ≠ x.consumer
  · have lower := beginFetch_lower l ((g.forwardWrite a (.good v)).setLane l { x with mirror := v.toNat })
    have still := beginFetch_still l ((g.forwardWrite a (.good v)).setLane l { x with mirror := v.toNat })
    rw [taken] at still
    rw [if_pos begins]
    refine ⟨by rw [ram lower, read], fun b hb => by rw [ram lower, others b hb], lower, fun m hm => ?_, fun _ _ => ?_,
      fun other => ?_⟩
    · refine (setLane_of_still_other (s := State.askSlot _ l x.consumer) still hm).trans ?_
      exact congrArg Lane.still (PerLane.get_set_other _ _ hm)
    · exact ⟨setLane_of_still (s := State.askSlot _ l x.consumer) still rfl, congrArg Still.guards still,
        congrArg Still.reads still⟩
    · obtain k | k := other
      · exact absurd begins.1 k
      · exact absurd k begins.2
  · rw [if_neg begins]
    refine ⟨read, others, rfl, fun m hm => congrArg Lane.still (PerLane.get_set_other _ _ hm), fun idle differ => ?_,
      fun _ => rfl⟩
    exact absurd ⟨idle, differ⟩ begins

end Sys2Proof.Machine
end

section
/-! PROOFS. The course of an order (R12 to R21): its fetch judged, its start, the passages to SETTLE, DWELL and CHECK, and
the judgement of a check. -/

namespace Sys2Proof.Machine

/-! ### Words and fields (R13, R159) -/

theorem parityOk_iff (w : RamWord) : w.parityOk = true ↔ (onesCount w.data + flag w.parity) % 2 = 1 := by
  have halves := Nat.mod_two_eq_zero_or_one (onesCount w.data)
  unfold RamWord.parityOk oddParity flag
  cases w.parity <;> obtain h | h := halves <;> simp [h, Nat.add_mod]

theorem within_iff {lo n hi : Nat} : within lo n hi = true ↔ lo ≤ n ∧ n ≤ hi := by simp [within]

theorem field_lt (w : Word) (lo width : Nat) : field w lo width < 2 ^ width := Nat.mod_lt _ (Nat.two_pow_pos _)

theorem bit_iff_field (w : Word) (i : Nat) : bit w i = true ↔ field w i 1 = 1 := by
  rw [bit, BitVec.getLsbD, Nat.testBit_eq_decide_div_mod_eq, decide_eq_true_iff, field, Nat.pow_one]

/-- R13: the table of accepted fields. -/
theorem orderFieldsOk_iff (ws : List RamWord) : orderFieldsOk ws = true ↔
    fieldAt ws 0 2 2 ≤ 2 ∧ fieldAt ws 1 0 8 ≤ 100 ∧ fieldAt ws 1 8 8 ≤ 100 ∧
      (fieldAt ws 0 14 1 = 1 → numAt ws 2 ≤ 4095) ∧ 1 ≤ fieldAt ws 3 8 8 ∧ 1 ≤ numAt ws 4 := by
  have settle : fieldAt ws 3 8 8 ≤ 255 := Nat.le_of_lt_succ (field_lt _ 8 8)
  have dwell : numAt ws 4 ≤ 65535 := Nat.le_of_lt_succ (wordAt ws 4).isLt
  have target : (parseOrder ws).targetPresent = true ↔ fieldAt ws 0 14 1 = 1 := bit_iff_field _ 14
  have guarded : (!(parseOrder ws).targetPresent || within 0 (parseOrder ws).target 4095) = true ↔
      (fieldAt ws 0 14 1 = 1 → numAt ws 2 ≤ 4095) := by
    rw [← target, Bool.or_eq_true, within_iff]
    cases (parseOrder ws).targetPresent <;> simp [parseOrder]
  unfold orderFieldsOk
  simp only [Bool.and_eq_true, guarded, within_iff, decide_eq_true_iff]
  simp only [parseOrder]
  omega

/-- R13: parity is judged before the fields. -/
theorem orderRejected_iff (ws : List RamWord) :
    let parity := ∀ w ∈ ws, (onesCount w.data + flag w.parity) % 2 = 1
    let fields := fieldAt ws 0 2 2 ≤ 2 ∧ fieldAt ws 1 0 8 ≤ 100 ∧ fieldAt ws 1 8 8 ≤ 100 ∧
      (fieldAt ws 0 14 1 = 1 → numAt ws 2 ≤ 4095) ∧ 1 ≤ fieldAt ws 3 8 8 ∧ 1 ≤ numAt ws 4
    (orderRejected ws = none ↔ parity ∧ fields) ∧ (orderRejected ws = some .rejectedParity ↔ ¬ parity) ∧
    (orderRejected ws = some .rejectedField ↔ parity ∧ ¬ fields) := by
  intro parity fields
  have parityTest : ws.all RamWord.parityOk = true ↔ parity := by simp only [List.all_eq_true, parityOk_iff, parity]
  have fieldTest : orderFieldsOk ws = true ↔ fields := orderFieldsOk_iff ws
  unfold orderRejected
  by_cases p : parity
  · by_cases f : fields <;> simp [parityTest.2, fieldTest, p, f]
  · have bad : ws.all RamWord.parityOk = false := Bool.eq_false_iff.2 fun h => p (parityTest.1 h)
    simp [bad, p]

/-! ### SETTLE and DWELL (R14, R17, R18) -/

/-- R14, R17: an order as it enters SETTLE. -/
def ActiveOrder.settling (o : ActiveOrder) : ActiveOrder :=
  { o with settleTimer := 10 * (o.fields.map OrderFields.settleLimit).getD 0, dwellTimer := 0, awaited := [], results := [] }

/-- R14, R17: a lane as it enters SETTLE. -/
def Lane.settling (x : Lane) (o : ActiveOrder) : Lane := { x with state := .settle, order := some o.settling }

/-- R17, R18: an order as it passes to DWELL. -/
def ActiveOrder.dwells (o : ActiveOrder) (slow jams : Bool) : ActiveOrder :=
  { o with
    settleTimer := 0, dwellTimer := (o.fields.map OrderFields.dwell).getD 0
    flags := { o.flags with slowSettle := o.flags.slowSettle || slow, damperJammed := o.flags.damperJammed || jams } }

theorem leaveSettle_eq {s : State} {l : LaneId} {o : ActiveOrder} (ho : (s.lanes.get l).order = some o) (slow : Bool) :
    s.leaveSettle State.recompute slow l = ((s.setLane l { s.lanes.get l with
      state := .dwell, order := some (o.dwells slow (s.watchesJam l)) }).putLaneStatus l).recompute := by
  unfold State.leaveSettle
  rw [ho]
  rfl

/-- R17, R26: what follows a lane put in a record of its own and told to the host. -/
theorem laneTold_follows (s : State) (l : LaneId) (x : Lane) (e : Option LaneId) :
    Follows (s.setLane l x) (((s.setLane l x).putLaneStatus l).recomputeFor e) :=
  (recomputeFor_follows e _).behind (offerAs_follows _ _ _ _)

theorem laneTold_still (s : State) (l : LaneId) (x : Lane) (e : Option LaneId) :
    (((s.setLane l x).putLaneStatus l).recomputeFor e).still = (s.setLane l x).still :=
  (recomputeFor_still e _).trans (putLaneStatus_still _ l)

section
variable {s t : State} {l : LaneId} {x : Lane} {o : ActiveOrder}

/-- What follows a lane's record keeps of its order all but the timers and the flags, which only rise. -/
theorem order_of_follows (lane : s.lanes.get l = x) (ho : x.order = some o) (follows : Follows s t) (still : t.still = s.still) :
    ∃ p, (t.lanes.get l).order = some p ∧ p.core = o.core ∧ ∀ f ∈ stickyFlags, f o.flags = true → f p.flags = true := by
  have order : (t.lanes.get l).order.map ActiveOrder.core = some o.core := by
    have h := congrArg LaneStill.order (lane_still_of_still still l)
    rw [lane] at h
    exact h.trans (congrArg (Option.map ActiveOrder.core) ho)
  obtain ⟨p, hp, core⟩ := Option.map_eq_some_iff.1 order
  refine ⟨p, hp, core, fun f hf set => ?_⟩
  have rise := (follows.lanes l).flags f hf
  rw [lane, Lane.flagged, ho, Lane.flagged, hp] at rise
  exact rise set

/-- What stands still keeps a lane's indices, its mark and its carried demand. -/
theorem indices_of_still (lane : s.lanes.get l = x) (still : t.still = s.still) :
    (t.lanes.get l).mirror = x.mirror ∧ (t.lanes.get l).consumer = x.consumer ∧
      (t.lanes.get l).stopPending = x.stopPending ∧ (t.lanes.get l).carried = x.carried := by
  have h := lane_still_of_still still l
  rw [lane] at h
  exact ⟨congrArg LaneStill.mirror h, congrArg LaneStill.consumer h, congrArg LaneStill.stopPending h,
    congrArg LaneStill.carried h⟩

end

theorem core_fields {o p : ActiveOrder} (h : p.core = o.core) : p.slot = o.slot ∧ p.fields = o.fields ∧
    p.retries = o.retries ∧ p.awaited = o.awaited ∧ p.results = o.results :=
  ⟨congrArg (fun x => x.slot) h, congrArg (fun x => x.fields) h, congrArg (fun x => x.retries) h,
    congrArg (fun x => x.awaited) h, congrArg (fun x => x.results) h⟩

/-- R17, R18: a lane past SETTLE stands in DWELL with the order's dwell, and its flags are those of the passage or more. -/
theorem leaveSettle_dwells {s : State} {l : LaneId} {o : ActiveOrder} (ho : (s.lanes.get l).order = some o) (slow : Bool) :
    ∃ p, ((s.leaveSettle State.recompute slow l).lanes.get l).order = some p ∧ p.core = o.core ∧
      ((s.leaveSettle State.recompute slow l).lanes.get l).state = .dwell ∧
      p.dwellTimer = (o.fields.map OrderFields.dwell).getD 0 ∧ p.settleTimer = 0 ∧
      ∀ f ∈ stickyFlags, f (o.dwells slow (s.watchesJam l)).flags = true → f p.flags = true := by
  rw [leaveSettle_eq ho]
  have lane : (s.setLane l { s.lanes.get l with state := .dwell, order := some (o.dwells slow (s.watchesJam l)) }).lanes.get l
      = { s.lanes.get l with state := .dwell, order := some (o.dwells slow (s.watchesJam l)) } := PerLane.get_set_same _ _ _
  have follows := laneTold_follows s l { s.lanes.get l with state := .dwell, order := some (o.dwells slow (s.watchesJam l)) } none
  have still := laneTold_still s l { s.lanes.get l with state := .dwell, order := some (o.dwells slow (s.watchesJam l)) } none
  obtain ⟨p, hp, core, flags⟩ := order_of_follows lane rfl follows still
  have stays := (follows.lanes l).stays (by rw [lane]; simp)
  rw [lane] at stays
  obtain ⟨state, timers⟩ := stays
  rw [hp] at timers
  have pair : p.timers = (o.dwells slow (s.watchesJam l)).timers := Option.some.inj timers
  exact ⟨p, hp, core, state, congrArg Prod.snd pair, congrArg Prod.fst pair, flags⟩

/-- Settles O22. -/
theorem settleExpiryEntersDwell : Obligations.SettleExpiryEntersDwell := by
  intro s l o f running settle ho zero hf
  have due : (s.lanes.get l).settleDue = true := settleDue_iff.2 ⟨settle, o, ho, zero⟩
  have expires : exec (.settleTimerExpiry l) s = .next (s.leaveSettle State.recompute true l) :=
    congrArg Host.Outcome.next (if_pos ⟨running, due⟩)
  have still := leaveSettle_still recompute_still true settle
  obtain ⟨p, hp, core, state, dwell, settleTimer, flags⟩ := leaveSettle_dwells ho true
  obtain ⟨mirror, consumer, stop, _⟩ := indices_of_still rfl still
  refine ⟨_, p, expires, State.lower_of_still still, fun m _ => lane_still_of_still still m, state, hp, core, ?_, settleTimer,
    ?_, fun jam => ?_, mirror, consumer, stop⟩
  · rw [dwell, hf]
    rfl
  · exact flags StickyFlags.slowSettle (by simp [stickyFlags]) (by simp [ActiveOrder.dwells])
  · exact flags StickyFlags.damperJammed (by simp [stickyFlags]) (by simpa [ActiveOrder.dwells] using jam)

/-! ### The entry to SETTLE (R14, R17, R21) -/

/-- R14, R17: the recompute at the entry to SETTLE. -/
def State.settleTold (l : LaneId) (o : ActiveOrder) (s : State) : State :=
  ((s.setLane l ((s.lanes.get l).settling o)).putLaneStatus l).recomputeFor (some l)

theorem enterSettle_eq {s : State} {l : LaneId} {o : ActiveOrder} (ho : (s.lanes.get l).order = some o) :
    s.enterSettle l = if ((s.settleTold l o).lanes.get l).state = .settle ∧ (s.settleTold l o).settleCondition l
      then (s.settleTold l o).leaveSettle State.recompute false l else s.settleTold l o := by
  unfold State.enterSettle
  rw [ho]
  rfl

/-- R17: where a lane stands once it has entered SETTLE: there, with the full timer and the condition still unmet, or past
it in DWELL. -/
def State.Settled (t : State) (l : LaneId) (o p : ActiveOrder) : Prop :=
  ((t.lanes.get l).state = .settle ∧ p.settleTimer = 10 * (o.fields.map OrderFields.settleLimit).getD 0 ∧
      t.settleCondition l = false) ∨
    ((t.lanes.get l).state = .dwell ∧ p.settleTimer = 0 ∧ p.dwellTimer = (o.fields.map OrderFields.dwell).getD 0)

section
variable {s : State} {l : LaneId} {o : ActiveOrder} (ho : (s.lanes.get l).order = some o)
include ho

theorem enterSettle_still : (s.enterSettle l).still = (s.setLane l ((s.lanes.get l).settling o)).still := by
  have told := laneTold_still s l ((s.lanes.get l).settling o) (some l)
  rw [enterSettle_eq ho]
  split
  next passes => exact (leaveSettle_still recompute_still false passes.1).trans told
  · exact told

theorem enterSettle_follows : Follows (s.setLane l ((s.lanes.get l).settling o)) (s.enterSettle l) := by
  have told := laneTold_follows s l ((s.lanes.get l).settling o) (some l)
  rw [enterSettle_eq ho]
  split
  next passes => exact told.trans (leaveSettle_follows recompute_follows false passes.1)
  · exact told

theorem enterSettle_writes : s.port.writes <+: (s.enterSettle l).port.writes := (enterSettle_follows ho).writes

theorem enterSettle_other {m : LaneId} (hm : m ≠ l) : ((s.enterSettle l).lanes.get m).still = (s.lanes.get m).still :=
  setLane_of_still_other (enterSettle_still ho) hm

theorem enterSettle_indices : ((s.enterSettle l).lanes.get l).mirror = (s.lanes.get l).mirror ∧
    ((s.enterSettle l).lanes.get l).consumer = (s.lanes.get l).consumer ∧
    ((s.enterSettle l).lanes.get l).stopPending = (s.lanes.get l).stopPending ∧
    ((s.enterSettle l).lanes.get l).carried = (s.lanes.get l).carried :=
  indices_of_still (x := (s.lanes.get l).settling o) (PerLane.get_set_same _ _ _) (enterSettle_still ho)

theorem enterSettle_settled : ∃ p, ((s.enterSettle l).lanes.get l).order = some p ∧ p.core = o.settling.core ∧
    (∀ f ∈ stickyFlags, f o.flags = true → f p.flags = true) ∧ (s.enterSettle l).Settled l o p := by
  have lane : (s.setLane l ((s.lanes.get l).settling o)).lanes.get l = (s.lanes.get l).settling o := PerLane.get_set_same _ _ _
  obtain ⟨p, hp, core, flags⟩ := order_of_follows lane rfl (enterSettle_follows ho) (enterSettle_still ho)
  refine ⟨p, hp, core, flags, ?_⟩
  have passes := ((enterSettle_follows ho).lanes l).passes (by rw [lane]; rfl)
  rw [lane, hp] at passes
  obtain ⟨state, timers⟩ | ⟨state, timers⟩ := passes
  · have pair : p.timers = o.settling.timers := Option.some.inj timers
    refine .inl ⟨state, congrArg Prod.fst pair, ?_⟩
    rw [enterSettle_eq ho] at state ⊢
    split at state
    next settled =>
      obtain ⟨q, hq⟩ : ∃ q, ((s.settleTold l o).lanes.get l).order = some q := by
        obtain ⟨q, hq, _⟩ := order_of_follows lane rfl (laneTold_follows s l ((s.lanes.get l).settling o) (some l))
          (laneTold_still s l ((s.lanes.get l).settling o) (some l))
        exact ⟨q, hq⟩
      obtain ⟨_, _, _, dwells, _⟩ := leaveSettle_dwells hq false
      rw [dwells] at state
      cases state
    next unsettled =>
      rw [if_neg unsettled]
      exact Bool.eq_false_iff.2 fun met => unsettled ⟨state, met⟩
  · have pair : p.timers = o.settling.dwelling := Option.some.inj timers
    exact .inr ⟨state, congrArg Prod.fst pair, congrArg Prod.snd pair⟩

end

/-! ### The end of a fetch (R13, R14) -/

theorem finishFetch_completes {s : State} {l : LaneId} {o : ActiveOrder} (running : s.part = .running)
    (fetch : (s.lanes.get l).state = .fetch) (ho : (s.lanes.get l).order = some o) (returned : 8 ≤ o.words.length) :
    exec (.orderFetchComplete l) s = .next (s.completeFetch l o) := by
  have due : (s.lanes.get l).fetchReturned = true := fetchReturned_iff.2 ⟨fetch, o, ho, returned⟩
  refine congrArg Host.Outcome.next ?_
  unfold State.finishFetch
  rw [ho]
  exact if_pos ⟨running, due⟩

theorem startTold_lower (s : State) (l : LaneId) (o : ActiveOrder) (f : OrderFields) (g : StickyFlags) :
    (s.startTold l o f g).lower = s.lower := by
  unfold State.startTold
  dsimp only
  split
  · rw [emit_lower, offer_lower, offer_lower]
  · rw [offer_lower, offer_lower]

theorem startTold_writes (s : State) (l : LaneId) (o : ActiveOrder) (f : OrderFields) (g : StickyFlags) :
    s.port.writes ++ [⟨s.slotWord l o.slot 5, slotStatusWord .inProgress g 0, .plain⟩,
      ⟨s.slotWord l o.slot 6, s.tagClock, .plain⟩] <+: (s.startTold l o f g).port.writes := by
  have queued : ((s.offer (s.slotWord l o.slot 5) (slotStatusWord .inProgress g 0)).offer
      (s.slotWord l o.slot 6) s.tagClock).port.writes = s.port.writes ++
        [⟨s.slotWord l o.slot 5, slotStatusWord .inProgress g 0, .plain⟩, ⟨s.slotWord l o.slot 6, s.tagClock, .plain⟩] := by
    rw [offer_writes, offer_writes, List.append_assoc]
    rfl
  unfold State.startTold
  dsimp only
  rw [← queued]
  split
  · exact (emit_tells _ _).writes
  · exact List.prefix_refl _

/-- R14: a valid order started. -/
theorem startOrder_starts {s : State} {l : LaneId} {o : ActiveOrder} (ho : (s.lanes.get l).order = some o) (f : OrderFields) :
    let t := s.startOrder l f
    ∃ p, (∀ m, m ≠ l → (t.lanes.get m).still = (s.lanes.get m).still) ∧
      s.port.writes ++ [⟨s.slotWord l o.slot 5,
          slotStatusWord .inProgress { o.flags with overridden := s.overriddenAtStart l f } 0, .plain⟩,
        ⟨s.slotWord l o.slot 6, s.tagClock, .plain⟩] <+: t.port.writes ∧
      (t.lanes.get l).order = some p ∧ p.core = (o.started f (s.overriddenAtStart l f)).settling.core ∧
      (s.overriddenAtStart l f = true → p.flags.overridden = true) ∧ (t.lanes.get l).carried = f.demand ∧
      (t.lanes.get l).consumer = (s.lanes.get l).consumer ∧ t.Settled l (o.started f (s.overriddenAtStart l f)) p := by
  intro t
  rw [show t = _ from startOrder_eq ho f]
  dsimp only
  generalize hv : s.overriddenAtStart l f = v
  have writes := startTold_writes s l o f (o.started f v).flags
  have lanes := startTold_lanes s l o f (o.started f v).flags
  generalize s.startTold l o f (o.started f v).flags = u at writes lanes
  have lane : (u.setLane l { s.lanes.get l with order := some (o.started f v), carried := f.demand }).lanes.get l =
      { s.lanes.get l with order := some (o.started f v), carried := f.demand } := PerLane.get_set_same _ _ _
  have order : ((u.setLane l { s.lanes.get l with order := some (o.started f v), carried := f.demand }).lanes.get l).order =
      some (o.started f v) := by rw [lane]
  obtain ⟨p, hp, core, flags, settled⟩ := enterSettle_settled order
  obtain ⟨_, consumer, _, carried⟩ := enterSettle_indices order
  rw [lane] at consumer carried
  refine ⟨p, fun m hm => ?_, writes.trans (enterSettle_writes order), hp, core, fun held => ?_, carried, consumer, settled⟩
  · rw [enterSettle_other order hm, setLane_lanes, PerLane.get_set_other _ _ hm, lanes]
  · exact flags StickyFlags.overridden (by simp [stickyFlags]) (by simpa [ActiveOrder.started] using held)

/-- Settles O20. -/
theorem validOrderStarts : Obligations.ValidOrderStarts := by
  refine ⟨orderRejected_iff, fun s l o running fetch ho returned kept valid => ?_⟩
  intro f overridden
  have starts : s.completeFetch l o = s.startOrder l f := by
    unfold State.completeFetch
    rw [kept, valid]
    rfl
  have completes := finishFetch_completes running fetch ho returned
  rw [starts] at completes
  obtain ⟨p, others, writes, hp, core, held, carried, consumer, settled⟩ := startOrder_starts ho f
  obtain ⟨slot, fields, retries, _⟩ := core_fields core
  exact ⟨_, p, completes, startOrder_lower l f s, others, writes, hp, fields, slot, retries, held, carried, consumer, settled⟩

theorem rejectedStopOnFail_iff (ws : List RamWord) : rejectedStopOnFail ws = true ↔
    (ws.getD 0 unlisted).parityOk = false ∨ (parseOrder ws).stopOnFail = true := by simp [rejectedStopOnFail]

/-- R13: an order is rejected for its parity or for its fields. -/
theorem orderRejected_code {ws : List RamWord} {code : Completion} (h : orderRejected ws = some code) :
    code = .rejectedParity ∨ code = .rejectedField := by
  unfold orderRejected at h
  split at h
  · exact .inl (Option.some.inj h).symm
  · split at h
    · exact .inr (Option.some.inj h).symm
    · cases h

/-- R13, R23: how a fetch that does not start ends, and whether its end stops the lane. -/
theorem completeFetch_ends {s : State} {l : LaneId} {o : ActiveOrder} {code : Completion}
    (h : o.abortPending = true ∧ code = .aborted ∨ o.abortPending = false ∧ orderRejected o.words = some code) :
    ∃ fails, s.completeFetch l o = s.endOrder l code fails ∧ ∀ pending, stopsAfter pending fails code =
      (pending || o.abortPending || rejectedStopOnFail o.words && !o.abortPending) := by
  obtain ⟨aborts, rfl⟩ | ⟨kept, rejected⟩ := h
  · refine ⟨false, if_pos aborts, fun pending => ?_⟩
    rw [aborts]
    cases pending <;> rfl
  · refine ⟨rejectedStopOnFail o.words, ?_, fun pending => ?_⟩
    · unfold State.completeFetch
      rw [kept, rejected]
      rfl
    · rw [kept]
      obtain rfl | rfl := orderRejected_code rejected <;> simp [stopsAfter]

/-- Settles O21. -/
theorem abortedOrRejectedFetchEnds : Obligations.AbortedOrRejectedFetchEnds := by
  intro s l o code running fetch ho returned h x fails
  obtain ⟨stop, ends, stops⟩ := completeFetch_ends (s := s) (l := l) h
  have completes := finishFetch_completes running fetch ho returned
  rw [ends] at completes
  have lane := endOrder_lane ho code stop
  rw [stops] at lane
  have failing : rejectedStopOnFail o.words = true ↔ fails := rejectedStopOnFail_iff o.words
  refine ⟨_, completes, endOrder_lower l code stop s, fun m hm => endOrder_other ho code stop hm,
    endOrder_writes ho code stop, fun stopped => ?_, fun free kept ok => ?_⟩
  · have yes : ((s.lanes.get l).stopPending || o.abortPending || rejectedStopOnFail o.words && !o.abortPending) = true := by
      obtain k | k | k := stopped
      · simp [show (s.lanes.get l).stopPending = true from k]
      · simp [k]
      · rw [failing.2 k]
        cases o.abortPending <;> simp
    rw [lane, yes]
  · have no : ((s.lanes.get l).stopPending || o.abortPending || rejectedStopOnFail o.words && !o.abortPending) = false := by
      rw [show (s.lanes.get l).stopPending = false from free, kept, Bool.eq_false_iff.2 fun k => ok (failing.1 k)]
      rfl
    rw [lane, no]

end Sys2Proof.Machine
end

section
/-! PROOFS. Spots asked for and withdrawn (R97 to R99, R103), and the check of an order (R18 to R21). -/

namespace Sys2Proof.Machine

/-! ### What the queue asks for (R97) -/

/-- R97: an entry but for its conversion: the channel with its requesters. -/
def SpotEntry.asked (e : SpotEntry) : Fin 16 × RequesterSet := (e.channel, e.requesters)

/-- R97: whether a queue asks for a channel on behalf of a requester. -/
def asksFor (r : Requester) (c : Fin 16) (q : List (Fin 16 × RequesterSet)) : Prop := ∃ e ∈ q, e.1 = c ∧ e.2.has r = true

/-- R97: the requests of the Spot Queue. -/
def State.asked (s : State) : List (Fin 16 × RequesterSet) := s.scanner.queue.map SpotEntry.asked

theorem asksFor_asked {s : State} {r : Requester} {c : Fin 16} (h : asksFor r c s.asked) :
    ∃ e ∈ s.scanner.queue, e.channel = c ∧ e.requesters.has r = true := by
  obtain ⟨_, he, channel, has⟩ := h
  obtain ⟨e, mem, rfl⟩ := List.mem_map.1 he
  exact ⟨e, mem, channel, has⟩

theorem serveHead_asked (s : State) : s.serveHead.asked = s.asked := by
  unfold State.serveHead
  split
  · rfl
  next e es h =>
    unfold State.asked
    rw [h]
    rfl

theorem enterSpot_asked (s : State) (x : Resume) : (s.enterSpot x).asked = s.asked := serveHead_asked _

theorem preemptScan_asked (s : State) : s.preemptScan.asked = s.asked := by
  unfold State.preemptScan
  split
  · split <;> exact enterSpot_asked _ _
  · exact enterSpot_asked s _

theorem requestSpot_asked {s : State} (running : s.part = .running) (r : Requester) (c : Fin 16) :
    (s.requestSpot r c).asked = (s.joined r c).asked := by
  rw [requestSpot_running running]
  split
  · rfl
  · split
    · exact preemptScan_asked _
    · rfl
  · exact enterSpot_asked _ _
  · exact enterSpot_asked _ _

theorem put_has_same (q : RequesterSet) (r : Requester) (b : Bool) : (q.put r b).has r = b := by
  cases r with
  | lane l => exact PerLane.get_set_same _ _ _
  | _ => rfl

theorem put_has_other (q : RequesterSet) {r p : Requester} (h : p ≠ r) (b : Bool) : (q.put r b).has p = q.has p := by
  cases r <;> cases p
  case lane.lane l k => exact PerLane.get_set_other _ _ fun e => h (by rw [e])
  all_goals first | rfl | exact absurd rfl h

theorem put_has_of_has {q : RequesterSet} {p : Requester} (h : q.has p = true) (r : Requester) :
    (q.put r true).has p = true := by
  by_cases e : p = r
  · rw [e, put_has_same]
  · rwa [put_has_other q e]

theorem joinSpot_asks (r : Requester) (c : Fin 16) (q : List SpotEntry) :
    asksFor r c ((joinSpot r c q).map SpotEntry.asked) := by
  induction q with
  | nil => exact ⟨_, List.mem_singleton_self _, rfl, put_has_same _ r true⟩
  | cons e es ih =>
    unfold joinSpot
    split
    next h => exact ⟨_, List.mem_cons_self, h, put_has_same _ r true⟩
    · obtain ⟨x, mem, hx⟩ := ih
      exact ⟨x, List.mem_cons_of_mem _ mem, hx⟩

theorem joinSpot_keeps_asks {p : Requester} {d : Fin 16} (r : Requester) (c : Fin 16) {q : List SpotEntry}
    (h : asksFor p d (q.map SpotEntry.asked)) : asksFor p d ((joinSpot r c q).map SpotEntry.asked) := by
  induction q with
  | nil =>
    obtain ⟨_, mem, _⟩ := h
    cases mem
  | cons e es ih =>
    obtain ⟨x, mem, channel, has⟩ := h
    unfold joinSpot
    obtain rfl | mem := List.mem_cons.1 mem
    · split
      · exact ⟨_, List.mem_cons_self, channel, put_has_of_has has r⟩
      · exact ⟨_, List.mem_cons_self, channel, has⟩
    · split
      · exact ⟨x, List.mem_cons_of_mem _ mem, channel, has⟩
      · obtain ⟨y, memY, hy⟩ := ih ⟨x, mem, channel, has⟩
        exact ⟨y, List.mem_cons_of_mem _ memY, hy⟩

theorem requestSpot_asks {s : State} (running : s.part = .running) (r : Requester) (c : Fin 16) :
    asksFor r c (s.requestSpot r c).asked := by
  rw [requestSpot_asked running]
  exact joinSpot_asks r c s.scanner.queue

theorem requestSpot_keeps_asks {s : State} {p : Requester} {d : Fin 16} (h : asksFor p d s.asked) (r : Requester)
    (c : Fin 16) : asksFor p d (s.requestSpot r c).asked := by
  by_cases running : s.part = .running
  · rw [requestSpot_asked running]
    exact joinSpot_keeps_asks r c h
  · rwa [requestSpot_not_running running]

theorem requestSpot_part (s : State) (r : Requester) (c : Fin 16) : (s.requestSpot r c).part = s.part :=
  congrArg (fun x => x.part) (requestSpot_still s r c)

/-- R97: each of several requests stands in the queue. -/
theorem each_requestSpot_asks {s : State} (running : s.part = .running) (r : Requester) (cs : List (Fin 16)) :
    ∀ c ∈ cs, asksFor r c (s.each cs (fun c t => t.requestSpot r c)).asked := by
  have keeps (xs : List (Fin 16)) (t : State) {d : Fin 16} (h : asksFor r d t.asked) :
      asksFor r d (t.each xs (fun c t => t.requestSpot r c)).asked := by
    induction xs generalizing t with
    | nil => exact h
    | cons x xs ih => exact ih _ (requestSpot_keeps_asks h r x)
  induction cs generalizing s with
  | nil => intro c hc; cases hc
  | cons x xs ih =>
    intro c hc
    obtain rfl | hc := List.mem_cons.1 hc
    · exact keeps xs _ (requestSpot_asks running r c)
    · exact ih (s := s.requestSpot r x) ((requestSpot_part s r x).trans running) c hc

/-! ### SPOT_READ (R103) and withdrawals (R98) -/

/-- R171: a service command that is taken. -/
theorem service_taken {s t : State} {code : Word} (running : s.part = .running) (other : 1 < code.toNat)
    (h : (s.atGrant.forwardWrite 0x40 (.good code)).serviceHandler code.toNat = some t) :
    (.next (s.hostWriteService code) : Host.Outcome State Fault Refusal) = .next (t.offer 0x40 0) := by
  have nonzero : code ≠ 0 := fun e => by rw [e] at other; exact absurd other (by decide)
  have notOne : code ≠ 1 := fun e => by rw [e] at other; exact absurd other (by decide)
  rw [hostWriteService_running running, State.writeService, if_neg nonzero, if_neg notOne, h]
  rfl

theorem service_refused {s : State} {code : Word} (running : s.part = .running) (other : 1 < code.toNat)
    (h : (s.atGrant.forwardWrite 0x40 (.good code)).serviceHandler code.toNat = none) :
    (.next (s.hostWriteService code) : Host.Outcome State Fault Refusal) =
      .next ((s.atGrant.forwardWrite 0x40 (.good code)).emit
        { kind := .serviceRefused, subject := code, value := s.atGrant.serviceArg }) := by
  rw [hostWriteService_running running, serviceRefused other h]
  rfl

theorem enterSpot_of_queue {s : State} (nonempty : s.scanner.queue ≠ []) (x : Resume) :
    (s.enterSpot x).scanner.state = .spot ∧ (s.enterSpot x).scanner.resume = x ∧
      (s.enterSpot x).scanner.passStart = s.scanner.passStart := by
  unfold State.enterSpot State.serveHead
  split
  next empty => exact absurd empty nonempty
  · exact ⟨rfl, rfl, rfl⟩

/-- R99: how a request pre-empts the scanner, by its state. -/
theorem requestSpot_preempts {s : State} (running : s.part = .running) (r : Requester) (c : Fin 16) :
    let t := (s.requestSpot r c).scanner
    (s.scanner.state = .waiting → t.state = .spot ∧ t.resume = .endOfPass ∧ t.passStart = s.scanner.passStart) ∧
    (s.scanner.state = .stopped → t.state = .spot ∧ t.resume = .absent ∧ t.passStart = s.scanner.passStart) ∧
    (s.scanner.state = .scanning → s.scanner.conversion.isSome = true →
      (∀ e, s.scanner.ended = some e → e.moment ≠ s.now) →
      t.state = .spot ∧ t.resume = .at s.scanner.position ∧ t.passStart = s.scanner.passStart) ∧
    (∀ e, s.scanner.state = .scanning → s.scanner.conversion.isSome = true → s.scanner.ended = some e → e.moment = s.now →
      t.state = .spot ∧ t.resume = .endOfPass ∧ t.passStart = e.start) ∧
    (s.scanner.state = .spot → t = { s.scanner with queue := t.queue }) := by
  have nonempty : (s.joined r c).scanner.queue ≠ [] := joinSpot_ne_nil r c s.scanner.queue
  intro t
  rw [show t = _ from congrArg State.scanner (requestSpot_running running r c)]
  refine ⟨fun waiting => ?_, fun stopped => ?_, fun scanning converts other => ?_, fun e scanning converts ended same => ?_,
    fun spot => ?_⟩
  · rw [waiting]
    exact enterSpot_of_queue nonempty .endOfPass
  · rw [stopped]
    exact enterSpot_of_queue nonempty .absent
  · rw [scanning]
    dsimp only
    rw [if_pos converts]
    unfold State.preemptScan
    rw [show (s.joined r c).scanner.ended = s.scanner.ended from rfl]
    split
    next e ended =>
      rw [if_neg (show ¬ e.moment = (s.joined r c).now from other e ended)]
      exact enterSpot_of_queue nonempty _
    · exact enterSpot_of_queue nonempty _
  · rw [scanning]
    dsimp only
    rw [if_pos converts]
    unfold State.preemptScan
    rw [show (s.joined r c).scanner.ended = some e from ended]
    dsimp only
    rw [if_pos (show e.moment = (s.joined r c).now from same)]
    exact enterSpot_of_queue (s := (s.joined r c).setScanner { (s.joined r c).scanner with passStart := e.start, ended := none })
      nonempty .endOfPass
  · rw [spot]
    rfl

theorem requestSpot_channels_asked {s : State} (running : s.part = .running) (r : Requester) (c : Fin 16) :
    (s.requestSpot r c).scanner.queue.map SpotEntry.channel = (if c ∈ s.scanner.queue.map SpotEntry.channel
      then s.scanner.queue.map SpotEntry.channel else s.scanner.queue.map SpotEntry.channel ++ [c]) := by
  have channels (t : State) : t.scanner.queue.map SpotEntry.channel = t.asked.map Prod.fst := by
    rw [State.asked, List.map_map]
    rfl
  rw [channels (s.requestSpot r c), requestSpot_asked running, ← channels]
  exact joinSpot_channels r c s.scanner.queue

theorem withdrawSpot_queue (s : State) (r : Requester) (c : Fin 16) :
    (s.withdrawSpot r c).scanner.queue = s.scanner.queue.filterMap (withdrawEntry r c) := rfl

/-- R98: an entry without the requester. -/
def SpotEntry.without (e : SpotEntry) (r : Requester) : SpotEntry :=
  { e with requesters := e.requesters.put r false, served := e.served.map (fun q => q.put r false) }

theorem withdrawEntry_eq (r : Requester) (c : Fin 16) (e : SpotEntry) : withdrawEntry r c e =
    if e.channel = c then
      if (e.without r).served.isNone && (e.without r).requesters.isEmpty then none else some (e.without r)
    else some e := rfl

theorem isEmpty_false_iff (q : RequesterSet) : q.isEmpty = false ↔ ∃ r, q.has r = true := by
  constructor
  · intro h
    obtain ⟨⟨front, crew, screen⟩, purge, heat, service⟩ := q
    simp only [RequesterSet.isEmpty, Bool.not_eq_false', Bool.or_eq_true] at h
    obtain ((((h | h) | h) | h) | h) | h := h
    · exact ⟨.lane .front, h⟩
    · exact ⟨.lane .crew, h⟩
    · exact ⟨.lane .screen, h⟩
    · exact ⟨.purge, h⟩
    · exact ⟨.heat, h⟩
    · exact ⟨.service, h⟩
  · rintro ⟨r, h⟩
    obtain ⟨⟨front, crew, screen⟩, purge, heat, service⟩ := q
    rw [RequesterSet.isEmpty, Bool.not_eq_false', Bool.or_eq_true, Bool.or_eq_true, Bool.or_eq_true, Bool.or_eq_true,
      Bool.or_eq_true]
    cases r with
    | lane l =>
      cases l with
      | front => exact .inl (.inl (.inl (.inl (.inl h))))
      | crew => exact .inl (.inl (.inl (.inl (.inr h))))
      | screen => exact .inl (.inl (.inl (.inr h)))
    | purge => exact .inl (.inl (.inr h))
    | heat => exact .inl (.inr h)
    | service => exact .inr h

/-- R98: an entry of the channel stays as long as it is under conversion or another still asks for it. -/
theorem without_stays {r : Requester} {e : SpotEntry} : ((e.without r).served.isNone && (e.without r).requesters.isEmpty) = false ↔
    e.served ≠ none ∨ ∃ q, (e.without r).requesters.has q = true := by
  rw [Bool.and_eq_false_iff, isEmpty_false_iff]
  refine or_congr ?_ Iff.rfl
  cases h : e.served <;> simp [SpotEntry.without, h]

/-- R98: a withdrawal, entry by entry. -/
theorem mem_withdrawSpot {s : State} {r : Requester} {c : Fin 16} {x : SpotEntry} :
    x ∈ (s.withdrawSpot r c).scanner.queue ↔ ∃ e ∈ s.scanner.queue,
      (e.channel ≠ c ∧ x = e) ∨ (e.channel = c ∧ x = e.without r ∧
        (e.served ≠ none ∨ ∃ q, (e.without r).requesters.has q = true)) := by
  rw [withdrawSpot_queue, List.mem_filterMap]
  refine exists_congr fun e => and_congr_right fun _ => ?_
  rw [withdrawEntry_eq, ← without_stays]
  by_cases h : e.channel = c
  · rw [if_pos h]
    cases stays : (e.without r).served.isNone && (e.without r).requesters.isEmpty <;> simp [h, eq_comm]
  · rw [if_neg h]
    exact ⟨fun same => .inl ⟨h, (Option.some.inj same).symm⟩, fun
      | .inl ⟨_, same⟩ => congrArg some same.symm
      | .inr ⟨same, _⟩ => absurd same h⟩

/-- R98: a withdrawal takes the requester out of the channel's entry, and the entry with its last requester. -/
theorem withdrawSpot_withdraws (s : State) (r : Requester) (c : Fin 16) :
    let t := s.withdrawSpot r c
    t = { s with scanner := { s.scanner with queue := t.scanner.queue } } ∧
    (t.scanner.queue.map SpotEntry.channel).Sublist (s.scanner.queue.map SpotEntry.channel) ∧
    (∀ e, e.channel ≠ c → (e ∈ t.scanner.queue ↔ e ∈ s.scanner.queue)) ∧
    (∀ e ∈ s.scanner.queue, e.channel = c →
      (e.served ≠ none ∨ ∃ q, q ≠ r ∧ e.requesters.has q = true) → e.without r ∈ t.scanner.queue) ∧
    (∀ x ∈ t.scanner.queue, x.channel = c → x.requesters.has r = false ∧
      (∀ v, x.served = some v → v.has r = false) ∧ (x.served ≠ none ∨ ∃ q, x.requesters.has q = true) ∧
      ∃ e ∈ s.scanner.queue, x = e.without r) := by
  refine ⟨rfl, withdrawn_channels r c s.scanner.queue, fun e other => ?_, fun e mem channel stays => ?_, fun x mem channel => ?_⟩
  · rw [mem_withdrawSpot]
    constructor
    · rintro ⟨y, memY, ⟨_, rfl⟩ | ⟨same, rfl, _⟩⟩
      · exact memY
      · exact absurd same other
    · exact fun mem => ⟨e, mem, .inl ⟨other, rfl⟩⟩
  · refine mem_withdrawSpot.2 ⟨e, mem, .inr ⟨channel, rfl, stays.imp id ?_⟩⟩
    rintro ⟨q, other, has⟩
    exact ⟨q, (put_has_other e.requesters other false).trans has⟩
  · obtain ⟨e, memE, ⟨other, rfl⟩ | ⟨_, rfl, stays⟩⟩ := mem_withdrawSpot.1 mem
    · exact absurd channel other
    · refine ⟨put_has_same e.requesters r false, fun v hv => ?_, stays.imp (fun served => ?_) id, e, memE, rfl⟩
      · obtain ⟨q, _, rfl⟩ := Option.map_eq_some_iff.1 hv
        exact put_has_same q r false
      · exact fun none => served (Option.map_eq_none_iff.1 none)

/-- Settles O30: an accepted SPOT_READ is one request, and a withdrawal takes the requester out of its entries. -/
theorem spotReadAsksForItsChannel : Obligations.SpotReadAsksForItsChannel := by
  refine ⟨fun s running => ?_, fun s r c => withdrawSpot_withdraws s r c⟩
  have granted := atGrant_running running
  have taken {t : State} := service_taken (s := s) (t := t) (code := 4) running (by decide)
  have refused := service_refused (s := s) (code := 4) running (by decide)
  rw [show exec .spotRead s = .next (s.hostWriteService 4) from rfl]
  generalize s.atGrant = g at granted taken refused ⊢
  intro g w
  have runs : w.part = .running := granted
  refine ⟨fun c hc => ?_, fun high => refused ?_⟩
  · have handles : w.serviceHandler (4 : Word).toNat = some (w.requestSpot .service c) := by
      have low : w.serviceArg.toNat < 16 := by
        rw [show w.serviceArg.toNat = c.val from hc]
        exact c.isLt
      have channel : (⟨w.serviceArg.toNat, low⟩ : Fin 16) = c := Fin.ext hc
      have reads : w.commandSpotRead = some (w.requestSpot .service ⟨w.serviceArg.toNat, low⟩) := dif_pos low
      rw [channel] at reads
      exact reads
    obtain ⟨waiting, stopped, scanning, ended, spot⟩ := requestSpot_preempts runs .service c
    have still : ((w.requestSpot .service c).offer 0x40 0).still = w.still :=
      (offer_still _ _ _).trans (requestSpot_still w .service c)
    have rest : (w.requestSpot .service c).offer 0x40 0 =
        (w.setScanner (w.requestSpot .service c).scanner).offer 0x40 0 :=
      congrArg (State.offer · 0x40 0) (requestSpot_scanner w .service c)
    refine ⟨_, taken handles, still, ?_, ?_, ?_, ?_, ?_, ?_, asksFor_asked (requestSpot_asks runs .service c),
      requestSpot_channels_asked runs .service c, fun h => ⟨(waiting h).1, (waiting h).2.1⟩,
      fun h => ⟨(stopped h).1, (stopped h).2.1⟩, fun h => h.elim (fun h => (waiting h).2.2) (fun h => (stopped h).2.2),
      scanning, ended, spot⟩
    · rw [rest]; rfl
    · rw [rest, offer_writes]; rfl
    · rw [rest]; exact Port.offer_images _ _
    · rw [rest]; rfl
    · rw [rest]; rfl
    · rw [rest]; rfl
  · have out : w.commandSpotRead = none := dif_neg (Nat.not_lt.2 high)
    exact out

end Sys2Proof.Machine
end

section
/-! PROOFS. The check of an order (R18 to R21): the dwell's end, the spots asked for, the judgement and the retry. -/

namespace Sys2Proof.Machine

/-! ### The end of a dwell (R18, R19) -/

theorem part_of_still {s t : State} (h : t.still = s.still) : t.part = s.part := congrArg (fun x => x.part) h

theorem stopsAfter_done (pending fails : Bool) : stopsAfter pending fails .done = pending := by
  cases pending <;> cases fails <;> rfl

theorem stopsAfter_checkFailed (pending fails : Bool) : stopsAfter pending fails .checkFailed = (pending || fails) := by
  cases pending <;> cases fails <;> rfl

theorem mem_checkChannels {l : LaneId} {f : OrderFields} {c : Fin 16} : c ∈ checkChannels l f ↔
    ((f.targetPresent = true ∧ 0 < f.tolerance) ∧ c = l.channel) ∨ (f.checkQuality = true ∧ (c = 4 ∨ c = 5)) := by
  unfold checkChannels
  by_cases temperature : f.targetPresent = true ∧ 0 < f.tolerance <;> cases quality : f.checkQuality <;>
    simp [temperature, Bool.and_eq_true]

theorem checkChannels_isEmpty {l : LaneId} {f : OrderFields} : (checkChannels l f).isEmpty = true ↔
    ¬ (f.targetPresent = true ∧ 0 < f.tolerance) ∧ f.checkQuality = false := by
  rw [List.isEmpty_iff, List.eq_nil_iff_forall_not_mem]
  constructor
  · intro h
    refine ⟨fun temperature => h l.channel (mem_checkChannels.2 (.inl ⟨temperature, rfl⟩)), ?_⟩
    exact Bool.eq_false_iff.2 fun quality => h 4 (mem_checkChannels.2 (.inr ⟨quality, .inl rfl⟩))
  · rintro ⟨temperature, quality⟩ c mem
    obtain ⟨holds, _⟩ | ⟨holds, _⟩ := mem_checkChannels.1 mem
    · exact temperature holds
    · rw [quality] at holds
      cases holds

theorem dwellExpires_eq {s : State} {l : LaneId} {o : ActiveOrder} {f : OrderFields} (ho : (s.lanes.get l).order = some o)
    (hf : o.fields = some f) : s.dwellExpires l = if (checkChannels l f).isEmpty then s.endOrder l .done f.stopOnFail
      else s.enterCheck l o (checkChannels l f) := by
  unfold State.dwellExpires
  rw [ho]
  dsimp only
  rw [hf]

/-- R19: a lane in CHECK, with the channels it awaits. -/
def Lane.checking (x : Lane) (o : ActiveOrder) (channels : List (Fin 16)) : Lane :=
  { x with state := .check, order := some { o with awaited := channels, results := [], dwellTimer := 0 } }

theorem enterCheck_eq (s : State) (l : LaneId) (o : ActiveOrder) (cs : List (Fin 16)) : s.enterCheck l o cs =
    (((s.setLane l ((s.lanes.get l).checking o cs)).putLaneStatus l).recomputeFor none).each cs
      (fun c t => t.requestSpot (.lane l) c) := rfl

/-- R19: a lane in CHECK awaits the check's channels and has asked for each. -/
theorem enterCheck_asks {s : State} (running : s.part = .running) (l : LaneId) (o : ActiveOrder) (cs : List (Fin 16)) :
    ∃ p, ((s.enterCheck l o cs).lanes.get l).state = .check ∧ ((s.enterCheck l o cs).lanes.get l).order = some p ∧
      p.fields = o.fields ∧ p.results = [] ∧ p.awaited = cs ∧
      (∀ m, m ≠ l → ((s.enterCheck l o cs).lanes.get m).still = (s.lanes.get m).still) ∧
      ∀ c ∈ cs, ∃ e ∈ (s.enterCheck l o cs).scanner.queue, e.channel = c ∧ e.requesters.lanes.get l = true := by
  rw [enterCheck_eq]
  have told := laneTold_follows s l ((s.lanes.get l).checking o cs) none
  have toldStill := laneTold_still s l ((s.lanes.get l).checking o cs) none
  have lane : (s.setLane l ((s.lanes.get l).checking o cs)).lanes.get l = (s.lanes.get l).checking o cs :=
    PerLane.get_set_same _ _ _
  generalize ((s.setLane l ((s.lanes.get l).checking o cs)).putLaneStatus l).recomputeFor none = u at told toldStill ⊢
  have runs : u.part = .running := (part_of_still toldStill).trans running
  have follows := told.trans (each_follows (fun c t => t.requestSpot (.lane l) c)
    (fun c t => requestSpot_follows t (.lane l) c) cs u)
  have still := (each_leaves State.still (fun c t => t.requestSpot (.lane l) c)
    (fun c t => requestSpot_still t (.lane l) c) cs u).trans toldStill
  obtain ⟨p, hp, core, _⟩ := order_of_follows lane rfl follows still
  obtain ⟨_, fields, _, awaited, results⟩ := core_fields core
  have stays := ((follows.lanes l).stays (by rw [lane]; simp [Lane.checking])).1
  rw [lane] at stays
  exact ⟨p, stays, hp, fields, results, awaited, fun m hm => setLane_of_still_other still hm, fun c hc =>
    asksFor_asked (each_requestSpot_asks runs (.lane l) cs c hc)⟩

/-- R18, R19: what the end of a dwell does, with a check and without one. -/
theorem dwellExpires_ends_or_checks (s : State) (l : LaneId) (o : ActiveOrder) (f : OrderFields) (running : s.part = .running)
    (dwell : (s.lanes.get l).state = .dwell) (ho : (s.lanes.get l).order = some o) (zero : o.dwellTimer = 0)
    (hf : o.fields = some f) :
    let x := s.lanes.get l
    let temperature := f.targetPresent = true ∧ 0 < f.tolerance
    (¬ temperature → f.checkQuality = false → ∃ t, exec (.dwellTimerExpiry l) s = .next t ∧ t.lower = s.lower ∧
      (∀ m, m ≠ l → (t.lanes.get m).still = (s.lanes.get m).still) ∧
      s.port.writes ++ s.endWrites l o .done <+: t.port.writes ∧
      t.lanes.get l = x.afterEnd (s.ringSize l) (s.lay.rest.get l) x.stopPending) ∧
    (temperature ∨ f.checkQuality = true → ∃ t o', exec (.dwellTimerExpiry l) s = .next t ∧ t.lower = s.lower ∧
      (∀ m, m ≠ l → (t.lanes.get m).still = (s.lanes.get m).still) ∧
      (t.lanes.get l).state = .check ∧ (t.lanes.get l).order = some o' ∧ o'.fields = some f ∧ o'.results = [] ∧
      (∀ c, c ∈ o'.awaited ↔ (temperature ∧ c = l.channel) ∨ (f.checkQuality = true ∧ (c = 4 ∨ c = 5))) ∧
      ∀ c ∈ o'.awaited, ∃ e ∈ t.scanner.queue, e.channel = c ∧ e.requesters.lanes.get l = true) := by
  intro x temperature
  have expires : exec (.dwellTimerExpiry l) s = .next (s.dwellExpires l) :=
    congrArg Host.Outcome.next (if_pos ⟨running, dwellDue_iff.2 ⟨dwell, o, ho, zero⟩⟩)
  rw [expires, dwellExpires_eq ho hf]
  refine ⟨fun none quality => ?_, fun checks => ?_⟩
  · rw [if_pos (checkChannels_isEmpty.2 ⟨none, quality⟩)]
    have lane := endOrder_lane ho .done f.stopOnFail
    rw [stopsAfter_done] at lane
    exact ⟨_, rfl, endOrder_lower l .done _ s, fun m hm => endOrder_other ho .done _ hm, endOrder_writes ho .done _, lane⟩
  · have some : ¬ (checkChannels l f).isEmpty = true := by
      rw [checkChannels_isEmpty]
      rintro ⟨none, quality⟩
      obtain h | h := checks
      · exact none h
      · rw [quality] at h
        cases h
    rw [if_neg some]
    obtain ⟨p, state, hp, fields, results, awaited, others, asks⟩ := enterCheck_asks running l o (checkChannels l f)
    exact ⟨_, p, rfl, enterCheck_lower l o _ s, others, state, hp, fields.trans hf, results,
      fun c => by rw [awaited]; exact mem_checkChannels, by rw [awaited]; exact asks⟩

/-! ### The judgement of a check (R20) -/

/-- R19: an order with a result come in. -/
def ActiveOrder.received (o : ActiveOrder) (r : SpotResult) : ActiveOrder :=
  { o with awaited := o.awaited.filter (fun c => c ≠ r.channel), results := o.results ++ [r] }

theorem deliverLane_eq {s : State} {l : LaneId} {o : ActiveOrder} {f : OrderFields} {r : SpotResult}
    (check : (s.lanes.get l).state = .check) (ho : (s.lanes.get l).order = some o) (hf : o.fields = some f)
    (awaits : r.channel ∈ o.awaited) : s.deliverLane l r = if (o.received r).awaited.isEmpty
      then (s.setOrder l (o.received r)).judgeCheck l (o.received r) f else s.setOrder l (o.received r) := by
  unfold State.deliverLane
  rw [ho]
  dsimp only
  rw [if_pos ⟨check, awaits⟩]
  show (match (o.received r).fields with
    | some f => if (o.received r).awaited.isEmpty then (s.setOrder l (o.received r)).judgeCheck l (o.received r) f
      else s.setOrder l (o.received r)
    | none => s.setOrder l (o.received r)) = _
  rw [show (o.received r).fields = some f from hf]

theorem difference_le {a b n : Nat} : difference a b ≤ n ↔ a ≤ b + n ∧ b ≤ a + n := by
  unfold difference
  omega

theorem passes_iff {s : State} {l : LaneId} {f : OrderFields} {r : SpotResult} : s.passes l f r = true ↔
    (r.channel = l.channel → r.value ≤ f.target + f.tolerance ∧ f.target ≤ r.value + f.tolerance) ∧
      (r.channel ≠ l.channel → s.spotClass r.channel r.value = .ok) := by
  unfold State.passes
  by_cases own : r.channel = l.channel
  · rw [if_pos own, decide_eq_true_iff, difference_le]
    exact ⟨fun h => ⟨fun _ => h, fun other => absurd own other⟩, fun h => h.1 own⟩
  · rw [if_neg own, beq_iff_eq]
    exact ⟨fun h => ⟨fun same => absurd same own, fun _ => h⟩, fun h => h.2 own⟩

/-! ### The retry (R21) -/

/-- R21: the order of a retry. -/
def ActiveOrder.retried (o : ActiveOrder) : ActiveOrder :=
  { o with retries := o.retries + 1, flags := { o.flags with retried := true } }

/-- R21: the fields of a retry. -/
def OrderFields.onRetry (f : OrderFields) : OrderFields :=
  { f with source := if f.swapInlet = true
      then (match f.source with | .freshRoof => .freshBumper | .freshBumper => .freshRoof | q => q) else f.source }

theorem swapped_eq (q : SourceReq) :
    q.swapped = match q with | .freshRoof => .freshBumper | .freshBumper => .freshRoof | q => q := by
  cases q <;> rfl

theorem onRetry_same {f : OrderFields} (h : ¬ (f.swapInlet = true ∧ f.source.swapped ≠ f.source)) : f.onRetry = f := by
  unfold OrderFields.onRetry
  rw [← swapped_eq]
  by_cases swap : f.swapInlet = true
  · have same : f.source.swapped = f.source := by
      refine Classical.byContradiction fun other => ?_
      exact h ⟨swap, other⟩
    rw [if_pos swap, same]
  · rw [if_neg swap]

theorem onRetry_swapped {f : OrderFields} (h : f.swapInlet = true ∧ f.source.swapped ≠ f.source) :
    f.onRetry = { f with source := f.source.swapped } := by
  unfold OrderFields.onRetry
  rw [← swapped_eq, if_pos h.1]

theorem onRetry_ne {f : OrderFields} (h : f.swapInlet = true ∧ f.source.swapped ≠ f.source) : f.onRetry ≠ f := by
  rw [onRetry_swapped h]
  exact fun same => h.2 (congrArg OrderFields.source same)

/-- R21: a lane whose retry exchanges the inlet. -/
def Lane.swaps (x : Lane) (o : ActiveOrder) (f : OrderFields) : Lane :=
  { x with order := some { o with fields := some f }, carried := f.demand }

theorem swapOnRetry_swaps {f : OrderFields} (h : f.swapInlet = true ∧ f.source.swapped ≠ f.source) (s : State) (l : LaneId)
    (o : ActiveOrder) : s.swapOnRetry l o f = (s.setLane l ((s.lanes.get l).swaps o f.onRetry)).recompute := by
  rw [onRetry_swapped h]
  exact if_pos h

theorem swapOnRetry_keeps {f : OrderFields} (h : ¬ (f.swapInlet = true ∧ f.source.swapped ≠ f.source)) (s : State) (l : LaneId)
    (o : ActiveOrder) : s.swapOnRetry l o f = s.setOrder l o := if_neg h

/-- R21: what the exchange leaves for the retry to go on with. -/
structure Swapped (s t : State) (l : LaneId) (o p : ActiveOrder) (f : OrderFields) : Prop where
  order : (t.lanes.get l).order = some p
  core : p.core = ({ o with fields := some f.onRetry } : ActiveOrder).core
  flags : ∀ g ∈ stickyFlags, g o.flags = true → g p.flags = true
  others : ∀ m, m ≠ l → (t.lanes.get m).still = (s.lanes.get m).still
  indices : (t.lanes.get l).mirror = (s.lanes.get l).mirror ∧ (t.lanes.get l).consumer = (s.lanes.get l).consumer ∧
    (t.lanes.get l).stopPending = (s.lanes.get l).stopPending
  carried : (t.lanes.get l).carried = if f.onRetry = f then (s.lanes.get l).carried else f.onRetry.demand
  writes : s.port.writes <+: t.port.writes
  same : f.onRetry = f → t = s.setOrder l o ∧ p = o

theorem swapOnRetry_swapped (s : State) (l : LaneId) {o : ActiveOrder} {f : OrderFields} (hf : o.fields = some f) :
    ∃ p, Swapped s (s.swapOnRetry l o f) l o p f := by
  by_cases h : f.swapInlet = true ∧ f.source.swapped ≠ f.source
  · rw [swapOnRetry_swaps h]
    have lane : (s.setLane l ((s.lanes.get l).swaps o f.onRetry)).lanes.get l = (s.lanes.get l).swaps o f.onRetry :=
      PerLane.get_set_same _ _ _
    have follows := recompute_follows (s.setLane l ((s.lanes.get l).swaps o f.onRetry))
    have still := recompute_still (s.setLane l ((s.lanes.get l).swaps o f.onRetry))
    obtain ⟨p, hp, core, flags⟩ := order_of_follows lane rfl follows still
    obtain ⟨mirror, consumer, stop, carried⟩ := indices_of_still lane still
    exact ⟨p, hp, core, flags, fun m hm => setLane_of_still_other still hm, ⟨mirror, consumer, stop⟩,
      carried.trans (if_neg (onRetry_ne h)).symm, follows.writes, fun same => absurd same (onRetry_ne h)⟩
  · rw [swapOnRetry_keeps h]
    have lane : (s.setOrder l o).lanes.get l = { s.lanes.get l with order := some o } := PerLane.get_set_same _ _ _
    refine ⟨o, by rw [lane], ?_, fun _ _ => id, fun m hm => ?_, ?_, ?_, List.prefix_refl _, fun _ => ⟨rfl, rfl⟩⟩
    · rw [onRetry_same h, ← hf]
    · exact congrArg Lane.still (PerLane.get_set_other _ _ hm)
    · rw [lane]
      exact ⟨rfl, rfl, rfl⟩
    · rw [lane, if_pos (onRetry_same h)]

theorem retry_eq {s : State} {l : LaneId} {o p : ActiveOrder} {f : OrderFields}
    (hp : ((s.swapOnRetry l o.retried f).lanes.get l).order = some p) : s.retry l o f =
      ((s.swapOnRetry l o.retried f).offer ((s.swapOnRetry l o.retried f).slotWord l p.slot 5)
        (slotStatusWord .inProgress p.flags p.retries)).enterSettle l := by
  unfold State.retry
  dsimp only
  rw [show ((s.swapOnRetry l { o with retries := o.retries + 1, flags := { o.flags with retried := true } } f).lanes.get l).order
    = some p from hp]
  rfl

/-- R21: a retry: the words told, and the lane in SETTLE or past it. -/
theorem retry_retries {s : State} {l : LaneId} {o : ActiveOrder} {f : OrderFields} (hf : o.fields = some f) :
    let x := s.lanes.get l
    let t := s.retry l o f
    ∃ p, (t.lanes.get l).order = some p ∧ p.slot = o.slot ∧ p.fields = some f.onRetry ∧ p.retries = o.retries + 1 ∧
      p.flags.retried = true ∧ p.awaited = [] ∧ p.results = [] ∧
      (t.lanes.get l).carried = (if f.onRetry = f then x.carried else f.onRetry.demand) ∧
      (t.lanes.get l).mirror = x.mirror ∧ (t.lanes.get l).consumer = x.consumer ∧
      (t.lanes.get l).stopPending = x.stopPending ∧
      (f.onRetry = f → s.port.writes ++ [⟨s.slotWord l o.slot 5,
        slotStatusWord .inProgress { o.flags with retried := true } (o.retries + 1), .plain⟩] <+: t.port.writes) ∧
      (∃ fl : StickyFlags, fl.retried = true ∧
        ⟨s.slotWord l o.slot 5, slotStatusWord .inProgress fl (o.retries + 1), .plain⟩ ∈ t.port.writes) ∧
      (((t.lanes.get l).state = .settle ∧ p.settleTimer = 10 * f.settleLimit ∧ t.settleCondition l = false) ∨
        ((t.lanes.get l).state = .dwell ∧ p.settleTimer = 0 ∧ p.dwellTimer = f.dwell)) ∧
      ∀ m, m ≠ l → (t.lanes.get m).still = (s.lanes.get m).still := by
  intro x t
  obtain ⟨q, swapped⟩ := swapOnRetry_swapped s l (o := o.retried) hf
  have told : t = _ := retry_eq swapped.order
  have word : (s.swapOnRetry l o.retried f).slotWord l q.slot 5 = s.slotWord l o.slot 5 := by
    obtain ⟨slot, _⟩ := core_fields swapped.core
    rw [slot]
    exact congrArg (fun L : Layout => (L.rings.get l).base + 8 * o.slot + 5)
      (lay_of_lower (swapOnRetry_lower l o.retried f s))
  rw [word] at told
  generalize s.swapOnRetry l o.retried f = u at swapped told
  obtain ⟨slot, fields, retries, _⟩ := core_fields swapped.core
  have retried : q.flags.retried = true := swapped.flags StickyFlags.retried (by simp [stickyFlags]) rfl
  have order : ((u.offer (s.slotWord l o.slot 5) (slotStatusWord .inProgress q.flags q.retries)).lanes.get l).order = some q :=
    swapped.order
  have writes : (u.offer (s.slotWord l o.slot 5) (slotStatusWord .inProgress q.flags q.retries)).port.writes = u.port.writes ++
      [⟨s.slotWord l o.slot 5, slotStatusWord .inProgress q.flags q.retries, .plain⟩] := offer_writes _ _ _
  have grows : _ <+: t.port.writes := told ▸ enterSettle_writes order
  rw [writes] at grows
  obtain ⟨p, hp, core, flags, settled⟩ := enterSettle_settled order
  obtain ⟨pslot, pfields, pretries, pawaited, presults⟩ := core_fields core
  obtain ⟨mirror, consumer, stop, carried⟩ := enterSettle_indices order
  have others (m : LaneId) (hm : m ≠ l) := enterSettle_other order hm
  rw [← told] at hp settled mirror consumer stop carried others
  obtain ⟨qmirror, qconsumer, qstop⟩ := swapped.indices
  refine ⟨p, hp, pslot.trans slot, pfields.trans fields, pretries.trans retries,
    flags StickyFlags.retried (by simp [stickyFlags]) retried, pawaited, presults, carried.trans swapped.carried,
    mirror.trans qmirror, consumer.trans qconsumer, stop.trans qstop, fun same => ?_, ⟨q.flags, retried, ?_⟩, ?_,
    fun m hm => (others m hm).trans (swapped.others m hm)⟩
  · obtain ⟨rfl, rfl⟩ := swapped.same same
    exact grows
  · refine grows.subset (List.mem_append_right _ ?_)
    rw [retries]
    exact List.mem_singleton_self _
  · unfold State.Settled at settled
    rw [fields] at settled
    exact settled

theorem judgeCheck_eq (s : State) (l : LaneId) (o : ActiveOrder) (f : OrderFields) : s.judgeCheck l o f =
    if o.results.any SpotResult.isOpen then
      (s.setOrder l { o with flags := { o.flags with sensorOpen := true } }).endOrder l .checkFailed f.stopOnFail
    else if o.results.all (fun r => s.passes l f r) then s.endOrder l .done f.stopOnFail
    else if o.retries < f.retryLimit then s.retry l o f else s.endOrder l .checkFailed f.stopOnFail := rfl

theorem setOrder_setOrder (s : State) (l : LaneId) (o p : ActiveOrder) : (s.setOrder l o).setOrder l p = s.setOrder l p := by
  unfold State.setOrder State.setLane
  cases l <;> rfl

theorem endWrites_setOrder (s : State) (l : LaneId) (o p : ActiveOrder) (code : Completion) :
    (s.setOrder l p).endWrites l o code = s.endWrites l o code := by
  have lane : (s.setOrder l p).lanes.get l = { s.lanes.get l with order := some p } := PerLane.get_set_same _ _ _
  unfold State.endWrites
  rw [lane]
  rfl

/-- R22: an order put aside for another of its lane ends as that other does. -/
theorem setOrder_endOrder (s : State) (l : LaneId) (o : ActiveOrder) (code : Completion) (fails : Bool) :
    let t := (s.setOrder l o).endOrder l code fails
    s.port.writes ++ s.endWrites l o code <+: t.port.writes ∧
      (∀ m, m ≠ l → (t.lanes.get m).still = (s.lanes.get m).still) ∧
      t.lanes.get l = (s.lanes.get l).afterEnd (s.ringSize l) (s.lay.rest.get l)
        (stopsAfter (s.lanes.get l).stopPending fails code) := by
  have lane : (s.setOrder l o).lanes.get l = { s.lanes.get l with order := some o } := PerLane.get_set_same _ _ _
  have order : ((s.setOrder l o).lanes.get l).order = some o := by rw [lane]
  refine ⟨endWrites_setOrder s l o o code ▸ endOrder_writes order code fails, fun m hm => ?_, ?_⟩
  · exact (endOrder_other order code fails hm).trans (congrArg Lane.still (PerLane.get_set_other _ _ hm))
  · rw [endOrder_lane order, lane]
    rfl

/-- R20: how the last result awaited judges a check. -/
theorem deliverLane_judges (s : State) (l : LaneId) (o : ActiveOrder) (f : OrderFields) (r : SpotResult)
    (check : (s.lanes.get l).state = .check) (ho : (s.lanes.get l).order = some o) (hf : o.fields = some f)
    (awaits : r.channel ∈ o.awaited) :
    let o1 := o.received r
    let t := s.deliverLane l r
    let unread := ∃ q ∈ o1.results, q.isOpen = true
    let passed := ∀ q ∈ o1.results,
      (q.channel = l.channel → q.value ≤ f.target + f.tolerance ∧ f.target ≤ q.value + f.tolerance) ∧
      (q.channel ≠ l.channel → s.spotClass q.channel q.value = .ok)
    (o1.awaited ≠ [] ∧ t = s.setOrder l o1) ∨
    (o1.awaited = [] ∧
      ((unread ∧ t = (s.setOrder l { o1 with flags := { o1.flags with sensorOpen := true } }).endOrder l .checkFailed
          f.stopOnFail) ∨
        (¬ unread ∧ passed ∧ t = (s.setOrder l o1).endOrder l .done f.stopOnFail) ∨
        (¬ unread ∧ ¬ passed ∧ f.retryLimit ≤ o.retries ∧ t = (s.setOrder l o1).endOrder l .checkFailed f.stopOnFail) ∨
        (¬ unread ∧ ¬ passed ∧ o.retries < f.retryLimit ∧ t = (s.setOrder l o1).retry l o1 f))) := by
  intro o1 t unread passed
  have judged : t = _ := deliverLane_eq check ho hf awaits
  have unreadTest : o1.results.any SpotResult.isOpen = true ↔ unread := List.any_eq_true
  have passedTest : o1.results.all (fun r => (s.setOrder l o1).passes l f r) = true ↔ passed :=
    List.all_eq_true.trans (forall₂_congr fun q _ => passes_iff)
  by_cases empty : o1.awaited = []
  · refine .inr ⟨empty, ?_⟩
    rw [if_pos (List.isEmpty_iff.2 empty), judgeCheck_eq, setOrder_setOrder] at judged
    by_cases opened : unread
    · exact .inl ⟨opened, judged.trans (if_pos (unreadTest.2 opened))⟩
    · rw [if_neg fun h => opened (unreadTest.1 h)] at judged
      by_cases good : passed
      · exact .inr (.inl ⟨opened, good, judged.trans (if_pos (passedTest.2 good))⟩)
      · rw [if_neg fun h => good (passedTest.1 h)] at judged
        by_cases retries : o.retries < f.retryLimit
        · exact .inr (.inr (.inr ⟨opened, good, retries, judged.trans (if_pos retries)⟩))
        · exact .inr (.inr (.inl ⟨opened, good, Nat.le_of_not_lt retries, judged.trans (if_neg retries)⟩))
  · exact .inl ⟨empty, judged.trans (if_neg fun h => empty (List.isEmpty_iff.1 h))⟩

/-- Settles O23: the dwell's end and the judgement of the check, branch by branch. -/
theorem dwellExpiryEndsOrChecks : Obligations.DwellExpiryEndsOrChecks := by
  refine ⟨dwellExpires_ends_or_checks, fun s l o f r running check ho hf awaits => ?_⟩
  intro x o1 t unread passed ended
  have lower : t.lower = s.lower := deliverLane_lower l r s
  have judged := deliverLane_judges s l o f r check ho hf awaits
  have ends {o2 : ActiveOrder} {code : Completion} {fails : Bool}
      (same : t = (s.setOrder l o2).endOrder l code fails) := same ▸ setOrder_endOrder s l o2 code fails
  obtain ⟨more, same⟩ | ⟨none, ⟨h1, same⟩ | ⟨h1, h2, same⟩ | ⟨h1, h2, h3, same⟩ | ⟨h1, h2, h3, same⟩⟩ := judged
  · have others (m : LaneId) (hm : m ≠ l) : (t.lanes.get m).still = (s.lanes.get m).still := by
      rw [show t = s.setOrder l o1 from same]
      exact congrArg Lane.still (PerLane.get_set_other _ _ hm)
    exact ⟨lower, others, fun _ => same, fun none => absurd none more⟩
  · obtain ⟨writes, others, lane⟩ := ends same
    rw [stopsAfter_checkFailed] at lane
    exact ⟨lower, others, fun more => absurd none more, fun _ => ⟨fun _ => ⟨writes, lane⟩, fun no => absurd h1 no,
      fun no => absurd h1 no, fun no => absurd h1 no⟩⟩
  · obtain ⟨writes, others, lane⟩ := ends same
    rw [stopsAfter_done, ← Bool.or_false (s.lanes.get l).stopPending] at lane
    exact ⟨lower, others, fun more => absurd none more, fun _ => ⟨fun yes => absurd yes h1, fun _ _ => ⟨writes, lane⟩,
      fun _ no => absurd h2 no, fun _ no => absurd h2 no⟩⟩
  · obtain ⟨writes, others, lane⟩ := ends same
    rw [stopsAfter_checkFailed] at lane
    exact ⟨lower, others, fun more => absurd none more, fun _ => ⟨fun yes => absurd yes h1, fun _ yes => absurd yes h2,
      fun _ _ _ => ⟨writes, lane⟩, fun _ _ few => absurd few (Nat.not_lt.2 h3)⟩⟩
  · obtain ⟨p, order, slot, fields, retries, retried, awaited, results, carried, mirror, consumer, stop, same', told, settled,
      others⟩ := retry_retries (s := s.setOrder l o1) (l := l) (o := o1) (f := f) hf
    have put : (s.setOrder l o1).lanes.get l = { x with order := some o1 } := PerLane.get_set_same _ _ _
    rw [put] at carried mirror consumer stop
    rw [show (s.setOrder l o1).retry l o1 f = t from same.symm] at order carried mirror consumer stop same' told settled others
    refine ⟨lower, fun m hm => (others m hm).trans (congrArg Lane.still (PerLane.get_set_other _ _ hm)),
      fun more => absurd none more, fun _ => ⟨fun yes => absurd yes h1, fun _ yes => absurd yes h2,
        fun _ _ many => absurd h3 (Nat.not_lt.2 many), fun _ _ _ => ?_⟩⟩
    exact ⟨p, order, slot, fields, retries, retried, awaited, results, carried, mirror, consumer, stop, same', told, settled⟩

end Sys2Proof.Machine
end

section
/-! PROOFS. Scans begun and stopped (R96, R101, R102), the purge button (R127) and the tach (R144, R145). -/

namespace Sys2Proof.Machine

/-! ### Scans (R96, R101, R102) -/

theorem commandScanStart_spot {s : State} (h : s.scanner.state = .spot) :
    s.commandScanStart = s.setScanner { s.scanner with resume := .restart } := by
  unfold State.commandScanStart
  rw [h]

theorem commandScanStart_outside {s : State} (h : s.scanner.state ≠ .spot) : s.commandScanStart = s.beginPass := by
  unfold State.commandScanStart
  split
  case h_4 spot => exact absurd spot h
  all_goals rfl

theorem commandScanStop_scans {s : State} (h : s.scanner.state = .scanning ∨ s.scanner.state = .waiting) :
    s.commandScanStop = s.stopScan := by
  unfold State.commandScanStop
  obtain h | h := h <;> rw [h]

theorem commandScanStop_spot {s : State} (h : s.scanner.state = .spot) :
    s.commandScanStop = s.setScanner { s.scanner with resume := .absent, passStart := none } := by
  unfold State.commandScanStop
  rw [h]

theorem commandScanStop_stopped {s : State} (h : s.scanner.state = .stopped) : s.commandScanStop = s := by
  unfold State.commandScanStop
  rw [h]

/-- Settles O29: the two service commands are taken, and each acts by the scanner's state. -/
theorem scanBegunAndStopped : Obligations.ScanBegunAndStopped := by
  refine fun s => ⟨fun running waiting elapsed => ?_, fun running => ?_⟩
  · exact congrArg Host.Outcome.next (if_pos ⟨running, scanPeriodDue_iff.2 ⟨waiting, elapsed⟩⟩)
  have starts := service_taken (s := s) (code := 2) running (by decide) rfl
  have stops := service_taken (s := s) (code := 3) running (by decide) rfl
  rw [show exec .scanStart s = _ from starts, show exec .scanStop s = _ from stops]
  generalize s.atGrant = g
  intro g started stopped
  have put (t u : State) (h : t = u) : (.next (t.offer 0x40 0) : Host.Outcome State Fault Refusal) = .next (u.offer 0x40 0) :=
    congrArg (fun x => Host.Outcome.next (State.offer x 0x40 0)) h
  exact ⟨fun h => put _ _ (commandScanStart_outside (s := started) h), fun h => put _ _ (commandScanStart_spot (s := started) h),
    fun h => put _ _ (commandScanStop_scans (s := stopped) h), fun h => put _ _ (commandScanStop_spot (s := stopped) h),
    fun h => put _ _ (commandScanStop_stopped (s := stopped) h)⟩

/-! ### The tach (R144, R145) -/

/-- R145: the watch judged by whether the blower is driven and slow. -/
def Watch.judged (w : Watch) (slow : Bool) (deadline : Nat) : Watch :=
  match w with
  | .idle => if slow then .timing deadline else .idle
  | .timing d => if slow then .timing d else .idle
  | .spent => .spent

theorem rejudgeWatch_eq (s : State) :
    s.rejudgeWatch = s.setHeat { s.heat with watch := s.heat.watch.judged s.watchCondition (s.now + 5000) } := by
  have same {w : Watch} (h : s.heat.watch = w) : s = s.setHeat { s.heat with watch := w } := by rw [← h]; rfl
  unfold State.rejudgeWatch
  cases hw : s.heat.watch <;> cases hc : s.watchCondition
  case idle.true => rfl
  case timing.false => rfl
  all_goals exact same hw

/-- R144: the image of a new speed. -/
def State.speedImages (s : State) (v : Nat) : List ImageEntry :=
  if v = s.heat.speed then s.port.images else putImageEntry s.port.images (s.lay.statusBase + 24) (w16 v)

/-- R144, R145: the watch after a new speed. -/
def State.watchAt (s : State) (v : Nat) : Watch :=
  if v = s.heat.speed then s.heat.watch
  else s.heat.watch.judged (decide (20 ≤ s.heat.blower) && decide (v < 10 * s.lay.stallSpeed)) (s.now + 5000)

theorem setSpeed_eq (s : State) (v : Nat) : s.setSpeed v =
    { s with heat := { s.heat with speed := v, watch := s.watchAt v }, port := { s.port with images := s.speedImages v } } := by
  unfold State.setSpeed State.watchAt State.speedImages
  by_cases h : v = s.heat.speed
  · rw [if_pos h, if_pos h, if_pos h, h]
  · rw [if_neg h, if_neg h, if_neg h, rejudgeWatch_eq]
    rfl

/-- Settles O41: a pulse and the timeout set the speed, and only the speed's change judges the watch. -/
theorem tachMeasuresBlowerSpeed : Obligations.TachMeasuresBlowerSpeed := by
  intro s running judged
  have sets (v : Nat) (last : Option Nat) : judged ((s.setHeat { s.heat with lastPulse := last }).setSpeed v) := by
    rw [setSpeed_eq]
    have watch : (s.setHeat { s.heat with lastPulse := last }).watchAt v = s.watchAt v := rfl
    refine ⟨fun spent => ?_, fun same => ?_, fun other idle => ?_, fun n other timing => ?_,
      rfl, rfl, rfl, rfl, rfl, rfl, rfl, rfl⟩
    · show s.watchAt v = .spent
      unfold State.watchAt
      rw [spent]
      exact ite_self _
    · exact if_pos same
    · show s.watchAt v = if 20 ≤ s.heat.blower ∧ v < 10 * s.lay.stallSpeed then .timing (s.now + 5000) else .idle
      unfold State.watchAt
      rw [if_neg (show ¬ v = s.heat.speed from other), idle]
      simp only [Watch.judged, Bool.and_eq_true, decide_eq_true_iff]
    · show s.watchAt v = if 20 ≤ s.heat.blower ∧ v < 10 * s.lay.stallSpeed then .timing n else .idle
      unfold State.watchAt
      rw [if_neg (show ¬ v = s.heat.speed from other), timing]
      simp only [Watch.judged, Bool.and_eq_true, decide_eq_true_iff]
  have pulses : exec .tachPulse s = .next s.tachPulse := congrArg Host.Outcome.next (if_pos running)
  refine ⟨fun p last => ?_, fun none => ?_, fun p last elapsed => ?_⟩
  · have pulse : s.tachPulse = (s.setHeat { s.heat with lastPulse := some s.now }).setSpeed
        (min (30000 / max (s.now - p) 1) 65535) := by
      unfold State.tachPulse
      rw [last]
    rw [pulse] at pulses
    refine ⟨_, pulses, sets _ _, ?_, ?_⟩
    · rw [setSpeed_eq]
    · rw [setSpeed_eq]; rfl
  · have pulse : s.tachPulse = s.setHeat { s.heat with lastPulse := some s.now } := by
      unfold State.tachPulse
      rw [none]
    rw [pulse] at pulses
    exact ⟨_, pulses, ⟨id, fun _ => rfl, fun other => absurd rfl other, fun _ other => absurd rfl other,
      rfl, rfl, rfl, rfl, rfl, rfl, rfl, rfl⟩, rfl, rfl⟩
  · have due : s.tachDue = true := tachDue_iff.2 ⟨p, last, elapsed⟩
    refine ⟨_, congrArg Host.Outcome.next (if_pos ⟨running, due⟩), sets 0 .none, ?_, ?_⟩
    · rw [setSpeed_eq]
    · rw [setSpeed_eq]; rfl

/-! ### The purge button (R127) -/

theorem purgeTrigger_run {s : State} (run : s.purge.state = .run) (c : PurgeCause) : s.purgeTrigger c =
    s.purgeKeep { s.purge with cause := some c, extensions := 0, remaining := some (10 * s.lay.purgeTime) } := by
  unfold State.purgeTrigger
  dsimp only
  rw [run]

theorem flow_cause (s : State) (run scrub : Nat) (p : Purge) : (s.flow run scrub p).cause = p.cause := by
  unfold State.flow
  split <;> rfl

/-- R74 to R77: a trigger leaves a purge of its cause. -/
theorem purgeTrigger_active (s : State) (c : PurgeCause) :
    (s.purgeTrigger c).purge.cause = some c ∧ (s.purgeTrigger c).purge.state ≠ .idle := by
  unfold State.purgeTrigger
  dsimp only
  split
  case h_1 =>
    rw [purgeGo_purge]
    split
    · exact ⟨rfl, nofun⟩
    · exact ⟨flow_cause _ _ _ _, flow_ne_idle _ _ _ _⟩
  case h_2 wait =>
    rw [purgeKeep_purge]
    exact ⟨rfl, fun idle => nomatch wait.symm.trans idle⟩
  case h_3 run =>
    rw [purgeKeep_purge]
    exact ⟨rfl, fun idle => nomatch run.symm.trans idle⟩
  case h_4 scrub =>
    rw [purgeKeep_purge]
    exact ⟨rfl, fun idle => nomatch scrub.symm.trans idle⟩
  case h_5 =>
    rw [purgeGo_purge]
    exact ⟨flow_cause _ _ _ _, flow_ne_idle _ _ _ _⟩

/-- Settles O37: the press is timed from its accepted level, and the press timer's expiry is a trigger. -/
theorem buttonPressTimedAndReleased : Obligations.ButtonPressTimedAndReleased := by
  refine ⟨fun s running due => ?_, fun s running due => ?_⟩
  · intro u ended
    have accepts : exec (.debounceTimerExpiry .purgeButton) s = .next (s.acceptLevel .purgeButton) :=
      congrArg Host.Outcome.next (if_pos ⟨running, due⟩)
    have told : s.acceptLevel .purgeButton = u.buttonChanges (s.switch .purgeButton).raw := rfl
    rw [accepts, told]
    refine ⟨fun pressed => ?_, fun released long => ?_, fun released short => ?_⟩
    · rw [pressed]
      rfl
    · rw [released]
      exact congrArg Host.Outcome.next (if_pos long)
    · rw [released]
      exact congrArg Host.Outcome.next (if_neg (Bool.eq_false_iff.1 short))
  · have expires : exec .pressTimerExpiry s = .next s.pressExpires := congrArg Host.Outcome.next (if_pos ⟨running, due⟩)
    have base := purgeTrigger_base .button
      ({ s with switches := { s.switches with pressDeadline := none, longPressed := true } } : State)
    obtain ⟨cause, state⟩ := purgeTrigger_active
      ({ s with switches := { s.switches with pressDeadline := none, longPressed := true } } : State) .button
    refine ⟨_, expires, switches_of_base base, pressExpires_base s, cause, state, fun run => ?_⟩
    have kept := purgeTrigger_run
      (s := ({ s with switches := { s.switches with pressDeadline := none, longPressed := true } } : State)) run .button
    exact (congrArg State.purge kept).trans (purgeKeep_purge _ _)

end Sys2Proof.Machine
end

section
/-! PROOFS. The layout block judged by the seven tests of R169. -/

namespace Sys2Proof.Machine

/-! ### The tests one by one (R169) -/

theorem forall_lane {p : LaneId → Prop} : (∀ l, p l) ↔ p .front ∧ p .crew ∧ p .screen :=
  ⟨fun h => ⟨h .front, h .crew, h .screen⟩, fun ⟨front, crew, screen⟩ l => by cases l <;> assumption⟩

theorem sumOf_toNat (ws : List RamWord) (n : Word) :
    (ws.foldl (fun n w => n + w.data) n).toNat = (n.toNat + (ws.map (fun w => w.data.toNat)).sum) % 65536 := by
  induction ws generalizing n with
  | nil => exact (Nat.mod_eq_of_lt n.isLt).symm
  | cons w ws ih =>
    rw [List.foldl_cons, ih, BitVec.toNat_add, List.map_cons, List.sum_cons]
    omega

theorem sumOf_iff (ws : List RamWord) : sumOf ws = 0 ↔ (ws.map (fun w => w.data.toNat)).sum % 65536 = 0 := by
  rw [← BitVec.toNat_inj, sumOf, sumOf_toNat]
  simp

theorem regionsApart_iff (rs : List Region) :
    regionsApart rs = true ↔ rs.Pairwise (fun a b => a.1 + a.2 ≤ b.1 ∨ b.1 + b.2 ≤ a.1) := by
  induction rs with
  | nil => simp [regionsApart]
  | cons r rs ih => simp only [regionsApart, Bool.and_eq_true, List.all_eq_true, apart_iff, ih, List.pairwise_cons]

/-- R169, test 4. -/
theorem regionsOk_iff (L : Layout) : L.regionsOk = true ↔ (4 ≤ L.memoryUnits ∧ L.memoryUnits ≤ 64) ∧
    (∀ l, (L.rings.get l).size = 0 ∨ (4 ≤ (L.rings.get l).size ∧ (L.rings.get l).size ≤ 64)) ∧
    (8 ≤ L.eventSize ∧ L.eventSize ≤ 256) ∧
    (∀ r ∈ L.regions, 0x4F < r.1 ∧ r.1 + r.2 ≤ L.memoryUnits * 1024) ∧
    L.regions.Pairwise (fun a b => a.1 + a.2 ≤ b.1 ∨ b.1 + b.2 ≤ a.1) := by
  simp only [Layout.regionsOk, Bool.and_eq_true, Bool.or_eq_true, beq_iff_eq, within_iff, List.all_eq_true,
    decide_eq_true_iff, regionsApart_iff, forall_lane, PerLane.get, and_assoc]

/-- R169, test 5: the settings with a range of their own, and their ranges. -/
def Layout.ranges (L : Layout) : List (Nat × Nat × Nat) :=
  [(1, L.scanPeriod, 50), (10, L.doorDebounce, 250), (10, L.buttonDebounce, 250), (100, L.engineDebounce, 2000),
   (1, L.longPress, 10), (5, L.exposureThreshold, 300), (10, L.purgeTime, 600), (10, L.extensionTime, 300),
   (0, L.extensionLimit, 3), (10, L.scrubTime, 600), (0, L.purgeBlower, 100), (0, L.curtainBlower, 100),
   (0, L.idleBlower, 100), (0, L.engineOffCap, 100), (0, L.purgeRelief, 100), (1, L.reliefStep, 25),
   (0, L.dpSetpoint, 4095), (0, L.dpBand, 2047), (1, L.holdDown, 600), (0, L.rest.front, 100), (0, L.rest.crew, 100),
   (0, L.rest.screen, 100), (0, L.minFresh, 100), (1, L.heatGain, 64), (0, L.coolantLevel, 4095), (1, L.voltA, 4095),
   (0, L.voltB, 4094), (5, L.restoreTime, 120), (1, L.stageInterval, 30), (1, L.stageStep, 255),
   (1, L.motionGrants, 4), (30, L.stallSpeed, 300)]

theorem rangesOk_iff (L : Layout) : L.rangesOk = true ↔ (∀ r ∈ L.ranges, r.1 ≤ r.2.1 ∧ r.2.1 ≤ r.2.2) ∧
    (∀ d, 20 ≤ L.travel.get d ∧ L.travel.get d ≤ 600) ∧ L.voltB < L.voltA := by
  have all (d : Fin 8) : d ∈ allDampers := by revert d; decide
  have travel : allDampers.all (fun d => within 20 (L.travel.get d) 600) = true ↔
      ∀ d, 20 ≤ L.travel.get d ∧ L.travel.get d ≤ 600 := by
    simp only [List.all_eq_true, within_iff]
    exact ⟨fun h d => h d (all d), fun h d _ => h d⟩
  unfold Layout.rangesOk
  simp only [Bool.and_eq_true, decide_eq_true_iff, travel, within_iff]
  generalize (∀ d, 20 ≤ L.travel.get d ∧ L.travel.get d ≤ 600) = times
  simp only [Layout.ranges, List.forall_mem_cons, List.not_mem_nil, false_imp_iff, implies_true, and_true]
  constructor
  · intro h
    simp only [h, and_self]
  · intro h
    simp only [h, and_self]

theorem ofCode_default (n : Nat) (h : n < 4) :
    (SourceReq.ofCode n = .recirc ∨ SourceReq.ofCode n = .freshAny) ↔ n = 0 ∨ n = 3 := by
  unfold SourceReq.ofCode
  split
  · simp [*]
  · split
    · simp [*]
    · split
      · simp [*]
      · have three : n = 3 := by omega
        simp [three]

theorem layoutCodesOk_iff (ws : List RamWord) : layoutCodesOk ws = true ↔ (∀ c, c < 16 → methodCodeAt ws c < 3) ∧
    ((parseLayout ws).defaultSource = .recirc ∨ (parseLayout ws).defaultSource = .freshAny) := by
  rw [show (parseLayout ws).defaultSource = .ofCode (fieldAt ws 34 0 2) from rfl, ofCode_default (fieldAt ws 34 0 2) (field_lt _ 0 2)]
  simp only [layoutCodesOk, Bool.and_eq_true, Bool.or_eq_true, List.all_eq_true, List.mem_range, decide_eq_true_iff, beq_iff_eq]

theorem scanListOk_iff (L : Layout) : L.scanListOk = true ↔
    1 ≤ L.scanLength ∧ L.scanLength ≤ 16 ∧ (L.scanList.toList.take L.scanLength).Nodup := by
  rw [Layout.scanListOk, Bool.and_eq_true, within_iff, and_assoc]
  exact and_congr_right fun _ => and_congr_right fun _ => decide_eq_true_iff

theorem ranksOk_iff (L : Layout) : L.ranksOk = true ↔ (∀ l, 1 ≤ L.ranks.get l ∧ L.ranks.get l ≤ 3) ∧
    L.ranks.front ≠ L.ranks.crew ∧ L.ranks.front ≠ L.ranks.screen ∧ L.ranks.crew ≠ L.ranks.screen := by
  simp only [Layout.ranksOk, List.all_cons, List.all_nil, Bool.and_eq_true, Bool.or_eq_true, beq_iff_eq, forall_lane, PerLane.get,
    and_true]
  constructor
  · intro h
    omega
  · intro h
    omega

/-! ### The first test that fails decides (R169) -/

/-- R169: the reasons of the seven tests, by the first that fails. -/
theorem firstFailure_iff {p v s g r c k : Prop} [Decidable p] [Decidable v] [Decidable s] [Decidable g] [Decidable r]
    [Decidable c] [Decidable k] {f : Option FaultReason}
    (h : f = if ¬ p then some .parity else if ¬ v then some .version else if ¬ s then some .sum else if ¬ g then some .region
      else if ¬ r then some .range else if ¬ c then some .scanList else if ¬ k then some .ranks else none) :
    (f = none ↔ p ∧ v ∧ s ∧ g ∧ r ∧ c ∧ k) ∧ (f = some .parity ↔ ¬ p) ∧ (f = some .version ↔ p ∧ ¬ v) ∧
    (f = some .sum ↔ p ∧ v ∧ ¬ s) ∧ (f = some .region ↔ p ∧ v ∧ s ∧ ¬ g) ∧ (f = some .range ↔ p ∧ v ∧ s ∧ g ∧ ¬ r) ∧
    (f = some .scanList ↔ p ∧ v ∧ s ∧ g ∧ r ∧ ¬ c) ∧ (f = some .ranks ↔ p ∧ v ∧ s ∧ g ∧ r ∧ c ∧ ¬ k) := by
  by_cases hp : p
  · by_cases hv : v
    · by_cases hs : s
      · by_cases hg : g
        · by_cases hr : r
          · by_cases hc : c
            · by_cases hk : k <;> simp [h, hp, hv, hs, hg, hr, hc, hk]
            · simp [h, hp, hv, hs, hg, hr, hc]
          · simp [h, hp, hv, hs, hg, hr]
        · simp [h, hp, hv, hs, hg]
      · simp [h, hp, hv, hs]
    · simp [h, hp, hv]
  · simp [h, hp]

open Classical in
/-- Settles O7: each test says what 13.1 and R169 ask of it, and the first that fails decides. -/
theorem layoutAcceptedExactlyByItsTests : Obligations.LayoutAcceptedExactlyByItsTests := by
  intro ws L parity version sum region ranges range scan ranks
  have parityTest : ws.all RamWord.parityOk = true ↔ parity := by simp only [List.all_eq_true, parityOk_iff, parity]
  have rangeTest : (L.rangesOk && layoutCodesOk ws) = true ↔ range := by
    rw [Bool.and_eq_true, rangesOk_iff, layoutCodesOk_iff]
    exact ⟨fun ⟨⟨a, b, c⟩, d, e⟩ => ⟨a, b, c, d, e⟩, fun ⟨a, b, c, d, e⟩ => ⟨⟨a, b, c⟩, d, e⟩⟩
  refine firstFailure_iff (if_congr ?_ rfl <| if_congr Iff.rfl rfl <| if_congr (not_congr (sumOf_iff ws)) rfl <|
    if_congr ?_ rfl <| if_congr ?_ rfl <| if_congr ?_ rfl <| if_congr ?_ rfl rfl)
  · rw [← parityTest, Bool.not_eq_true', Bool.not_eq_true]
  · rw [show region ↔ L.regionsOk = true from (regionsOk_iff L).symm, Bool.not_eq_true', Bool.not_eq_true]
  · rw [← rangeTest, Bool.not_eq_true', Bool.not_eq_true]
  · rw [show scan ↔ L.scanListOk = true from (scanListOk_iff L).symm, Bool.not_eq_true', Bool.not_eq_true]
  · rw [show ranks ↔ L.ranksOk = true from (ranksOk_iff L).symm, Bool.not_eq_true', Bool.not_eq_true]

end Sys2Proof.Machine
end

section
/-! PROOFS. The end of the threshold read (R110, R170): the entries judged and the 142 initial writes offered. -/

namespace Sys2Proof.Machine

/-! ### Several writes offered in turn (R162) -/

/-- R162: the entries of writes offered in turn. -/
def plainEntries (ws : List (Nat × Word)) : List RecordEntry := ws.map (fun w => ⟨w.1, w.2, .plain⟩)

theorem offers_writes (ws : List (Nat × Word)) (s : State) :
    (s.each ws (fun w t => t.offer w.1 w.2)).port.writes = s.port.writes ++ plainEntries ws := by
  induction ws generalizing s with
  | nil => exact (List.append_nil _).symm
  | cons w ws ih =>
    rw [show s.each (w :: ws) (fun w t => t.offer w.1 w.2) = (s.offer w.1 w.2).each ws (fun w t => t.offer w.1 w.2) from rfl,
      ih, offer_writes, List.append_assoc]
    rfl

/-- R162: what a queued write leaves of the port. -/
def Port.besideWrites (p : Port) : Memory × List ImageEntry × List ReadRequest := (p.ram, p.images, p.reads)

/-- R162: a state but for its port. -/
def State.setPort (s : State) (p : Port) : State := { s with port := p }

theorem offerAs_besideWrites (s : State) (r : EntryRole) (a : Nat) (d : Word) :
    (s.offerAs r a d).port.besideWrites = s.port.besideWrites := by
  unfold State.offerAs Port.besideWrites
  rw [Port.offer_eq]

theorem offers_besideWrites (ws : List (Nat × Word)) (s : State) :
    (s.each ws (fun w t => t.offer w.1 w.2)).port.besideWrites = s.port.besideWrites :=
  each_leaves (fun t => t.port.besideWrites) (fun (w : Nat × Word) t => t.offer w.1 w.2)
    (fun w t => offerAs_besideWrites t .plain w.1 w.2) ws s

theorem offers_setPort (ws : List (Nat × Word)) (s : State) (p : Port) :
    (s.each ws (fun w t => t.offer w.1 w.2)).setPort p = s.setPort p :=
  each_leaves (fun t => t.setPort p) (fun w t => t.offer w.1 w.2) (fun _ _ => rfl) ws s

/-! ### The initial writes (R170) -/

theorem blockFrom_addresses (base : Nat) (ws : List Word) :
    (blockFrom base ws).map Prod.fst = (List.range ws.length).map (fun i => base + i) := by
  induction ws generalizing base with
  | nil => rfl
  | cons w ws ih =>
    rw [blockFrom, List.map_cons, ih, List.length_cons, List.range_succ_eq_map, List.map_cons, List.map_map]
    simp [Function.comp_def, Nat.add_assoc, Nat.add_comm 1]

theorem blockFrom_words (base : Nat) (ws : List Word) : (blockFrom base ws).map Prod.snd = ws := by
  induction ws generalizing base with
  | nil => rfl
  | cons w ws ih => rw [blockFrom, List.map_cons, ih]

theorem startStatus_words (L : Layout) : L.startStatus = List.replicate 9 3 ++
    [0, 0, 100, 0, 0, 0, w16 L.rest.front, w16 L.rest.crew, w16 L.rest.screen, 0, 5, 0] ++ [0, 0, 0, 0] ++
      List.replicate 8 511 ++ List.replicate 63 0 := by
  rfl

theorem startStatus_length (L : Layout) : L.startStatus.length = 96 := rfl

/-- R170: the addresses of the initial writes. -/
def Layout.initialAddresses (L : Layout) : List Nat :=
  (List.range 12).map (fun i => L.laneBase + i) ++ [L.eventBase, L.eventBase + 1] ++
    (List.range 32).map (fun i => L.senseBase + i) ++ (List.range 96).map (fun i => L.statusBase + i)

theorem initialWrites_addresses (L : Layout) :
    L.initialWrites.map Prod.fst ++ [L.statusBase + 95] = L.initialAddresses := by
  have status : (List.range 96).map (fun i => L.statusBase + i) =
      (List.range 95).map (fun i => L.statusBase + i) ++ [L.statusBase + 95] := by
    rw [List.range_succ, List.map_append]
    rfl
  unfold Layout.initialAddresses Layout.initialWrites
  rw [status, List.map_append, List.map_append, List.map_append, blockFrom_addresses, blockFrom_addresses,
    blockFrom_addresses, blockFrom_addresses, List.length_take, startStatus_length, List.length_replicate,
    List.length_replicate]
  simp [List.range_succ]

theorem initialWrites_words (L : Layout) : L.initialWrites.map Prod.snd ++ [0] =
    List.replicate 46 0 ++ List.replicate 9 3 ++
      [0, 0, 100, 0, 0, 0, w16 L.rest.front, w16 L.rest.crew, w16 L.rest.screen, 0, 5, 0] ++ [0, 0, 0, 0] ++
      List.replicate 8 511 ++ List.replicate 63 0 := by
  unfold Layout.initialWrites
  rw [List.map_append, List.map_append, List.map_append, blockFrom_words, blockFrom_words, blockFrom_words, blockFrom_words]
  rfl

theorem initialWrites_length (L : Layout) : L.initialWrites.length = 141 := by
  have lengths := congrArg List.length (initialWrites_words L)
  simp only [List.length_append, List.length_map, List.length_replicate, List.length_cons, List.length_nil] at lengths
  omega

/-- R170: the entries of the initial writes. -/
def Layout.initialEntries (L : Layout) : List RecordEntry :=
  plainEntries L.initialWrites ++ [⟨L.statusBase + 95, 0, .lastInitial⟩]

theorem initialEntries_roles (L : Layout) :
    L.initialEntries.map RecordEntry.role = List.replicate 141 .plain ++ [.lastInitial] := by
  rw [Layout.initialEntries, List.map_append, plainEntries, List.map_map, ← initialWrites_length L]
  exact congrArg (· ++ [EntryRole.lastInitial]) List.map_const'

theorem offerInitial_writes (s : State) : s.offerInitial.port.writes = s.port.writes ++ s.lay.initialEntries := by
  unfold State.offerInitial
  rw [offerAs_writes, offers_writes, List.append_assoc]
  rfl

theorem offerInitial_besideWrites (s : State) : s.offerInitial.port.besideWrites = s.port.besideWrites :=
  (offerAs_besideWrites _ _ _ _).trans (offers_besideWrites _ s)

theorem setPort_self (s : State) : s.setPort s.port = s := rfl

theorem offerAs_setPort (s : State) (r : EntryRole) (a : Nat) (d : Word) (p : Port) : (s.offerAs r a d).setPort p = s.setPort p :=
  rfl

theorem offerInitial_setPort (s : State) (p : Port) : s.offerInitial.setPort p = s.setPort p := by
  rw [State.offerInitial, offerAs_setPort, offers_setPort]

/-! ### The end of the threshold read (R110) -/

/-- R110: the state that the initial writes are offered in, but for its port. -/
def State.entriesJudged (s : State) (p : Port) : State :=
  { s with grader := startGrader s.loader.words, loader := ⟨.writes, []⟩, port := p }

theorem startGrader_grading (ws : List RamWord) (c : Fin 6) :
    (startGrader ws).channels.get c = Grading.reset.judged (entryCopy ws c.val) := by
  match c with
  | 0 | 1 | 2 | 3 | 4 | 5 => rfl

/-- R110, R170: the end of the threshold read, by the port that it leaves. -/
theorem finishThresholdRead_ends {s : State} (due : s.loaderReturned .thresholds 24 = true) : ∃ p,
    exec .thresholdReadComplete s = .next (s.entriesJudged p) ∧ p.writes = s.port.writes ++ s.lay.initialEntries ∧
      p.besideWrites = s.port.besideWrites := by
  have rest := offerInitial_setPort (s.entriesJudged s.port) (s.entriesJudged s.port).offerInitial.port
  rw [setPort_self] at rest
  have writes := offerInitial_writes (s.entriesJudged s.port)
  have beside := offerInitial_besideWrites (s.entriesJudged s.port)
  have ends : exec .thresholdReadComplete s = .next (s.entriesJudged s.port).offerInitial :=
    congrArg Host.Outcome.next (if_pos due)
  exact ⟨_, ends.trans (congrArg Host.Outcome.next rest), writes, beside⟩

theorem initialEntries_addresses (L : Layout) : L.initialEntries.map RecordEntry.addr = L.initialAddresses := by
  rw [← initialWrites_addresses, Layout.initialEntries, List.map_append, plainEntries, List.map_map]
  rfl

theorem initialEntries_words (L : Layout) : L.initialEntries.map RecordEntry.data = L.initialWrites.map Prod.snd ++ [0] := by
  rw [Layout.initialEntries, List.map_append, plainEntries, List.map_map]
  rfl

theorem initialEntries_length (L : Layout) : L.initialEntries.length = 142 := by
  rw [Layout.initialEntries, List.length_append, plainEntries, List.length_map, initialWrites_length]
  rfl

/-- Settles O8: what stands beside the port is judged, and the port takes the initial writes. -/
theorem thresholdReadOffersInitialWrites : Obligations.ThresholdReadOffersInitialWrites := by
  intro s L loading phase returned layout
  have due : s.loaderReturned .thresholds 24 = true := by simp [State.loaderReturned, loading, phase, returned]
  have lay : s.lay = L := by rw [State.lay, layout, Option.getD_some]
  obtain ⟨p, ends, writes, beside⟩ := finishThresholdRead_ends due
  rw [lay] at writes
  rw [ends]
  exact ⟨_, L.initialEntries, rfl, loading, rfl, layout, rfl, startGrader_grading s.loader.words, writes,
    initialEntries_length L, initialEntries_addresses L, (initialEntries_words L).trans (initialWrites_words L),
    initialEntries_roles L, congrArg (fun q => q.1) beside, congrArg (fun q => q.2.1) beside,
    congrArg (fun q => q.2.2) beside⟩

end Sys2Proof.Machine
end

section
/-! PROOFS. What a change of the purge and a notice of the Hold Table leave (R54 to R61, R71, R75): the purge, the records,
the Governor's view. -/

namespace Sys2Proof.Machine

/-! ### Records kept (R51, R55) -/

theorem dropHold_keys (k : HoldKey) (rs : List HoldRecord) :
    (dropHold k rs).map HoldRecord.key = (rs.map HoldRecord.key).erase k := by
  induction rs with
  | nil => rfl
  | cons r rs ih =>
    rw [dropHold_cons, List.map_cons, List.erase_cons]
    by_cases h : r.key = k
    · rw [if_pos h, if_pos (beq_iff_eq.2 h)]
    · rw [if_neg h, if_neg (fun e => h (beq_iff_eq.1 e)), List.map_cons, ih]

theorem dropHold_absent {k : HoldKey} {rs : List HoldRecord} (absent : findHold k rs = none) : dropHold k rs = rs := by
  refine List.eraseIdx_of_length_le (Nat.le_of_eq (List.findIdx_eq_length.2 fun r hr => ?_).symm)
  simpa using List.find?_eq_none.1 absent r hr

theorem hasHold_iff (s : State) (k : HoldKey) : s.hasHold k = true ↔ k ∈ s.holds.map HoldRecord.key := holdsPair_iff s.holds k

theorem hasHold_congr {s t : State} {k : HoldKey} (h : findHold k t.holds = findHold k s.holds) : t.hasHold k = s.hasHold k :=
  (holdsPair_eq t.holds k).trans ((congrArg Option.isSome h).trans (holdsPair_eq s.holds k).symm)

theorem findHold_none {s : State} {k : HoldKey} (absent : s.hasHold k = false) : findHold k s.holds = none := by
  have found : (findHold k s.holds).isSome = false := (holdsPair_eq s.holds k).symm.trans absent
  exact Option.isNone_iff_eq_none.1 (by simpa using found)

/-! ### A change of the purge (R61, R71, R75) -/

/-- R61: the records after a change of the purge at a tag. -/
def purgeRecords (old new : Purge) (clock : Word) (rs : List HoldRecord) : List HoldRecord :=
  if old.state = .idle then
    if holdsPair rs .purge then rs
    else rs ++ [{ key := .purge, cause := (new.cause.map PurgeCause.hold).getD .service, raised := clock, notBefore := none
                  phase := some new.state }]
  else if new.state = .idle then dropHold .purge rs
  else editRecords .purge (fun r => { r with phase := some new.state }) rs

/-- R75, step 5: the Governor's view of a purge. -/
def GovernorView.ofPurge (v : GovernorView) (p : Purge) : GovernorView :=
  { v with purge := p.state, purgeInlet := p.inlet, purgeOrigin := p.origin }

theorem changePhase_holds (phase : PurgeState) (s : State) :
    (s.changePhase phase).holds = editRecords .purge (fun r => { r with phase := some phase }) s.holds := by
  unfold State.changePhase
  dsimp only
  split <;> rfl

theorem purgeHold_holds (old new : Purge) (s : State) :
    (s.purgeHold old new).holds = purgeRecords old new s.tagClock s.holds := by
  unfold State.purgeHold purgeRecords
  split
  · rw [show s.hasHold .purge = holdsPair s.holds .purge from rfl]
    split
    · rfl
    · exact createHold_holds _ _ _ s
  · split
    · split
      next r found =>
        rw [removeHold_holds, show r.key = .purge from findHold_key found]
        rfl
      next absent => exact (dropHold_absent absent).symm
    · exact changePhase_holds new.state s

theorem putPurgeWords_lower (old : Purge) (s : State) : (s.putPurgeWords old).lower = s.lower := by
  unfold State.putPurgeWords
  dsimp only
  split <;> split <;> rfl

theorem purgeLamp_lower (old new : Purge) (s : State) : (s.purgeLamp old new).lower = s.lower := by
  unfold State.purgeLamp
  split
  · exact relamp_lower _
  · rfl

theorem tellGovernorPurge_lower (s : State) :
    s.tellGovernorPurge.lower = { s.lower with view := s.governor.view.ofPurge s.purge } := recompute_lower _

theorem purgeHold_lower (old new : Purge) (s : State) :
    (s.purgeHold old new).lower = { s.lower with holds := purgeRecords old new s.tagClock s.holds } := by
  rw [← purgeHold_holds]
  exact congrArg (fun b : Below => ({ b with holds := (s.purgeHold old new).holds } : Lower)) (purgeHold_below old new s)

/-- R75: what a change of the purge leaves: the purge, the Governor's view of it and the records of the table. -/
theorem purgeGo_lower (new : Purge) (e : Option Event) (s : State) : (s.purgeGo new e).lower =
    { s.lower with
      purge := new, view := s.governor.view.ofPurge new, holds := purgeRecords s.purge new s.tagClock s.holds } := by
  have told := purgeTold_lower new e s
  rw [purgeGo_eq, purgeLamp_lower, putPurgeWords_lower, tellGovernorPurge_lower]
  generalize s.purgeTold new e = u at told ⊢
  have held := purgeHold_lower s.purge new (u.setPurge new)
  have purge : ((u.setPurge new).purgeHold s.purge new).purge = new := congrArg (fun x => x.purge) held
  have view : ((u.setPurge new).purgeHold s.purge new).governor.view = s.governor.view :=
    (congrArg (fun x => x.view) held).trans (congrArg (fun x => x.view) told)
  rw [held, purge, view, show (u.setPurge new).lower = { u.lower with purge := new } from rfl, told,
    show (u.setPurge new).tagClock = s.tagClock from congrArg (fun x => x.tagClock) told,
    show (u.setPurge new).holds = s.holds from congrArg Lower.holds told]

theorem purgeKeep_lower (new : Purge) (s : State) : (s.purgeKeep new).lower = { s.lower with purge := new } :=
  putPurgeWords_lower _ _

theorem purgeSwitch_lower (i : Inlet) (s : State) : (s.purgeSwitch i).lower =
    { s.lower with purge := { s.purge with inlet := some i }, view := s.governor.view.ofPurge { s.purge with inlet := some i } } := by
  unfold State.purgeSwitch
  dsimp only
  rw [putPurgeWords_lower, tellGovernorPurge_lower]
  rfl

/-! ### The records through a change of the purge (R61) -/

theorem inPhase_key (phase : PurgeState) (r : HoldRecord) : ({ r with phase := some phase } : HoldRecord).key = r.key := rfl

theorem purgeRecords_other {k : HoldKey} (other : k ≠ .purge) (old new : Purge) (clock : Word) (rs : List HoldRecord) :
    findHold k (purgeRecords old new clock rs) = findHold k rs := by
  unfold purgeRecords
  split
  · split
    · rfl
    · rw [findHold_append, if_neg other.symm, Option.or_none]
  · split
    · exact findHold_dropHold_other other rs
    · rw [findHold_editRecords (inPhase_key new.state)]
      cases found : findHold k rs with
      | none => rfl
      | some r => rw [Option.map_some, if_neg (by rw [findHold_key found]; exact other)]

/-- R61: a change within a purge leaves the pairs of the table and gives the phase to PURGE. -/
theorem purgeRecords_within {old new : Purge} (before : old.state ≠ .idle) (after : new.state ≠ .idle) (clock : Word)
    (rs : List HoldRecord) : (purgeRecords old new clock rs).map HoldRecord.key = rs.map HoldRecord.key ∧
      ∀ r, findHold .purge (purgeRecords old new clock rs) = some r → r.phase = some new.state := by
  unfold purgeRecords
  rw [if_neg before, if_neg after]
  refine ⟨editRecords_keys (inPhase_key new.state) rs, fun r found => ?_⟩
  rw [findHold_editRecords (inPhase_key new.state)] at found
  obtain ⟨q, hq, rfl⟩ := Option.map_eq_some_iff.1 found
  rw [if_pos (findHold_key hq)]

/-- R61: a purge that begins or goes on has its record. -/
theorem purgeRecords_more {old new : Purge} (after : new.state ≠ .idle) (clock : Word) (rs : List HoldRecord) :
    ∃ more, (purgeRecords old new clock rs).map HoldRecord.key = rs.map HoldRecord.key ++ more := by
  by_cases idle : old.state = .idle
  · unfold purgeRecords
    rw [if_pos idle]
    split
    · exact ⟨[], (List.append_nil _).symm⟩
    · exact ⟨[.purge], List.map_append⟩
  · exact ⟨[], (purgeRecords_within idle after clock rs).1.trans (List.append_nil _).symm⟩

/-! ### The records through the purge's operations (R73 to R82) -/

/-- R61: what the purge leaves of the table as it takes a trigger or re-judges its inlets: the pairs stand in their places,
and no other record changes. -/
structure PurgeLeaves (s t : State) : Prop where
  others : ∀ k, k ≠ .purge → findHold k t.holds = findHold k s.holds
  more : ∃ more, t.holds.map HoldRecord.key = s.holds.map HoldRecord.key ++ more

theorem PurgeLeaves.of_holds {s t : State} (h : t.holds = s.holds) : PurgeLeaves s t :=
  ⟨fun _ _ => by rw [h], ⟨[], by rw [h, List.append_nil]⟩⟩

theorem purgeGo_leaves {new : Purge} (active : new.state ≠ .idle) (e : Option Event) (s : State) :
    PurgeLeaves s (s.purgeGo new e) := by
  have holds : (s.purgeGo new e).holds = purgeRecords s.purge new s.tagClock s.holds :=
    congrArg Lower.holds (purgeGo_lower new e s)
  refine ⟨fun k other => ?_, ?_⟩
  · rw [holds, purgeRecords_other other]
  · rw [holds]
    exact purgeRecords_more active _ _

theorem purgeTrigger_leaves (c : PurgeCause) (s : State) : PurgeLeaves s (s.purgeTrigger c) := by
  have kept (p : Purge) : PurgeLeaves s (s.purgeKeep p) := .of_holds (congrArg Lower.holds (purgeKeep_lower p s))
  unfold State.purgeTrigger State.fullFlow
  dsimp only
  split
  · refine purgeGo_leaves ?_ _ s
    split
    · exact nofun
    · exact flow_ne_idle _ _ _ _
  · exact kept _
  · exact kept _
  · exact kept _
  · exact purgeGo_leaves (flow_ne_idle _ _ _ _) _ s

/-- R82: a re-judgement of the inlets leaves the pairs of the table. -/
theorem purgeRejudge_keys (s : State) : s.purgeRejudge.holds.map HoldRecord.key = s.holds.map HoldRecord.key ∧
    ∀ k, k ≠ .purge → findHold k s.purgeRejudge.holds = findHold k s.holds := by
  have goes {new : Purge} (e : Option Event) (before : s.purge.state ≠ .idle) (after : new.state ≠ .idle) :
      (s.purgeGo new e).holds.map HoldRecord.key = s.holds.map HoldRecord.key ∧
        ∀ k, k ≠ .purge → findHold k (s.purgeGo new e).holds = findHold k s.holds := by
    have holds : (s.purgeGo new e).holds = purgeRecords s.purge new s.tagClock s.holds :=
      congrArg Lower.holds (purgeGo_lower new e s)
    rw [holds]
    exact ⟨(purgeRecords_within before after _ _).1, fun k other => purgeRecords_other other _ _ _ _⟩
  unfold State.purgeRejudge
  dsimp only
  split
  next i run _ =>
    split
    · exact ⟨rfl, fun _ _ => rfl⟩
    · split
      · have holds : (s.purgeSwitch i.other).holds = s.holds := congrArg Lower.holds (purgeSwitch_lower i.other s)
        rw [holds]
        exact ⟨rfl, fun _ _ => rfl⟩
      · exact goes _ (by rw [run]; exact nofun) nofun
  next scrub =>
    split
    · exact goes _ (by rw [scrub]; exact nofun) nofun
    · exact ⟨rfl, fun _ _ => rfl⟩
  · exact ⟨rfl, fun _ _ => rfl⟩

/-! ### The followers of a notice (R56) -/

theorem tellLamp_lower (k : HoldKey) (present : Bool) (s : State) : (s.tellLamp k present).lower = s.lower := by
  unfold State.tellLamp
  split
  case h_4 => rfl
  all_goals exact relamp_lower _

theorem tellHeat_lower (k : HoldKey) (present : Bool) (s : State) : (s.tellHeat k present).lower = s.lower :=
  State.lower_of_still (tellHeat_still s k present)

/-- R56, step 6: a notice as the purge takes it, by its kind. -/
def State.tellPurge (k : HoldKey) (present : Bool) (s : State) : State :=
  match k with
  | .inletBarred _ => s.purgeRejudge
  | .cabFoul => if present then s.purgeTrigger .cabFoul else s
  | _ => s

theorem tellFollowers_eq (k : HoldKey) (present : Bool) (s : State) :
    s.tellFollowers k present = ((s.tellPurge k present).tellHeat k present).tellLamp k present := by
  cases k <;> rfl

theorem tellFollowers_lower (k : HoldKey) (present : Bool) (s : State) :
    (s.tellFollowers k present).lower = (s.tellPurge k present).lower := by
  rw [tellFollowers_eq, tellLamp_lower, tellHeat_lower]

theorem tellFollowers_leaves (k : HoldKey) (present : Bool) (s : State) : PurgeLeaves s (s.tellFollowers k present) := by
  have of_lower {t u : State} (same : u.lower = t.lower) (h : PurgeLeaves s t) : PurgeLeaves s u := by
    have holds : u.holds = t.holds := congrArg Lower.holds same
    exact ⟨fun k other => by rw [holds]; exact h.others k other, by rw [holds]; exact h.more⟩
  refine of_lower (tellFollowers_lower k present s) ?_
  unfold State.tellPurge
  split
  · obtain ⟨keys, others⟩ := purgeRejudge_keys s
    exact ⟨others, ⟨[], keys.trans (List.append_nil _).symm⟩⟩
  · split
    · exact purgeTrigger_leaves .cabFoul s
    · exact .of_holds rfl
  · exact .of_holds rfl

end Sys2Proof.Machine
end

section
/-! PROOFS. The Hold Table's raises and releases, its grade notices, and the offer of a raise to a lane (R15, R16, R54 to
R59). -/

namespace Sys2Proof.Machine

/-- R55: a release of an absent pair changes nothing. -/
theorem takeRelease_absent {s : State} {k : HoldKey} (absent : s.hasHold k = false) : s.takeRelease k = s := by
  unfold State.takeRelease
  rw [show s.holdRecord k = none from findHold_none absent]
  exact ite_self _

/-! ### Raises (R54) -/

section
variable {s : State} (running : s.part = .running) {k : HoldKey}
include running

theorem takeRaise_present (present : s.hasHold k = true) (c : HoldCause) : s.takeRaise k c = s.dropNotBefore k := by
  unfold State.takeRaise
  rw [if_pos running, if_pos present]

/-- R54: the raise of an absent pair puts its record behind the others. -/
theorem takeRaise_leaves (absent : s.hasHold k = false) (c : HoldCause) :
    PurgeLeaves { s with holds := s.holds ++ [s.newRecord k c none] } (s.takeRaise k c) := by
  rw [takeRaise_absent running absent]
  obtain ⟨others, more⟩ := tellFollowers_leaves k true (s.createHold k c none)
  rw [createHold_holds] at others more
  exact ⟨others, more⟩

theorem takeRaise_found (other : k ≠ .purge) (absent : s.hasHold k = false) (c : HoldCause) :
    (s.takeRaise k c).holdRecord k = some (s.newRecord k c none) := by
  refine ((takeRaise_leaves running absent c).others k other).trans ?_
  rw [findHold_append, findHold_none absent, Option.none_or]
  exact if_pos rfl

theorem takeRaise_hasHold (other : k ≠ .purge) (c : HoldCause) : (s.takeRaise k c).hasHold k = true := by
  cases present : s.hasHold k with
  | false =>
    have found := takeRaise_found running other present c
    exact (holdsPair_eq _ k).trans (congrArg Option.isSome found)
  | true =>
    rw [takeRaise_present running present, hasHold_iff]
    unfold State.dropNotBefore State.editHold
    rw [show (s.holds.map fun r => if r.key = k then { r with notBefore := none } else r).map HoldRecord.key =
      s.holds.map HoldRecord.key from editRecords_keys (f := fun r => { r with notBefore := none }) (fun _ => rfl) s.holds]
    exact (hasHold_iff s k).1 present

/-- R54: a raise leaves the records of the other pairs, but for PURGE. -/
theorem takeRaise_others {j : HoldKey} (other : j ≠ k) (purge : j ≠ .purge) (c : HoldCause) :
    findHold j (s.takeRaise k c).holds = findHold j s.holds := by
  cases present : s.hasHold k with
  | false =>
    refine ((takeRaise_leaves running present c).others j purge).trans ?_
    rw [findHold_append, if_neg (show ¬ (s.newRecord k c none).key = j from other.symm), Option.or_none]
  | true =>
    rw [takeRaise_present running present]
    refine (findHold_editRecords (f := fun r => { r with notBefore := none }) (fun _ => rfl) j s.holds).trans ?_
    cases found : findHold j s.holds with
    | none => rfl
    | some r => rw [Option.map_some, if_neg (by rw [findHold_key found]; exact other)]

/-! ### Releases (R55) -/

theorem takeRelease_keys : (s.takeRelease k).holds.map HoldRecord.key = (s.holds.map HoldRecord.key).erase k := by
  cases present : s.hasHold k with
  | false =>
    rw [takeRelease_absent present]
    exact (List.erase_of_not_mem fun mem => by rw [(hasHold_iff s k).2 mem] at present; cases present).symm
  | true =>
    obtain ⟨r, found⟩ := holdRecord_of_hasHold present
    have keys (t : State) : (t.tellPurge k false).holds.map HoldRecord.key = t.holds.map HoldRecord.key := by
      unfold State.tellPurge
      split
      · exact (purgeRejudge_keys t).1
      · rfl
      · rfl
    rw [takeRelease_present running found, show ((s.removeHold r).tellFollowers k false).holds =
      ((s.removeHold r).tellPurge k false).holds from congrArg Lower.holds (tellFollowers_lower k false _), keys,
      removeHold_holds, show r.key = k from findHold_key found]
    exact dropHold_keys k s.holds

end

/-! ### Grade notices (R57 to R59) -/

/-- R59: a raise of CAB_FOUL is a trigger of the purge. -/
theorem takeRaise_cabFoul_purge {s : State} (running : s.part = .running) (absent : s.hasHold .cabFoul = false) (c : HoldCause) :
    (s.takeRaise .cabFoul c).purge.cause = some .cabFoul ∧ (s.takeRaise .cabFoul c).purge.state ≠ .idle := by
  rw [takeRaise_absent running absent]
  generalize s.createHold .cabFoul c none = u
  have purge : (u.tellFollowers .cabFoul true).purge = (u.purgeTrigger .cabFoul).purge :=
    congrArg (fun x => x.purge) (tellFollowers_lower .cabFoul true u)
  rw [purge]
  exact purgeTrigger_active _ _

theorem startsHoldDown (s : State) (i : Inlet) {g : Grade} (h : g = .clean ∨ g = .suspect) : s.inletGradeNotice i g =
    { s with holds := s.holds.map (fun r =>
      if r.key = .inletBarred i ∧ r.notBefore = none
        then { r with notBefore := some (s.tagClock + w16 (10 * s.lay.holdDown)) } else r) } := by
  have one (r : HoldRecord) : (if r.key = .inletBarred i then
      (if r.notBefore.isSome then r else { r with notBefore := some (s.tagClock + w16 (10 * s.lay.holdDown)) }) else r) =
      if r.key = .inletBarred i ∧ r.notBefore = none
        then { r with notBefore := some (s.tagClock + w16 (10 * s.lay.holdDown)) } else r := by
    by_cases key : r.key = .inletBarred i <;> cases tag : r.notBefore <;> simp [key]
  have all := congrArg (fun f => ({ s with holds := s.holds.map f } : State)) (funext one)
  obtain rfl | rfl := h <;> exact all

/-! ### The offer of a raise (R15, R16) -/

theorem affects_iff (k : HoldKey) (l : LaneId) (target : Bool) : k.affects l target = true ↔
    k = .purge ∨ (l = .front ∧ (k = .doorOpen .fl ∨ k = .doorOpen .fr)) ∨
      (l = .crew ∧ (k = .doorOpen .cl ∨ k = .doorOpen .cr ∨ k = .doorOpen .hatch)) ∨ k = .damperJam l.damper ∨
      (target = true ∧ (k = .heatShed ∨ k = .engineOff)) := by
  cases k with
  | doorOpen d => cases d <;> simp [HoldKey.affects]
  | _ => simp [HoldKey.affects]

theorem offerHold_free {s : State} {k : HoldKey} {l : LaneId} (free : (s.lanes.get l).inForce = none) : s.offerHold k l = s := by
  unfold State.offerHold
  dsimp only
  rw [free]

theorem offerHold_order {s : State} {k : HoldKey} {l : LaneId} {f : OrderFields} {o : ActiveOrder}
    (force : (s.lanes.get l).inForce = some f) (ho : (s.lanes.get l).order = some o) : s.offerHold k l =
      if k.affects l f.targetPresent then
        if f.stopOnHold then s.cutOrder l .holdEnded
        else s.setOrder l { o with flags := { o.flags with overridden := true } }
      else s := by
  unfold State.offerHold
  dsimp only
  rw [force, ho]

/-- R15, R16: a raise that affects a lane's zone ends its order or overrides it. -/
theorem offerHold_acts (s : State) (k : HoldKey) (l : LaneId) (f : OrderFields) (o : ActiveOrder)
    (force : (s.lanes.get l).inForce = some f) (ho : (s.lanes.get l).order = some o) :
    let x := s.lanes.get l
    let t := s.offerHold k l
    let affects := k.affects l f.targetPresent = true
    (¬ affects → t = s) ∧
    (affects → f.stopOnHold = false → t = s.setOrder l { o with flags := { o.flags with overridden := true } }) ∧
    (affects → f.stopOnHold = true → t.lower = s.lower ∧
      (∀ m, m ≠ l → (t.lanes.get m).still = (s.lanes.get m).still) ∧
      s.port.writes ++ s.endWrites l o .holdEnded <+: t.port.writes ∧
      t.lanes.get l = x.afterEnd (s.ringSize l) (s.lay.rest.get l) true) := by
  intro x t affects
  have acts : t = _ := offerHold_order force ho
  refine ⟨fun no => acts.trans (if_neg no), fun yes goes => ?_, fun yes stops => ?_⟩
  · rw [if_pos yes, if_neg (Bool.eq_false_iff.1 goes)] at acts
    exact acts
  · rw [if_pos yes, if_pos stops] at acts
    have lane := cutOrder_lane ho .holdEnded
    rw [stopsAfter_always _ _ (.inr rfl)] at lane
    rw [acts]
    exact ⟨cutOrder_lower l .holdEnded s, fun m hm => cutOrder_other ho .holdEnded hm, cutOrder_writes ho .holdEnded, lane⟩

/-- Settles O24: each notice by its pair, present or absent; what follows a raise adds no pair but PURGE. -/
theorem holdsRaisedAndReleased : Obligations.HoldsRaisedAndReleased := by
  refine ⟨fun s k c running other absent => ⟨?_, takeRaise_found running other absent c⟩, fun s c p => createHold_holds _ _ _ s,
    fun s new e c idle absent cause => ?_, fun s k c running present => takeRaise_present running present c,
    fun s k running => takeRelease_keys running, fun s k absent => takeRelease_absent absent,
    fun s i r running found tag => ?_, fun s i g => ?_, fun s g running => ?_, fun s k l running => ?_⟩
  · obtain ⟨more, keys⟩ := (takeRaise_leaves running absent c).more
    refine ⟨more, keys.trans ?_⟩
    rw [List.map_append, List.append_assoc]
    rfl
  · have holds : (s.purgeGo new e).holds = purgeRecords s.purge new s.tagClock s.holds :=
      congrArg Lower.holds (purgeGo_lower new e s)
    rw [holds, purgeRecords, if_pos idle, if_neg (show ¬ holdsPair s.holds .purge = true from Bool.eq_false_iff.1 absent), cause]
    cases c <;> rfl
  · have due : s.holdDownDue i = true := holdDownDue_iff.2 ⟨r, found, tag⟩
    exact ⟨_, congrArg Host.Outcome.next (if_pos ⟨running, due⟩), takeRelease_base _ s, takeRelease_keys running⟩
  · intro t
    have notice : t = s.inletGradeNotice i g := by cases i <;> rfl
    rw [notice]
    exact ⟨fun foul => by rw [foul]; rfl, fun blind => by rw [blind]; rfl, startsHoldDown s i⟩
  · intro t
    have notice : t = if g = .foul then s.takeRaise .cabFoul .gradeFoul else s.takeRelease .cabFoul := rfl
    refine ⟨fun foul => ?_, fun clean => notice.trans (if_neg clean)⟩
    rw [notice, if_pos foul]
    exact ⟨rfl, takeRaise_hasHold running (k := .cabFoul) nofun .gradeFoul, fun absent => takeRaise_cabFoul_purge running absent .gradeFoul⟩
  · refine ⟨offerHold_free, fun f o force ho => ?_⟩
    intro affects
    have acts := offerHold_acts s k l f o force ho
    rw [show (k.affects l f.targetPresent = true) = affects from propext (affects_iff k l f.targetPresent)] at acts
    exact acts

end Sys2Proof.Machine
end

section
/-! PROOFS. What a recompute leaves where the Mix Record is already the one that its inputs give (R26, R30 to R33): it hands
nothing on but the heat demand and the denied set. So the recomputes nested in a recompute, and those that the motion of the
dampers brings about, leave the Governor and the dampers' targets. -/

namespace Sys2Proof.Machine

/-! ### What is left (R30 to R33) -/

theorem Lane.SameDemand.refl (x : Lane) : x.SameDemand x := ⟨rfl, Iff.rfl, rfl⟩

theorem Lane.SameDemand.trans {x y z : Lane} (h : x.SameDemand y) (k : y.SameDemand z) : x.SameDemand z :=
  ⟨k.force.trans h.force, k.fetch.trans h.fetch, k.carried.trans h.carried⟩

theorem State.SameInputs.refl (s : State) : s.SameInputs s := ⟨rfl, rfl, rfl, fun _ => .refl _, fun _ => rfl⟩

theorem State.SameInputs.trans {s t u : State} (h : s.SameInputs t) (k : t.SameInputs u) : s.SameInputs u :=
  ⟨k.layout.trans h.layout, k.keys.trans h.keys, k.view.trans h.view, fun l => (h.lanes l).trans (k.lanes l),
    fun l => (k.channels l).trans (h.channels l)⟩

/-- R165: the entry of the Image Set for a word of the status block. -/
def State.statusImage (s : State) (n : Nat) : Option ImageEntry :=
  s.port.images.find? (fun e => e.addr == s.lay.statusBase + n)

/-- What the motion of the dampers and the recomputes that it brings about leave, where the Mix Record is the one that its
inputs give. -/
structure Kept (s t : State) : Prop where
  inputs : s.SameInputs t
  governor : t.governor = s.governor
  blower : t.heat.blower = s.heat.blower
  images : ∀ n, 9 ≤ n → n < 21 → t.statusImage n = s.statusImage n
  asks : ∀ p c, asksFor p c s.asked → asksFor p c t.asked

/-- What leaves the dampers' targets too. -/
structure Steady (s t : State) : Prop extends Kept s t where
  targets : ∀ d, (t.damper d).target = (s.damper d).target

/-- What leaves the Damper Drive too. -/
structure Quiet (s t : State) : Prop extends Kept s t where
  drive : t.drive = s.drive

section
variable {s t u : State}

theorem Kept.refl (s : State) : Kept s s := ⟨.refl s, rfl, rfl, fun _ _ _ => rfl, fun _ _ => id⟩

theorem Kept.trans (h : Kept s t) (k : Kept t u) : Kept s u :=
  ⟨h.inputs.trans k.inputs, k.governor.trans h.governor, k.blower.trans h.blower,
    fun n lo hi => (k.images n lo hi).trans (h.images n lo hi), fun p c a => k.asks p c (h.asks p c a)⟩

theorem Quiet.refl (s : State) : Quiet s s := ⟨.refl s, rfl⟩

theorem Quiet.trans (h : Quiet s t) (k : Quiet t u) : Quiet s u := ⟨h.toKept.trans k.toKept, k.drive.trans h.drive⟩

/-- The last part first. -/
theorem Quiet.behind (k : Quiet t u) (h : Quiet s t) : Quiet s u := h.trans k

theorem Steady.refl (s : State) : Steady s s := ⟨.refl s, fun _ => rfl⟩

theorem Steady.trans (h : Steady s t) (k : Steady t u) : Steady s u :=
  ⟨h.toKept.trans k.toKept, fun d => (k.targets d).trans (h.targets d)⟩

theorem Steady.behind (k : Steady t u) (h : Steady s t) : Steady s u := h.trans k

theorem Quiet.steady (h : Quiet s t) : Steady s t := ⟨h.toKept, fun d => by rw [State.damper, h.drive]; rfl⟩

theorem Kept.follows (h : Kept s t) (follows : s.mixFollows) : t.mixFollows := mixFollows_of_same follows h.inputs h.governor

end

theorem each_quiet {α : Type} {f : α → State → State} (h : ∀ x t, t.mixFollows → Quiet t (f x t)) (xs : List α) {s : State}
    (follows : s.mixFollows) : Quiet s (s.each xs f) := by
  unfold State.each
  induction xs generalizing s with
  | nil => exact .refl s
  | cons x xs ih =>
    have first := h x s follows
    exact first.trans (ih (first.follows follows))

/-! ### Writes, the heat unit and spots (R147 to R149, R164, R165) -/

section
variable (s : State)

theorem offer_quiet (a : Nat) (d : Word) : Quiet s (s.offer a d) where
  inputs := ⟨rfl, rfl, rfl, fun _ => .refl _, fun _ => rfl⟩
  governor := rfl
  blower := rfl
  images _ _ _ := congrArg (List.find? _) (Port.offer_images _ _)
  asks _ _ := id
  drive := rfl

theorem putStatus_quiet {n : Nat} (other : 21 ≤ n) (d : Word) : Quiet s (s.putStatus n d) where
  inputs := ⟨rfl, rfl, rfl, fun _ => .refl _, fun _ => rfl⟩
  governor := rfl
  blower := rfl
  images k _ hk := putImageEntry_find_other s.port.images d (show s.lay.statusBase + k ≠ s.lay.statusBase + n by omega)
  asks _ _ := id
  drive := rfl

theorem setHeat_quiet {h : HeatUnit} (blower : h.blower = s.heat.blower) : Quiet s (s.setHeat h) where
  inputs := ⟨rfl, rfl, rfl, fun _ => .refl _, fun _ => rfl⟩
  governor := rfl
  blower := blower
  images _ _ _ := rfl
  asks _ _ := id
  drive := rfl

theorem requestSpot_quiet (r : Requester) (c : Fin 16) : Quiet s (s.requestSpot r c) := by
  have asks (p : Requester) (d : Fin 16) (h : asksFor p d s.asked) := requestSpot_keeps_asks h r c
  have channels := requestSpot_channels s r c
  rw [requestSpot_scanner] at asks ⊢
  exact ⟨⟨⟨rfl, rfl, rfl, fun _ => .refl _, fun l => congrArg (fun v : Vector Channel 16 => v.get l.channel) channels⟩, rfl, rfl,
    fun _ _ _ => rfl, asks⟩, rfl⟩

theorem setLane_quiet {l : LaneId} {x : Lane} (demand : (s.lanes.get l).SameDemand x) : Quiet s (s.setLane l x) := by
  refine ⟨⟨⟨rfl, rfl, rfl, fun m => ?_, fun _ => rfl⟩, rfl, rfl, fun _ _ _ => rfl, fun _ _ => id⟩, rfl⟩
  rw [lanes_get_setLane]
  by_cases hm : m = l
  · rw [if_pos hm, hm]
    exact demand
  · rw [if_neg hm]
    exact .refl _

theorem energise_quiet (i : Fin 4) : Quiet s (s.energise i) := by
  unfold State.energise State.putHeatWord
  exact (putStatus_quiet _ (by decide) _).behind ((requestSpot_quiet _ .heat 15).behind (setHeat_quiet s rfl))

theorem testStageUp_quiet : Quiet s s.testStageUp := by
  unfold State.testStageUp
  split
  · split
    · exact energise_quiet s _
    · exact .refl s
  · exact .refl s

theorem rejudgeHeat_quiet : Quiet s s.rejudgeHeat := by
  have valved : Quiet s s.valved := setHeat_quiet s rfl
  rw [rejudgeHeat_eq]
  split
  · unfold State.putHeatWord
    exact (putStatus_quiet _ (by decide) _).behind ((setHeat_quiet s.valved (by exact rfl)).behind valved)
  · exact (testStageUp_quiet _).behind valved

theorem handHeat_quiet (n : Nat) : Quiet s (s.handHeat n) := (rejudgeHeat_quiet _).behind (setHeat_quiet s rfl)

/-! ### Lanes told (R17, R26) -/

theorem setOrder_quiet {s : State} {l : LaneId} {o p : ActiveOrder} (ho : (s.lanes.get l).order = some o)
    (fields : p.fields = o.fields) : Quiet s (s.setOrder l p) := by
  refine setLane_quiet s ⟨?_, Iff.rfl, rfl⟩
  simp [Lane.inForce, Lane.engaged, ho, fields]

theorem tellDenied_quiet (m : Mix) (l : LaneId) : Quiet s (s.tellDenied m l) := by
  unfold State.tellDenied
  split
  · split
    next o ho => exact setOrder_quiet ho rfl
    · exact .refl s
  · exact .refl s

theorem noteJam_quiet (d : Fin 8) (l : LaneId) : Quiet s (s.noteJam d l) := by
  unfold State.noteJam
  split
  next o ho =>
    split
    · exact setOrder_quiet ho rfl
    · exact .refl s
  · exact .refl s

end

section
variable {again : State → State} (ha : ∀ t, t.mixFollows → Quiet t (again t))
include ha

theorem leaveSettle_quiet {s : State} (follows : s.mixFollows) (slow : Bool) {l : LaneId} (hs : (s.lanes.get l).state = .settle) :
    Quiet s (s.leaveSettle again slow l) := by
  unfold State.leaveSettle
  split
  · exact .refl s
  next o ho =>
    have lane := setLane_quiet s (l := l) (x := { s.lanes.get l with
      state := .dwell, order := some (o.dwells slow (s.watchesJam l)) })
      ⟨by simp [Lane.inForce, Lane.engaged, ho, hs, ActiveOrder.dwells], by simp [hs], rfl⟩
    have told : Quiet s ((s.setLane l { s.lanes.get l with
        state := .dwell, order := some (o.dwells slow (s.watchesJam l)) }).putLaneStatus l) := lane.trans (offer_quiet _ _ _)
    exact told.trans (ha _ (told.follows follows))

theorem testSettle_quiet {s : State} (follows : s.mixFollows) (e : Option LaneId) {l : LaneId}
    (hs : (s.lanes.get l).state = .settle) : Quiet s (s.testSettle again e l) := by
  unfold State.testSettle
  split
  · exact leaveSettle_quiet ha follows false hs
  · exact .refl s

theorem tellLane_quiet (e : Option LaneId) (d : Fin 8) (l : LaneId) {s : State} (follows : s.mixFollows) :
    Quiet s (s.tellLane again e d l) := by
  unfold State.tellLane
  split
  · split
    next hs =>
      by_cases own : d = l.damper
      · have noted := noteJam_quiet s d l
        rw [if_pos own]
        exact noted.trans (testSettle_quiet ha (noted.follows follows) e ((noteJam_state d l s).trans hs))
      · rw [if_neg own]
        exact testSettle_quiet ha follows e hs
    · exact noteJam_quiet s d l
    · exact noteJam_quiet s d l
    · exact .refl s
  · exact .refl s

/-- R17, R130: a damper's word and its lanes, told of a change, leave the drive and the Governor. -/
theorem handOnDamper_quiet (e : Option LaneId) (d : Fin 8) {s : State} (follows : s.mixFollows) :
    Quiet s (s.handOnDamper again e d) := by
  have word : Quiet s (s.putStatus (25 + d.val) (s.damper d).word) := putStatus_quiet s (by omega) _
  exact word.trans (each_quiet (fun l _ h => tellLane_quiet ha e d l h) _ (word.follows follows))

/-! ### Motion (R131 to R136) -/

end

theorem setDrive_kept (s : State) (v : Drive) : Kept s { s with drive := v } :=
  ⟨⟨rfl, rfl, rfl, fun _ => .refl _, fun _ => rfl⟩, rfl, rfl, fun _ _ _ => rfl, fun _ _ => id⟩

theorem setDamper_target {s : State} {d : Fin 8} {x : Damper} (h : x.target = (s.damper d).target) (c : Fin 8) :
    ((s.setDamper d x).damper c).target = (s.damper c).target := by
  by_cases hc : c = d
  · rw [hc]
    exact (congrArg Damper.target (vset_get_same _ _ _)).trans h
  · exact congrArg Damper.target (vset_get_other _ _ hc)

theorem setDamper_steady (s : State) {d : Fin 8} {x : Damper} (h : x.target = (s.damper d).target) :
    Steady s (s.setDamper d x) := ⟨setDrive_kept s _, setDamper_target h⟩

section
variable {again : State → State} (ha : ∀ t, t.mixFollows → Quiet t (again t)) (e : Option LaneId)
include ha

/-- A damper that keeps its target is put in its new state and handed on. -/
theorem putDamper_steady {s : State} (follows : s.mixFollows) {d : Fin 8} {x : Damper} (h : x.target = (s.damper d).target) :
    Steady s ((s.setDamper d x).handOnDamper again e d) := by
  have put := setDamper_steady s h
  exact put.trans (handOnDamper_quiet ha e d (put.follows follows)).steady

theorem moveFrom_steady {s : State} (follows : s.mixFollows) (d : Fin 8) (n : Nat) : Steady s (s.moveFrom again e d n) := by
  unfold State.moveFrom State.reachTarget
  dsimp only
  split
  · refine putDamper_steady ha e follows ?_
    split <;> rfl
  · exact putDamper_steady ha e follows rfl

theorem grantHead_steady {s : State} (follows : s.mixFollows) : Steady s (s.grantHead again e) := by
  unfold State.grantHead
  split
  · exact .refl s
  next m ms _ =>
    have left : Steady s { s with drive := { s.drive with queue := ms } } := ⟨setDrive_kept s _, fun _ => rfl⟩
    have after := left.follows follows
    dsimp only
    split
    · exact left.trans (putDamper_steady ha e after rfl)
    · exact left.trans (moveFrom_steady ha e after _ _)

theorem giveGrants_steady (n : Nat) {s : State} (follows : s.mixFollows) : Steady s (State.giveGrants again e n s) := by
  induction n generalizing s with
  | zero => exact .refl s
  | succ n ih =>
    unfold State.giveGrants
    split
    · have head := grantHead_steady ha e follows
      exact head.trans (ih (head.follows follows))
    · exact .refl s

theorem grant_steady {s : State} (follows : s.mixFollows) : Steady s (s.grant again e) := giveGrants_steady ha e _ follows

theorem joinMotion_steady {s : State} (follows : s.mixFollows) (d : Fin 8) : Steady s (s.joinMotion again e d) := by
  unfold State.joinMotion
  have joined : Steady s { s.setDamper d { s.damper d with state := .waiting, plan := none } with
      drive := { (s.setDamper d { s.damper d with state := .waiting, plan := none }).drive with
        queue := s.drive.queue ++ [MotionEntry.mk d false] } } := ⟨setDrive_kept s _, setDamper_target rfl⟩
  have told := joined.trans (handOnDamper_quiet ha e d (joined.follows follows)).steady
  exact told.trans (grant_steady ha e (told.follows follows))

theorem replan_steady {s : State} (follows : s.mixFollows) (d : Fin 8) (n : Nat) : Steady s (s.replan again e d n) := by
  unfold State.replan
  dsimp only
  have moved := moveFrom_steady ha e follows d n
  split
  · exact moved.trans (grant_steady ha e (moved.follows follows))
  · exact moved

/-- R131: a new target is the damper's, and the motion that it brings about leaves the targets. -/
theorem takeTarget_steady {s : State} (follows : s.mixFollows) (d : Fin 8) (g : Nat) :
    Steady (s.setDamper d { s.damper d with target := g }) (s.takeTarget again e d g) := by
  unfold State.takeTarget
  dsimp only
  have kept : Kept s (s.setDamper d { s.damper d with target := g }) := setDrive_kept s _
  have after := kept.follows follows
  generalize s.setDamper d { s.damper d with target := g } = u at after
  split
  · split
    · exact .refl u
    · exact joinMotion_steady ha e after d
  · split
    · have left : Steady u ((u.leaveMotion d).setDamper d { u.damper d with state := .atRest }) :=
        ⟨setDrive_kept u _, setDamper_target (s := u.leaveMotion d) rfl⟩
      exact left.trans (handOnDamper_quiet ha e d (left.follows after)).steady
    · exact .refl u
  · exact replan_steady ha e after d _
  · exact replan_steady ha e after d _
  · exact .refl u

end

end Sys2Proof.Machine
end

section
/-! PROOFS. What a recompute hands on (R30 to R33): the record, the targets, the blower value, the heat demand, the image
words that changed, the denied set. -/

namespace Sys2Proof.Machine

/-! ### A recompute of a current record -/

/-- R31: the state with the Mix Record that its inputs give. -/
def State.mixed (s : State) (dp : Option Nat) : State :=
  { s with governor := { s.governor with mix := (s.nextMix dp).1, chosen := (s.nextMix dp).2 } }

theorem mixed_follows (s : State) (dp : Option Nat) : (s.mixed dp).mixFollows := nextMix_again s dp

theorem mixed_of_follows {s : State} (follows : s.mixFollows) : s.mixed none = s := by
  unfold State.mixed
  rw [show s.nextMix none = (s.governor.mix, s.governor.chosen) from follows]

theorem each_id {α : Type} {f : α → State → State} {xs : List α} (h : ∀ x ∈ xs, ∀ t, f x t = t) (s : State) : s.each xs f = s := by
  unfold State.each
  induction xs with
  | nil => rfl
  | cons x xs ih =>
    rw [List.foldl_cons, h x List.mem_cons_self]
    exact ih fun y hy => h y (List.mem_cons_of_mem _ hy)

theorem putMixWords_same (s : State) (m : Mix) : s.putMixWords m m = s := by
  refine each_id (fun w hw t => if_pos ?_) s
  have same : ∀ (xs : List (Nat × Word)), ∀ w ∈ xs.zip xs, w.1 = w.2 := by
    intro xs
    induction xs with
    | nil => intro w hw; cases hw
    | cons x xs ih =>
      intro w hw
      obtain rfl | hw := List.mem_cons.1 hw
      · rfl
      · exact ih w hw
  exact congrArg Prod.snd (same _ w hw)

/-- R32: the state that a recompute's record, words, targets and blower value leave, before the heat demand. -/
def State.handed (s : State) (again : State → State) (e : Option LaneId) (entry : Bool) (dp : Option Nat) : State :=
  let old := s.governor.mix
  let new := (s.nextMix dp).1
  let t := ((s.mixed dp).putMixWords old new).each allDampers (State.handTarget again e entry old new)
  if entry || new.blower != old.blower then t.handBlower new.blower else t

theorem recomputeOnce_eq (s : State) (again : State → State) (e : Option LaneId) (entry : Bool) (dp : Option Nat) :
    s.recomputeOnce again e entry dp = ((s.handed again e entry dp).handHeat (s.nextMix dp).1.heat).each allLanes
      (State.tellDenied (s.nextMix dp).1) := rfl

theorem handed_of_follows {s : State} (follows : s.mixFollows) (again : State → State) (e : Option LaneId) :
    s.handed again e false none = s := by
  have record : (s.nextMix none).1 = s.governor.mix := congrArg Prod.fst follows
  have still : s.each allDampers (State.handTarget again e false s.governor.mix s.governor.mix) = s :=
    each_id (fun d _ t => if_neg (by simp)) s
  unfold State.handed
  dsimp only
  rw [mixed_of_follows follows, record, putMixWords_same, still]
  exact if_neg (by simp)

theorem tellDenied_each_quiet (m : Mix) (s : State) : Quiet s (s.each allLanes (State.tellDenied m)) := by
  unfold State.each
  induction allLanes generalizing s with
  | nil => exact .refl s
  | cons l ls ih => exact (tellDenied_quiet s m l).trans (ih _)

theorem recomputeOnce_quiet {s : State} (follows : s.mixFollows) (again : State → State) (e : Option LaneId) :
    Quiet s (s.recomputeOnce again e false none) := by
  rw [recomputeOnce_eq, handed_of_follows follows]
  exact (tellDenied_each_quiet _ _).behind (handHeat_quiet s _)

/-- R30: where the Mix Record is the one that the inputs give, a recompute leaves the Governor and the drive. -/
theorem recomputeAt_quiet (e : Option LaneId) (n : Nat) {s : State} (follows : s.mixFollows) :
    Quiet s (State.recomputeAt e n false none s) := by
  cases n with
  | zero => exact recomputeOnce_quiet follows _ e
  | succ n => exact recomputeOnce_quiet follows _ e

theorem recompute_quiet {s : State} (follows : s.mixFollows) : Quiet s s.recompute := by
  unfold State.recompute State.recomputeFor
  split
  · exact recomputeAt_quiet none 3 follows
  · exact .refl s

/-! ### The targets handed on (R32) -/

section
variable {again : State → State} (ha : ∀ t, t.mixFollows → Quiet t (again t)) (e : Option LaneId)
include ha

theorem handTarget_hands (entry : Bool) (old new : Mix) (d : Fin 8) {s : State} (follows : s.mixFollows) :
    Kept s (s.handTarget again e entry old new d) ∧ ∀ c, ((s.handTarget again e entry old new d).damper c).target =
      if c = d ∧ (entry || new.target d != old.target d) = true then new.target d else (s.damper c).target := by
  unfold State.handTarget
  by_cases changed : (entry || new.target d != old.target d) = true
  · have taken := takeTarget_steady ha e follows d (new.target d)
    rw [if_pos changed]
    refine ⟨(setDrive_kept s _).trans taken.toKept, fun c => (taken.targets c).trans ?_⟩
    by_cases hc : c = d
    · rw [if_pos ⟨hc, changed⟩, hc]
      exact congrArg Damper.target (vset_get_same _ _ _)
    · rw [if_neg fun h => hc h.1]
      exact congrArg Damper.target (vset_get_other _ _ hc)
  · rw [if_neg changed]
    exact ⟨.refl s, fun c => (if_neg fun h => changed h.2).symm⟩

theorem handTargets_hands (entry : Bool) (old new : Mix) (ds : List (Fin 8)) {s : State} (follows : s.mixFollows) :
    Kept s (s.each ds (State.handTarget again e entry old new)) ∧
      ∀ c, ((s.each ds (State.handTarget again e entry old new)).damper c).target =
        if c ∈ ds ∧ (entry || new.target c != old.target c) = true then new.target c else (s.damper c).target := by
  induction ds generalizing s with
  | nil => exact ⟨.refl s, fun c => (if_neg fun h => by cases h.1).symm⟩
  | cons d ds ih =>
    obtain ⟨kept, targets⟩ := handTarget_hands ha e entry old new d follows
    obtain ⟨more, rest⟩ := ih (kept.follows follows)
    refine ⟨kept.trans more, fun c => (rest c).trans ?_⟩
    rw [targets c]
    by_cases changed : (entry || new.target c != old.target c) = true
    · by_cases hd : c ∈ ds
      · rw [if_pos ⟨hd, changed⟩, if_pos ⟨List.mem_cons_of_mem _ hd, changed⟩]
      · rw [if_neg fun h => hd h.1]
        by_cases hc : c = d
        · subst hc
          rw [if_pos ⟨rfl, changed⟩, if_pos ⟨List.mem_cons_self, changed⟩]
        · rw [if_neg fun h => hc h.1, if_neg fun h => (List.mem_cons.1 h.1).elim hc hd]
    · rw [if_neg fun h => changed h.2, if_neg fun (h : c = d ∧ _) => changed (h.1 ▸ h.2), if_neg fun h => changed h.2]

end

/-! ### The words handed on (R33) -/

/-- R33: the image word of an offset once the changed words of a list are queued. -/
def State.wordAfter (s : State) (ws : List ((Nat × Word) × (Nat × Word))) (n : Nat) : Option ImageEntry :=
  match ws.find? (fun w => w.2.1 == n) with
  | none => s.statusImage n
  | some w => if w.1.2 = w.2.2 then s.statusImage n else some ⟨s.lay.statusBase + n, w.2.2⟩

/-- R33: one changed word is queued. -/
def State.putChanged (w : (Nat × Word) × (Nat × Word)) (s : State) : State :=
  if w.1.2 = w.2.2 then s else s.putStatus w.2.1 w.2.2

theorem putMixWords_eq (s : State) (old new : Mix) : s.putMixWords old new = s.each (old.words.zip new.words) State.putChanged :=
  rfl

theorem putChanged_image (w : (Nat × Word) × (Nat × Word)) (s : State) (n : Nat) : (s.putChanged w).statusImage n =
    if w.2.1 = n then (if w.1.2 = w.2.2 then s.statusImage n else some ⟨s.lay.statusBase + n, w.2.2⟩) else s.statusImage n := by
  unfold State.putChanged
  by_cases same : w.1.2 = w.2.2
  · rw [if_pos same, if_pos same, ite_self]
  · rw [if_neg same, if_neg same]
    by_cases here : w.2.1 = n
    · rw [if_pos here, ← here]
      exact putImageEntry_find s.port.images _ _
    · rw [if_neg here]
      exact putImageEntry_find_other s.port.images _ (show s.lay.statusBase + n ≠ s.lay.statusBase + w.2.1 by omega)

theorem putChanged_lay (w : (Nat × Word) × (Nat × Word)) (s : State) : (s.putChanged w).lay = s.lay := by
  unfold State.putChanged
  split <;> rfl

theorem each_putChanged_image (ws : List ((Nat × Word) × (Nat × Word))) (distinct : (ws.map (fun w => w.2.1)).Nodup) (s : State)
    (n : Nat) : (s.each ws State.putChanged).statusImage n = s.wordAfter ws n := by
  induction ws generalizing s with
  | nil => rfl
  | cons w ws ih =>
    obtain ⟨new, distinct⟩ := List.nodup_cons.1 distinct
    refine (ih distinct (s.putChanged w)).trans ?_
    unfold State.wordAfter
    rw [List.find?_cons, putChanged_image, putChanged_lay]
    by_cases here : w.2.1 = n
    · have gone : ws.find? (fun w => w.2.1 == n) = none :=
        List.find?_eq_none.2 fun v hv e => new (List.mem_map.2 ⟨v, hv, (beq_iff_eq.1 e).trans here.symm⟩)
      rw [gone, if_pos here, beq_iff_eq.2 here]
    · rw [if_neg here, beq_eq_false_iff_ne.2 here]

theorem each_putChanged_port (ws : List ((Nat × Word) × (Nat × Word))) (s : State) (p : Port) :
    (s.each ws State.putChanged).setPort p = s.setPort p :=
  each_leaves (State.setPort · p) State.putChanged (fun w t => by unfold State.putChanged; split <;> rfl) ws s

theorem zip_words_offsets (old new : Mix) : ((old.words.zip new.words).map (fun w => w.2.1)).Nodup := by
  have offsets : (old.words.zip new.words).map (fun w => w.2.1) = List.range' 9 12 := rfl
  rw [offsets]
  decide

/-- R33: the word of each field of the Mix Record, changed or as it was. -/
theorem putMixWords_image (s : State) (old new : Mix) (k : Fin 12) : (s.putMixWords old new).statusImage (9 + k.val) =
    if new.imaged[k.val]? = old.imaged[k.val]? then s.statusImage (9 + k.val)
      else new.imaged[k.val]?.map (fun w => ⟨s.lay.statusBase + 9 + k.val, w⟩) := by
  have words (m : Mix) : m.words = (List.range' 9 12).zip m.imaged := by
    obtain ⟨_, _, _, filter, _, _, _, _, owner, _⟩ := m
    cases filter <;> cases owner <;> rfl
  rw [putMixWords_eq, each_putChanged_image _ (zip_words_offsets old new), State.wordAfter]
  obtain ⟨a, b, was, now, at_⟩ : ∃ a b, old.imaged[k.val]? = some a ∧ new.imaged[k.val]? = some b ∧
      (old.words.zip new.words).find? (fun w => w.2.1 == 9 + k.val) = some ((9 + k.val, a), (9 + k.val, b)) := by
    rw [words, words]
    match k with
    | 0 | 1 | 2 | 3 | 4 | 5 | 6 | 7 | 8 | 9 | 10 | 11 => exact ⟨_, _, rfl, rfl, rfl⟩
  rw [at_, was, now, Option.map_some]
  dsimp only
  by_cases same : a = b
  · rw [if_pos same, if_pos (congrArg some same.symm)]
  · rw [if_neg same, if_neg fun h => same (Option.some.inj h).symm, Nat.add_assoc]

end Sys2Proof.Machine
end

section
/-! PROOFS. A recompute as a whole (R30 to R33, R147): what it makes of the Governor, the drive, the heat unit, the image
words and the lanes; and that it keeps every request for a spot. -/

namespace Sys2Proof.Machine

/-! ### The heat unit re-judged (R147, R148) -/

/-- R147 to R149: the unit but for what a re-judgement sets. -/
def HeatUnit.unjudged (h : HeatUnit) : HeatUnit :=
  { h with valve := 0, stages := Vector.replicate 4 .off, stageUpTimer := none, verify := none }

theorem requestSpot_heat (s : State) (r : Requester) (c : Fin 16) : (s.requestSpot r c).heat = s.heat := by
  rw [requestSpot_scanner]
  rfl

theorem energise_heat (s : State) (i : Fin 4) : (s.energise i).heat = { s.heat with
    stages := vset s.heat.stages i .on, stageUpTimer := some (s.now + 1000 * s.lay.stageInterval)
    verify := some { stage := i, baseline := s.heat.lastAmps.getD 0 } } := by
  unfold State.energise State.putHeatWord
  dsimp only
  rw [putStatus_heat, requestSpot_heat]
  rfl

theorem testStageUp_unjudged (s : State) : s.testStageUp.heat.unjudged = s.heat.unjudged := by
  unfold State.testStageUp
  split
  · split
    · rw [energise_heat]
      rfl
    · rfl
  · rfl

theorem rejudgeHeat_unjudged (s : State) : s.rejudgeHeat.heat.unjudged = s.heat.unjudged := by
  rw [rejudgeHeat_eq]
  split
  · rfl
  · exact testStageUp_unjudged s.valved

theorem handHeat_demand (s : State) (n : Nat) : (s.handHeat n).heat.demand = n :=
  congrArg HeatUnit.demand (rejudgeHeat_unjudged (s.setHeat { s.heat with demand := n }))

/-! ### The denied set told (R26) -/

/-- R26: a lane of the denied set has SOURCE_DENIED in its order. -/
def State.marksDenied (s : State) (m : Mix) (l : LaneId) : Prop :=
  m.denied.get l = true → ∀ o, (s.lanes.get l).order = some o → o.flags.sourceDenied = true

theorem tellDenied_marks (s : State) (m : Mix) (l : LaneId) : (s.tellDenied m l).marksDenied m l := by
  intro denied o ho
  unfold State.tellDenied at ho
  rw [if_pos denied] at ho
  split at ho
  next p _ =>
    have lane : (s.setOrder l { p with flags := { p.flags with sourceDenied := true } }).lanes.get l =
        { s.lanes.get l with order := some { p with flags := { p.flags with sourceDenied := true } } } :=
      PerLane.get_set_same _ _ _
    rw [lane] at ho
    cases ho
    rfl
  next none => rw [none] at ho; cases ho

theorem tellDenied_keeps_marks {s : State} {m : Mix} {k : LaneId} (h : s.marksDenied m k) (l : LaneId) :
    (s.tellDenied m l).marksDenied m k := by
  by_cases same : k = l
  · rw [same]
    exact tellDenied_marks s m l
  · intro denied o ho
    refine h denied o (Eq.trans (congrArg Lane.order ?_) ho)
    unfold State.tellDenied
    split
    · split
      · exact (PerLane.get_set_other _ _ same).symm
      · rfl
    · rfl

theorem tellDenied_each_marks (s : State) (m : Mix) (l : LaneId) : (s.each allLanes (State.tellDenied m)).marksDenied m l := by
  cases l with
  | front => exact tellDenied_keeps_marks (tellDenied_keeps_marks (tellDenied_marks s m .front) .crew) .screen
  | crew => exact tellDenied_keeps_marks (tellDenied_marks (s.tellDenied m .front) m .crew) .screen
  | screen => exact tellDenied_marks ((s.tellDenied m .front).tellDenied m .crew) m .screen

theorem tellDenied_each_heat (s : State) (m : Mix) : (s.each allLanes (State.tellDenied m)).heat = s.heat := by
  refine each_leaves State.heat (fun l t => t.tellDenied m l) (fun l t => ?_) allLanes s
  unfold State.tellDenied
  split
  · split <;> rfl
  · rfl

/-! ### The whole recompute (R30 to R33) -/

/-- R31 to R33: what a recompute makes of a state. -/
structure Recomputed (s t : State) (entry : Bool) (dp : Option Nat) : Prop where
  inputs : s.SameInputs t
  governor : t.governor = (s.mixed dp).governor
  targets : ∀ d, (t.damper d).target =
    if (entry || (s.nextMix dp).1.target d != s.governor.mix.target d) = true then (s.nextMix dp).1.target d else (s.damper d).target
  words : ∀ k : Fin 12, t.statusImage (9 + k.val) =
    if (s.nextMix dp).1.imaged[k.val]? = s.governor.mix.imaged[k.val]? then s.statusImage (9 + k.val)
    else (s.nextMix dp).1.imaged[k.val]?.map (fun w => ⟨s.lay.statusBase + 9 + k.val, w⟩)
  blower : t.heat.blower = if (entry || (s.nextMix dp).1.blower != s.governor.mix.blower) = true then (s.nextMix dp).1.blower
    else s.heat.blower
  demand : t.heat.demand = (s.nextMix dp).1.heat
  denied : ∀ l, t.marksDenied (s.nextMix dp).1 l
  asks : ∀ p c, asksFor p c s.asked → asksFor p c t.asked

/-- R30: a state as it stands before the words, the targets and the rest are handed on. -/
theorem putMixWords_rest (s : State) (old new : Mix) (p : Port) : (s.putMixWords old new).setPort p = s.setPort p :=
  each_putChanged_port _ s p

theorem putMixWords_state (s : State) (old new : Mix) :
    s.putMixWords old new = s.setPort (s.putMixWords old new).port := by
  rw [← putMixWords_rest s old new, setPort_self]

theorem handBlower_eq (s : State) (v : Nat) : ∃ w, s.handBlower v = s.setHeat { s.heat with blower := v, watch := w } := by
  unfold State.handBlower
  rw [rejudgeWatch_eq]
  exact ⟨_, rfl⟩

theorem recomputeOnce_recomputed {again : State → State} (ha : ∀ t, t.mixFollows → Quiet t (again t)) (e : Option LaneId)
    (entry : Bool) (dp : Option Nat) (s : State) : Recomputed s (s.recomputeOnce again e entry dp) entry dp := by
  have worded := putMixWords_state (s.mixed dp) s.governor.mix (s.nextMix dp).1
  have words := putMixWords_image (s.mixed dp) s.governor.mix (s.nextMix dp).1
  have rest := recomputeOnce_eq s again e entry dp
  unfold State.handed at rest
  dsimp only at rest
  generalize (s.mixed dp).putMixWords s.governor.mix (s.nextMix dp).1 = u at worded words rest
  obtain ⟨q, rfl⟩ : ∃ q, u = (s.mixed dp).setPort q := ⟨_, worded⟩
  have follows : ((s.mixed dp).setPort q).mixFollows := mixFollows_of_unread (mixed_follows s dp) rfl rfl rfl rfl rfl
  have inputs : s.SameInputs ((s.mixed dp).setPort q) :=
    ⟨rfl, rfl, rfl, fun _ => .refl _, fun _ => rfl⟩
  generalize hu : (s.mixed dp).setPort q = u at *
  have was (d : Fin 8) : (u.damper d).target = (s.damper d).target := by rw [← hu]; rfl
  have asked : u.asked = s.asked := by rw [← hu]; rfl
  have governor : u.governor = (s.mixed dp).governor := by rw [← hu]; rfl
  have heat : u.heat = s.heat := by rw [← hu]; rfl
  obtain ⟨kept, targets⟩ := handTargets_hands ha e entry s.governor.mix (s.nextMix dp).1 allDampers follows
  have blow : ∃ w, (if (entry || (s.nextMix dp).1.blower != s.governor.mix.blower) = true
      then (u.each allDampers (State.handTarget again e entry s.governor.mix (s.nextMix dp).1)).handBlower (s.nextMix dp).1.blower
      else u.each allDampers (State.handTarget again e entry s.governor.mix (s.nextMix dp).1)) =
      (u.each allDampers (State.handTarget again e entry s.governor.mix (s.nextMix dp).1)).setHeat w ∧
      w.blower = if (entry || (s.nextMix dp).1.blower != s.governor.mix.blower) = true then (s.nextMix dp).1.blower
        else s.heat.blower := by
    have was : (u.each allDampers (State.handTarget again e entry s.governor.mix (s.nextMix dp).1)).heat.blower =
        s.heat.blower := kept.blower.trans (congrArg HeatUnit.blower heat)
    split
    · obtain ⟨w, eq⟩ := handBlower_eq (u.each allDampers (State.handTarget again e entry s.governor.mix (s.nextMix dp).1))
        (s.nextMix dp).1.blower
      exact ⟨_, eq, rfl⟩
    · exact ⟨_, rfl, was⟩
  obtain ⟨w, blown, blower⟩ := blow
  rw [blown] at rest
  generalize u.each allDampers (State.handTarget again e entry s.governor.mix (s.nextMix dp).1) = v at kept targets rest
  have quiet : Quiet (v.setHeat w) (s.recomputeOnce again e entry dp) := by
    rw [rest]
    exact (tellDenied_each_quiet _ _).behind (handHeat_quiet _ _)
  have all (d : Fin 8) : d ∈ allDampers := by revert d; decide
  have set : v.SameInputs (v.setHeat w) := ⟨rfl, rfl, rfl, fun _ => .refl _, fun _ => rfl⟩
  refine ⟨?_, ?_, fun d => ?_, fun k => ?_, quiet.blower.trans blower, ?_, fun l => ?_, fun p c a => quiet.asks p c ?_⟩
  · exact inputs.trans (kept.inputs.trans (set.trans quiet.inputs))
  · exact quiet.governor.trans (kept.governor.trans governor)
  · refine (quiet.steady.targets d).trans ((targets d).trans ?_)
    rw [was d]
    exact if_congr (and_iff_right (all d)) rfl rfl
  · exact (quiet.images _ (by omega) (by omega)).trans ((kept.images _ (by omega) (by omega)).trans (words k))
  · rw [rest, tellDenied_each_heat]
    exact handHeat_demand _ _
  · rw [rest]
    exact tellDenied_each_marks _ _ l
  · exact kept.asks p c (asked ▸ a)

theorem recomputeAt_recomputed (e : Option LaneId) (n : Nat) (entry : Bool) (dp : Option Nat) (s : State) :
    Recomputed s (State.recomputeAt e n entry dp s) entry dp := by
  cases n with
  | zero => exact recomputeOnce_recomputed (fun t _ => .refl t) e entry dp s
  | succ n => exact recomputeOnce_recomputed (fun t follows => recomputeAt_quiet e n follows) e entry dp s

section
variable {s : State} (running : s.part = .running)
include running

theorem recomputeFor_recomputed (e : Option LaneId) : Recomputed s (s.recomputeFor e) false none := by
  unfold State.recomputeFor
  rw [if_pos running]
  exact recomputeAt_recomputed e 3 false none s

theorem recompute_recomputed : Recomputed s s.recompute false none := recomputeFor_recomputed running none

theorem recomputeConversion_recomputed (dp : Option Nat) : Recomputed s (s.recomputeConversion dp) false dp := by
  unfold State.recomputeConversion
  rw [if_pos running]
  exact recomputeAt_recomputed none 3 false dp s

theorem recomputeEntry_recomputed : Recomputed s s.recomputeEntry true none := by
  unfold State.recomputeEntry
  rw [if_pos running]
  exact recomputeAt_recomputed none 3 true none s

end

/-- R97: a recompute keeps every request for a spot. -/
theorem recompute_asks {p : Requester} {c : Fin 16} {s : State} (h : asksFor p c s.asked) : asksFor p c s.recompute.asked := by
  by_cases running : s.part = .running
  · exact (recompute_recomputed running).asks p c h
  · rwa [State.recompute, State.recomputeFor, if_neg running]

end Sys2Proof.Machine
end

section
/-! PROOFS. The Purge Controller (R70 to R85): its triggers, its verification, its judgement and the inlets re-judged. -/

namespace Sys2Proof.Machine

/-! ### The spots that a purge asks for (R83) -/

theorem emit_setScanner (s : State) (x : Scanner) (e : Event) : (s.setScanner x).emit e = (s.emit e).setScanner x := by
  by_cases running : s.part = .running
  · by_cases room : s.unread + 1 < s.lay.eventSize
    · rw [emit_appended running room, emit_appended (s := s.setScanner x) running room]
      rfl
    · rw [emit_counted running room, emit_counted (s := s.setScanner x) running room]
      rfl
  · rw [emit_dropped running, emit_dropped (s := s.setScanner x) running]

theorem purgeSpots_eq (old new : Purge) (s : State) :
    s.purgeSpots old new = s.setScanner (s.purgeSpots old new).scanner := by
  refine eq_of_setScanner ?_
  unfold State.purgeSpots
  have left (t : State) : (t.each old.awaited (fun c t => t.withdrawSpot .purge c)).setScanner Scanner.reset =
      t.setScanner Scanner.reset :=
    each_leaves (State.setScanner · Scanner.reset) (fun c t => t.withdrawSpot .purge c) (fun _ _ => rfl) _ t
  have asked (t : State) : (t.each new.awaited (fun c t => t.requestSpot .purge c)).setScanner Scanner.reset =
      t.setScanner Scanner.reset :=
    each_leaves (State.setScanner · Scanner.reset) (fun c t => t.requestSpot .purge c)
      (fun c t => (congrArg (State.setScanner · Scanner.reset) (requestSpot_scanner t .purge c)).trans rfl) _ t
  by_cases leaves : old.state = .verify <;> by_cases enters : new.state = .verify <;>
    simp only [leaves, enters, if_true, if_false, left, asked]

theorem emit_scanner (s : State) (e : Event) : (s.emit e).scanner = s.scanner := by
  rw [emit_eq]

theorem relamp_scanner (s : State) : s.relamp.scanner = s.scanner := by
  rw [relamp_eq]

theorem purgeLamp_scanner (old new : Purge) (s : State) : (s.purgeLamp old new).scanner = s.scanner := by
  unfold State.purgeLamp
  split
  · exact relamp_scanner _
  · rfl

theorem putPurgeWords_scanner (old : Purge) (s : State) : (s.putPurgeWords old).scanner = s.scanner := by
  rw [putPurgeWords_eq]

theorem changePhase_scanner (phase : PurgeState) (s : State) : (s.changePhase phase).scanner = s.scanner := by
  unfold State.changePhase
  dsimp only
  split <;> rfl

theorem purgeTold_asks {s : State} (running : s.part = .running) {new : Purge} (verify : new.state = .verify) :
    ∀ c ∈ new.awaited, asksFor .purge c (s.purgeTold new none).asked := by
  intro c hc
  unfold State.purgeTold State.purgeSpots
  dsimp only
  rw [if_pos verify]
  refine each_requestSpot_asks ?_ .purge new.awaited c hc
  split
  · exact (each_leaves State.part (fun c t => t.withdrawSpot .purge c) (fun _ _ => rfl) _ s).trans running
  · exact running

/-- R61: what a change within a purge does to its hold. -/
theorem purgeHold_within {old new : Purge} (before : old.state ≠ .idle) (after : new.state ≠ .idle) (s : State) :
    s.purgeHold old new = s.changePhase new.state := by
  unfold State.purgeHold
  rw [if_neg before, if_neg after]

/-- R80, R83: what a purge in VERIFY awaits is asked for. -/
theorem purgeGo_asks {s : State} (running : s.part = .running) {new : Purge} (before : s.purge.state ≠ .idle)
    (verify : new.state = .verify) : ∀ c ∈ new.awaited, asksFor .purge c (s.purgeGo new none).asked := by
  intro c hc
  have told := purgeTold_asks running verify c hc
  have asked {t u : State} (same : u.scanner = t.scanner) (h : asksFor .purge c t.asked) : asksFor .purge c u.asked := by
    rw [State.asked, same]
    exact h
  rw [purgeGo_eq, purgeHold_within before (by rw [verify]; exact nofun)]
  refine asked (purgeLamp_scanner _ _ _) (asked (putPurgeWords_scanner _ _) ?_)
  refine recompute_asks ?_
  exact asked (changePhase_scanner new.state ((s.purgeTold new none).setPurge new)) told

/-- R61, R75: a change within a purge leaves the pairs of the table and gives the phase to PURGE. -/
theorem purgeGo_within {s : State} {new : Purge} (before : s.purge.state ≠ .idle) (after : new.state ≠ .idle) (e : Option Event) :
    (s.purgeGo new e).holds.map HoldRecord.key = s.holds.map HoldRecord.key ∧
      ∀ r, (s.purgeGo new e).holdRecord .purge = some r → r.phase = some new.state := by
  have holds : (s.purgeGo new e).holds = purgeRecords s.purge new s.tagClock s.holds :=
    congrArg Lower.holds (purgeGo_lower new e s)
  unfold State.holdRecord
  rw [holds]
  exact purgeRecords_within before after s.tagClock s.holds

/-- Settles O26: the timer's expiry is a change of the purge to VERIFY, which keeps its requests. -/
theorem purgeTimerExpiryEntersVerify : Obligations.PurgeTimerExpiryEntersVerify := by
  intro s running moves zero
  have due : s.purge.timerDue = true := timerDue_iff.2 ⟨moves, zero⟩
  have before : s.purge.state ≠ .idle := by obtain h | h := moves <;> rw [h] <;> exact nofun
  have expires : exec .purgeTimerExpiry s = .next s.purgeVerify := congrArg Host.Outcome.next (if_pos ⟨running, due⟩)
  have base := purgeVerify_base s
  unfold State.purgeVerify at expires base
  dsimp only at expires base
  generalize hn : ({ s.purge with state := .verify, remaining := none, origin := some s.purge.state, awaited := [4, 5]
                                  results := [] } : Purge) = new at expires base ⊢
  have verify : new.state = .verify := by rw [← hn]
  have awaited : new.awaited = [4, 5] := by rw [← hn]
  obtain ⟨keys, phase⟩ := purgeGo_within before (new := new) (by rw [verify]; exact nofun) none
  rw [verify] at phase
  exact ⟨_, expires, base, purgeGo_purge new none s,
    fun c hc => asksFor_asked (purgeGo_asks running before verify c (by rw [awaited]; simpa using hc)), keys, phase⟩

end Sys2Proof.Machine
end

section
/-! PROOFS. The purge's triggers and its judgement (R73 to R85). -/

namespace Sys2Proof.Machine

/-! ### Triggers (R74 to R77) -/

section
variable {s : State} (c : PurgeCause)

/-- R76: the purge that a trigger begins. -/
def State.triggered (s : State) (c : PurgeCause) : Purge :=
  if s.purge.doorOpen then { s.purge with state := .waitClose, cause := some c, extensions := 0 }
  else s.fullFlow { s.purge with cause := some c, extensions := 0 }

theorem purgeTrigger_idle (idle : s.purge.state = .idle) : s.purgeTrigger c =
    s.purgeGo (s.triggered c) (some ((s.triggered c).event .purgeStarted (w16 (s.triggered c).state.code))) := by
  unfold State.purgeTrigger
  dsimp only
  rw [idle]
  rfl

theorem purgeTrigger_waitClose (wait : s.purge.state = .waitClose) :
    s.purgeTrigger c = s.purgeKeep { s.purge with cause := some c } := by
  unfold State.purgeTrigger
  dsimp only
  rw [wait]

theorem purgeTrigger_scrub (scrub : s.purge.state = .scrub) : s.purgeTrigger c =
    s.purgeKeep { s.purge with cause := some c, extensions := 0, remaining := some (10 * s.lay.scrubTime) } := by
  unfold State.purgeTrigger
  dsimp only
  rw [scrub]

theorem purgeTrigger_verify (verify : s.purge.state = .verify) : s.purgeTrigger c =
    s.purgeGo (s.fullFlow { s.purge with cause := some c, extensions := 0 })
      (s.fullFlow { s.purge with cause := some c, extensions := 0 }).scrubEvent := by
  unfold State.purgeTrigger
  dsimp only
  rw [verify]

end

/-- R73: a purge that enters RUN or SCRUB does so as the inlets allow. -/
theorem flow_entersFlow (s : State) (run scrub : Nat) (p : Purge) : EntersFlow s run scrub (s.flow run scrub p) := by
  unfold State.flow State.purgePick
  constructor
  · intro best
    rw [if_pos best]
    exact ⟨rfl, rfl, rfl⟩
  · intro best other
    rw [if_neg (Bool.eq_false_iff.1 best), if_pos other]
    exact ⟨rfl, rfl, rfl⟩
  · intro best other
    rw [if_neg (Bool.eq_false_iff.1 best), if_neg (Bool.eq_false_iff.1 other)]
    exact ⟨rfl, rfl, rfl⟩

/-- R73: what a purge keeps as it enters RUN or SCRUB. -/
theorem flow_keeps (s : State) (run scrub : Nat) (p : Purge) : (s.flow run scrub p).cause = p.cause ∧
    (s.flow run scrub p).extensions = p.extensions ∧ (s.flow run scrub p).doorOpen = p.doorOpen ∧
    (s.flow run scrub p).results = [] ∧ (s.flow run scrub p).awaited = [] := by
  unfold State.flow
  split <;> exact ⟨rfl, rfl, rfl, rfl, rfl⟩

theorem purgeGo_holds (new : Purge) (e : Option Event) (s : State) :
    (s.purgeGo new e).holds = purgeRecords s.purge new s.tagClock s.holds := congrArg Lower.holds (purgeGo_lower new e s)

/-- R61: a purge that begins raises its hold. -/
theorem purgeGo_raises {s : State} (idle : s.purge.state = .idle) (new : Purge) (e : Option Event) :
    (s.purgeGo new e).hasHold .purge = true := by
  rw [hasHold_iff, purgeGo_holds, purgeRecords, if_pos idle]
  split
  next held => exact (holdsPair_iff _ _).1 held
  · rw [List.map_append]
    exact List.mem_append_right _ (List.mem_singleton_self _)

/-- What PURGE_REQUEST is to come to, once the port has granted it. -/
structure Requested (g t : State) : Prop where
  cause : t.purge.cause = some .service
  base : t.base = g.base
  idle : g.purge.state = .idle → t.purge.extensions = 0 ∧ t.hasHold .purge = true
  waits : g.purge.state = .idle → g.purge.doorOpen = true →
    t.purge = { g.purge with state := .waitClose, cause := some .service, extensions := 0 }
  flows : g.purge.state = .idle → g.purge.doorOpen = false → EntersFlow g g.lay.purgeTime g.lay.scrubTime t.purge
  waitClose : g.purge.state = .waitClose → t.purge = { g.purge with cause := some .service }
  run : g.purge.state = .run →
    t.purge = { g.purge with cause := some .service, extensions := 0, remaining := some (10 * g.lay.purgeTime) }
  scrub : g.purge.state = .scrub →
    t.purge = { g.purge with cause := some .service, extensions := 0, remaining := some (10 * g.lay.scrubTime) }
  verify : g.purge.state = .verify → t.purge.extensions = 0 ∧ t.purge.results = [] ∧ t.purge.awaited = [] ∧
    EntersFlow g g.lay.purgeTime g.lay.scrubTime t.purge

theorem triggered_extensions (s : State) (c : PurgeCause) : (s.triggered c).extensions = 0 := by
  unfold State.triggered
  split
  · rfl
  · exact (flow_keeps s _ _ _).2.1

theorem purgeTrigger_requested (g : State) : Requested g (g.purgeTrigger .service) where
  cause := (purgeTrigger_active g .service).1
  base := purgeTrigger_base .service g
  idle idle := by
    rw [purgeTrigger_idle _ idle, purgeGo_purge]
    exact ⟨triggered_extensions g .service, purgeGo_raises idle _ _⟩
  waits idle door := by
    rw [purgeTrigger_idle _ idle, purgeGo_purge]
    exact if_pos door
  flows idle shut := by
    rw [purgeTrigger_idle _ idle, purgeGo_purge, State.triggered, if_neg (Bool.eq_false_iff.1 shut)]
    exact flow_entersFlow g _ _ _
  waitClose wait := by rw [purgeTrigger_waitClose _ wait, purgeKeep_purge]
  run run := by rw [purgeTrigger_run run, purgeKeep_purge]
  scrub scrub := by rw [purgeTrigger_scrub _ scrub, purgeKeep_purge]
  verify verify := by
    obtain ⟨_, extensions, _, results, awaited⟩ :=
      flow_keeps g g.lay.purgeTime g.lay.scrubTime { g.purge with cause := some .service, extensions := 0 }
    rw [purgeTrigger_verify _ verify, purgeGo_purge]
    exact ⟨extensions, results, awaited, flow_entersFlow g _ _ _⟩

/-- Settles O25: the request is a trigger at the state that the port grants it in. -/
theorem purgeRequestTriggersPurge : Obligations.PurgeRequestTriggersPurge := by
  intro s running
  have taken := service_taken (s := s) (code := 5) running (by decide) rfl
  rw [show exec .purgeRequest s = _ from taken]
  generalize s.atGrant = granted
  intro g p L
  have entersFlow {run scrub : Nat} {q : Purge} (h : EntersFlow (g.forwardWrite 0x40 (.good 5)) run scrub q) :
      EntersFlow g run scrub q := ⟨h.preferred, h.other, h.neither⟩
  obtain ⟨cause, base, idle, waits, flows, waitClose, run, scrub, verify⟩ :=
    purgeTrigger_requested (g.forwardWrite 0x40 (.good 5))
  refine ⟨((g.forwardWrite 0x40 (.good 5)).purgeTrigger .service).offer 0x40 0, rfl, ?_⟩
  generalize (g.forwardWrite 0x40 (.good 5)).purgeTrigger .service = u at *
  refine ⟨cause, (State.base_of_below (State.below_of_lower (offer_lower u _ _))).trans base, ?_, idle, waits,
    fun i d => entersFlow (flows i d), waitClose, run, scrub, fun v => ?_⟩
  · rw [offer_writes, List.getLast?_append]
    rfl
  · obtain ⟨extensions, results, awaited, enters⟩ := verify v
    exact ⟨extensions, results, awaited, entersFlow enters⟩

end Sys2Proof.Machine
end

section
/-! PROOFS. The purge's judgement and the inlets re-judged (R73, R81 to R84). -/

namespace Sys2Proof.Machine

/-! ### What a change of the purge tells (R75, R85) -/

/-- R75: the event of a change of the purge is the first that it queues. -/
theorem purgeGo_writes_event (new : Purge) (e : Event) (s : State) :
    (s.emit e).port.writes <+: (s.purgeGo new (some e)).port.writes := by
  have spots : s.purgeTold new (some e) = (s.emit e).setScanner (s.purgeSpots s.purge new).scanner := by
    rw [← emit_setScanner, ← purgeSpots_eq]
    rfl
  have gone := (purgeGone_tells_event new (some e) s).writes
  rw [spots] at gone
  rw [purgeGo_gone]
  exact List.IsPrefix.trans gone (purgeLamp_tells s.purge new _).writes

theorem purgeSpots_tells {α : Type} {f : EventWriter → α} (old new : Purge) (s : State) : Tells f s (s.purgeSpots old new) := by
  have left (t : State) : Tells f t (if old.state = .verify then t.each old.awaited (fun c t => t.withdrawSpot .purge c) else t) := by
    split
    · exact each_tells (fun c t => withdrawSpot_tells t _ c) _ t
    · exact .refl
  have asked (t : State) : Tells f t (if new.state = .verify then t.each new.awaited (fun c t => t.requestSpot .purge c) else t) := by
    split
    · exact each_tells (fun c t => requestSpot_tells t _ c) _ t
    · exact .refl
  exact (left s).trans (asked _)

/-- R75: a change within a purge that has no event of its own leaves the writer record to the lamp. -/
theorem purgeGone_silent {α : Type} {f : EventWriter → α} {s : State} {new : Purge} (before : s.purge.state ≠ .idle)
    (after : new.state ≠ .idle) : Tells f s (s.purgeGone new none) := by
  unfold State.purgeGone
  rw [purgeHold_within before after]
  exact (putPurgeWords_tells _ _).behind ((tellGovernorPurge_tells _).behind
    ((changePhase_tells _ _).from.behind (purgeSpots_tells _ _ s)))

theorem purgeGo_silent {s : State} {new : Purge} (before : s.purge.state ≠ .idle) (after : new.state ≠ .idle) :
    (s.purge.state ≠ .scrub → new.state ≠ .scrub → (s.purgeGo new none).events = s.events) ∧
      (s.purgeGo new none).events.producer = s.events.producer ∧ (s.purgeGo new none).events.overrun = s.events.overrun := by
  have gone : (s.purgeGone new none).events = s.events := (purgeGone_silent (f := id) before after).kept
  rw [purgeGo_gone, ← gone]
  generalize s.purgeGone new none = t
  unfold State.purgeLamp
  refine ⟨fun old new => ?_, ?_⟩
  · rw [beq_eq_false_iff_ne.2 old, beq_eq_false_iff_ne.2 new]
    rfl
  · split
    · rw [relamp_eq]
      exact ⟨rfl, rfl⟩
    · exact ⟨rfl, rfl⟩

/-! ### The judgement (R84) -/

section
variable {s : State}

/-- R84: a channel that the purge verified was open. -/
def Purge.unverified (p : Purge) : Prop := ∃ r ∈ p.results, r.isOpen = true

/-- R84: both channels that the purge verified are fit. -/
def State.verified (s : State) (p : Purge) : Prop := ∀ r ∈ p.results, s.spotClass r.channel r.value = .ok

theorem purgeJudge_unverified (isOpen : s.purge.unverified) :
    s.purgeJudge = s.purgeEnd .purgeUnverified s.purge.openChannels :=
  if_pos (List.any_eq_true.2 isOpen)

theorem purgeJudge_verified (shut : ¬ s.purge.unverified) (clean : s.verified s.purge) :
    s.purgeJudge = s.purgeEnd .purgeDone (w16 s.purge.extensions) := by
  unfold State.purgeJudge
  dsimp only
  rw [if_neg (fun h => shut (List.any_eq_true.1 h)), if_pos (List.all_eq_true.2 fun r hr => beq_iff_eq.2 (clean r hr))]

theorem purgeJudge_foul (shut : ¬ s.purge.unverified) (foul : ¬ s.verified s.purge) : s.purgeJudge =
    if s.purge.extensions < s.lay.extensionLimit then s.purgeExtend
    else s.purgeEnd .purgeUnresolved (w16 s.purge.extensions) := by
  unfold State.purgeJudge
  dsimp only
  rw [if_neg (fun h => shut (List.any_eq_true.1 h)),
    if_neg (fun h => foul fun r hr => beq_iff_eq.1 (List.all_eq_true.1 h r hr))]

/-- R84: the record of a purge that its foul cabin extends. -/
def State.purgeExtended (s : State) : Purge :=
  s.flow s.lay.extensionTime s.lay.extensionTime { s.purge with extensions := s.purge.extensions + 1 }

theorem purgeExtend_eq (s : State) : s.purgeExtend = s.purgeGo s.purgeExtended s.purgeExtended.scrubEvent := rfl

theorem event_eq {p : Purge} {c : PurgeCause} (cause : p.cause = some c) (kind : EventKind) (value : Word) :
    p.event kind value = { kind := kind, subject := w16 c.code, value := value } := by
  rw [Purge.event, cause]
  rfl

theorem purgeEnd_writes {c : PurgeCause} (cause : s.purge.cause = some c) (kind : EventKind) (value : Word) :
    (s.emit { kind := kind, subject := w16 c.code, value := value }).port.writes <+: (s.purgeEnd kind value).port.writes := by
  rw [← event_eq cause]
  exact purgeGo_writes_event _ _ s

/-- R84, R85: what an extension tells. -/
theorem purgeExtend_tells {c : PurgeCause} (verify : s.purge.state = .verify) (cause : s.purge.cause = some c) :
    (s.purgeExtend.purge.state = .run → s.purgeExtend.events = s.events) ∧
    (s.purgeExtend.purge.state = .scrub →
      (s.emit { kind := .purgeScrub, subject := w16 c.code, value := w16 (s.purge.extensions + 1) }).port.writes
        <+: s.purgeExtend.port.writes) := by
  obtain ⟨same, extensions, -⟩ := flow_keeps s s.lay.extensionTime s.lay.extensionTime
    { s.purge with extensions := s.purge.extensions + 1 }
  have after := flow_ne_idle s s.lay.extensionTime s.lay.extensionTime { s.purge with extensions := s.purge.extensions + 1 }
  rw [purgeExtend_eq, purgeGo_purge, State.purgeExtended]
  generalize s.flow s.lay.extensionTime s.lay.extensionTime { s.purge with extensions := s.purge.extensions + 1 } = new at *
  constructor
  · intro run
    rw [Purge.scrubEvent, if_neg (by rw [run]; exact nofun)]
    exact (purgeGo_silent (by rw [verify]; exact nofun) after).1 (by rw [verify]; exact nofun) (by rw [run]; exact nofun)
  · intro scrub
    rw [Purge.scrubEvent, if_pos scrub, event_eq (same.trans cause), extensions]
    exact purgeGo_writes_event new _ s

/-- R61, R84: a purge that ends has no hold. -/
theorem purgeEnd_ends (verify : s.purge.state = .verify) (distinct : s.holdsDistinct) (kind : EventKind) (value : Word) :
    (s.purgeEnd kind value).purge = { Purge.reset with doorOpen := s.purge.doorOpen } ∧
      (s.purgeEnd kind value).hasHold .purge = false := by
  unfold State.purgeEnd
  refine ⟨purgeGo_purge _ _ s, Bool.eq_false_iff.2 fun held => ?_⟩
  rw [hasHold_iff, purgeGo_holds, purgeRecords, if_neg (by rw [verify]; exact nofun), if_pos (by rfl), dropHold_keys] at held
  exact List.Nodup.not_mem_erase distinct held

/-- R61, R84: an extension keeps its hold. -/
theorem purgeExtend_extends (verify : s.purge.state = .verify) (held : s.hasHold .purge = true) :
    s.purgeExtend.purge.extensions = s.purge.extensions + 1 ∧ s.purgeExtend.purge.cause = s.purge.cause ∧
      s.purgeExtend.purge.doorOpen = s.purge.doorOpen ∧ s.purgeExtend.hasHold .purge = true ∧
      EntersFlow s s.lay.extensionTime s.lay.extensionTime s.purgeExtend.purge := by
  obtain ⟨cause, extensions, door, -⟩ := flow_keeps s s.lay.extensionTime s.lay.extensionTime
    { s.purge with extensions := s.purge.extensions + 1 }
  have keys := (purgeGo_within (s := s) (new := s.purgeExtended) (by rw [verify]; exact nofun) (flow_ne_idle _ _ _ _)
    s.purgeExtended.scrubEvent).1
  rw [purgeExtend_eq, purgeGo_purge, hasHold_iff, keys, ← hasHold_iff]
  exact ⟨extensions, cause, door, held, flow_entersFlow s _ _ _⟩

end

/-! ### Results and inlets (R73, R81 to R83) -/

theorem deliverPurge_other {s : State} {r : SpotResult} (h : s.purge.state ≠ .verify ∨ r.channel ∉ s.purge.awaited) :
    s.deliverPurge r = s := if_neg fun both => h.elim (· both.1) (· both.2)

theorem deliverPurge_awaited {s : State} {r : SpotResult} (verify : s.purge.state = .verify) (awaited : r.channel ∈ s.purge.awaited) :
    s.deliverPurge r =
      let noted := { s.purge with
        awaited := s.purge.awaited.filter (fun c => c ≠ r.channel), results := s.purge.results ++ [r] }
      if noted.awaited.isEmpty then (s.setPurge noted).purgeJudge else s.setPurge noted :=
  if_pos ⟨verify, awaited⟩

theorem purgeAllows_iff {s : State} {i : Inlet} : s.purgeAllows i = true ↔ s.hasHold (.inletBarred i) = false ∧
    (s.damper i.damper).state ≠ .jammed ∧ (s.damper i.damper).estimate ≠ none := by
  simp only [State.purgeAllows, Bool.and_eq_true, Bool.not_eq_true', bne_iff_ne, ne_eq, Option.isSome_iff_ne_none, and_assoc]

/-- R81, R82: what a re-judgement of the inlets changes of the purge, the Governor's view of it and the pairs of the table. -/
structure Rejudged (s t : State) (new : Purge) : Prop where
  purge : t.purge = new
  base : t.base = s.base
  view : t.governor.view.purge = new.state
  viewInlet : t.governor.view.purgeInlet = new.inlet
  keys : t.holds.map HoldRecord.key = s.holds.map HoldRecord.key

theorem purgeGo_rejudged {s : State} {new : Purge} (before : s.purge.state ≠ .idle) (after : new.state ≠ .idle) (e : Option Event) :
    Rejudged s (s.purgeGo new e) new where
  purge := purgeGo_purge new e s
  base := purgeGo_base new e s
  view := congrArg (fun x : Lower => x.view.purge) (purgeGo_lower new e s)
  viewInlet := congrArg (fun x : Lower => x.view.purgeInlet) (purgeGo_lower new e s)
  keys := (purgeGo_within before after e).1

/-- R81: the chosen inlet is exchanged. -/
theorem purgeSwitch_rejudged (i : Inlet) (s : State) : Rejudged s (s.purgeSwitch i) { s.purge with inlet := some i } where
  purge := congrArg (fun x => x.purge) (purgeSwitch_lower i s)
  base := purgeSwitch_base i s
  view := congrArg (fun x : Lower => x.view.purge) (purgeSwitch_lower i s)
  viewInlet := congrArg (fun x : Lower => x.view.purgeInlet) (purgeSwitch_lower i s)
  keys := congrArg (fun x : Lower => x.holds.map HoldRecord.key) (purgeSwitch_lower i s)

section
variable {s : State}

theorem purgeRejudge_other (run : s.purge.state ≠ .run) (scrub : s.purge.state ≠ .scrub) : s.purgeRejudge = s := by
  unfold State.purgeRejudge
  dsimp only
  split
  next h _ => exact absurd h run
  next h => exact absurd h scrub
  · rfl

theorem purgeRejudge_run {i : Inlet} (run : s.purge.state = .run) (inlet : s.purge.inlet = some i) : s.purgeRejudge =
    if s.purgeAllows i then s else if s.purgeAllows i.other then s.purgeSwitch i.other
    else
      let new := { s.purge with state := .scrub, inlet := none, remaining := some (10 * s.lay.scrubTime) }
      s.purgeGo new new.scrubEvent := by
  unfold State.purgeRejudge
  dsimp only
  rw [run, inlet]

/-- R82: the purge that returns from SCRUB to RUN. -/
def State.purgeReturned (s : State) (i : Inlet) : Purge :=
  { s.purge with state := .run, inlet := some i, remaining := some (10 * s.lay.purgeTime) }

theorem purgeRejudge_scrub (scrub : s.purge.state = .scrub) : s.purgeRejudge =
    match s.purgePick with
    | some i => s.purgeGo (s.purgeReturned i) none
    | none => s := by
  unfold State.purgeRejudge
  dsimp only
  rw [scrub]
  rfl

/-- R81: no inlet is left and the purge falls back to SCRUB. -/
theorem purgeRejudge_fallsBack (running : s.part = .running) {new : Purge} (run : s.purge.state = .run)
    (scrub : new.state = .scrub) (cause : new.cause = s.purge.cause) (extensions : new.extensions = s.purge.extensions) :
    let t := s.purgeGo new new.scrubEvent
    Rejudged s t new ∧ (∀ r, t.holdRecord .purge = some r → r.phase = some .scrub) ∧ t.events.scrub = true ∧
      ∀ c, s.purge.cause = some c →
        (s.emit { kind := .purgeScrub, subject := w16 c.code, value := w16 s.purge.extensions }).port.writes
          <+: t.port.writes := by
  have before : s.purge.state ≠ .idle := by rw [run]; exact nofun
  have after : new.state ≠ .idle := by rw [scrub]; exact nofun
  refine ⟨purgeGo_rejudged before after _, ?_, ?_, fun c hc => ?_⟩
  · rw [← scrub]
    exact (purgeGo_within before after _).2
  · exact ((purgeGo_viewed running new _).1 (by rw [run]; exact nofun) scrub).1
  · rw [Purge.scrubEvent, if_pos scrub, event_eq (cause.trans hc), extensions]
    exact purgeGo_writes_event new _ s

/-- R82: an inlet is allowed again and the purge returns to RUN. -/
theorem purgeRejudge_returns (running : s.part = .running) (scrub : s.purge.state = .scrub) (i : Inlet) :
    let t := s.purgeGo (s.purgeReturned i) none
    Rejudged s t (s.purgeReturned i) ∧ (∀ r, t.holdRecord .purge = some r → r.phase = some .run) ∧ t.events.scrub = false ∧
      t.events.producer = s.events.producer ∧ t.events.overrun = s.events.overrun := by
  have before : s.purge.state ≠ .idle := by rw [scrub]; exact nofun
  have after : (s.purgeReturned i).state ≠ .idle := nofun
  exact ⟨purgeGo_rejudged before after _, (purgeGo_within before after _).2, ((purgeGo_viewed running (s.purgeReturned i) none).2 scrub nofun).1,
    (purgeGo_silent before after).2⟩

end

/-- Settles O27, line by line of the judgement and of the re-judgement. -/
theorem purgeJudgedByFirstLine : Obligations.PurgeJudgedByFirstLine := by
  refine ⟨fun s r => ⟨deliverPurge_other, fun verify awaited => ?_⟩, fun s c running verify cause => ?_, fun s i => purgeAllows_iff,
    fun s running => ⟨purgeRejudge_other, fun i run inlet => ?_, fun scrub => ?_⟩, fun s running verify distinct held => ?_⟩
  · rw [deliverPurge_awaited verify awaited]
    exact ⟨fun more => if_neg (by simpa using more), fun none => if_pos (by simpa using none)⟩
  · refine ⟨fun isOpen => ?_, fun shut clean => ?_, fun shut foul limit => ?_, fun shut foul less => ?_⟩
    · rw [purgeJudge_unverified isOpen]
      exact purgeEnd_writes cause _ _
    · rw [purgeJudge_verified shut clean]
      exact purgeEnd_writes cause _ _
    · rw [purgeJudge_foul shut foul, if_neg (Nat.not_lt.2 limit)]
      exact purgeEnd_writes cause _ _
    · rw [purgeJudge_foul shut foul, if_pos less]
      exact purgeExtend_tells verify cause
  · rw [purgeRejudge_run run inlet]
    refine ⟨fun allowed => if_pos allowed, fun barred allowed => ?_, fun barred shut => ?_⟩
    · rw [if_neg (Bool.eq_false_iff.1 barred), if_pos allowed]
      obtain ⟨purge, base, view, viewInlet, keys⟩ := purgeSwitch_rejudged i.other s
      exact ⟨⟨purge, base, view, viewInlet, keys⟩, congrArg Lower.holds (purgeSwitch_lower i.other s),
        (purgeSwitch_tells (f := id) i.other s).kept⟩
    · rw [if_neg (Bool.eq_false_iff.1 barred), if_neg (Bool.eq_false_iff.1 shut)]
      dsimp only
      obtain ⟨⟨purge, base, view, viewInlet, keys⟩, more⟩ := purgeRejudge_fallsBack running
        (new := { s.purge with state := .scrub, inlet := none, remaining := some (10 * s.lay.scrubTime) }) run rfl rfl rfl
      exact ⟨⟨purge, base, view, viewInlet, keys⟩, more⟩
  · have picked {i : Inlet} (pick : s.purgePick = some i) : s.purgeRejudge = s.purgeGo (s.purgeReturned i) none := by
      rw [purgeRejudge_scrub scrub, pick]
    refine ⟨fun best => ?_, fun best other => ?_, fun best other => ?_⟩
    · rw [picked (if_pos best)]
      obtain ⟨⟨purge, base, view, viewInlet, keys⟩, more⟩ := purgeRejudge_returns running scrub s.lay.preferred
      exact ⟨⟨purge, base, view, viewInlet, keys⟩, more⟩
    · rw [picked ((if_neg (Bool.eq_false_iff.1 best)).trans (if_pos other))]
      obtain ⟨⟨purge, base, view, viewInlet, keys⟩, more⟩ := purgeRejudge_returns running scrub s.lay.preferred.other
      exact ⟨⟨purge, base, view, viewInlet, keys⟩, more⟩
    · have none : s.purgePick = none := (if_neg (Bool.eq_false_iff.1 best)).trans (if_neg (Bool.eq_false_iff.1 other))
      rw [purgeRejudge_scrub scrub, none]
  · have present : s.hasHold .purge = true := (held running).1.2 (by rw [verify]; exact nofun)
    refine ⟨fun ends => ?_, fun shut foul less => ?_⟩
    · by_cases isOpen : s.purge.unverified
      · rw [purgeJudge_unverified isOpen]
        exact purgeEnd_ends verify distinct _ _
      · by_cases clean : s.verified s.purge
        · rw [purgeJudge_verified isOpen clean]
          exact purgeEnd_ends verify distinct _ _
        · have limit := (ends.resolve_left isOpen).resolve_left clean
          rw [purgeJudge_foul isOpen clean, if_neg (Nat.not_lt.2 limit)]
          exact purgeEnd_ends verify distinct _ _
    · rw [purgeJudge_foul shut foul, if_pos less]
      exact purgeExtend_extends verify present

end Sys2Proof.Machine
end

section
/-! PROOFS. The Air Grader (R106 to R118): its entries, its classes, its levels and its grades. -/

namespace Sys2Proof.Machine

/-! ### Threshold entries (R108 to R111) -/

theorem allParity_iff (copy : Vector RamWord 4) :
    copy.toList.all RamWord.parityOk = true ↔ ∀ i, (onesCount (copy.get i).data + flag (copy.get i).parity) % 2 = 1 := by
  simp only [← parityOk_iff]
  rw [List.all_eq_true]
  constructor
  · exact fun all i => all _ (by simp [Vector.get])
  · intro all w hw
    obtain ⟨i, lt, rfl⟩ := Vector.mem_iff_getElem.1 (Vector.mem_toList_iff.1 hw)
    exact all ⟨i, lt⟩

theorem parseEntry_eq (copy : Vector RamWord 4) : parseEntry copy =
    { high := (copy.get 0).data.toNat, severe := (copy.get 1).data.toNat, margin := (copy.get 2).data.toNat
      raiseCount := (copy.get 3).data.toNat % 256, lowerCount := (copy.get 3).data.toNat / 256 } := by
  have lt := (copy.get 3).data.isLt
  have low : field (copy.get 3).data 0 8 = (copy.get 3).data.toNat % 256 := by simp [field]
  have high : field (copy.get 3).data 8 8 = (copy.get 3).data.toNat / 256 := by
    unfold field
    omega
  unfold parseEntry
  dsimp only
  rw [low, high]

/-- R108: the four tests of an entry, in their order. -/
theorem entryFault_eq (copy : Vector RamWord 4) : entryFault copy =
    if ¬ ∀ i, (onesCount (copy.get i).data + flag (copy.get i).parity) % 2 = 1 then some .parity
    else if ¬ ((copy.get 0).data.toNat ≤ 4095 ∧ (copy.get 1).data.toNat ≤ 4095 ∧
      (copy.get 0).data.toNat < (copy.get 1).data.toNat) then some .limits
    else if ¬ (copy.get 2).data.toNat < (copy.get 0).data.toNat then some .margin
    else if ¬ ((1 ≤ (copy.get 3).data.toNat % 256 ∧ (copy.get 3).data.toNat % 256 ≤ 15) ∧
      1 ≤ (copy.get 3).data.toNat / 256 ∧ (copy.get 3).data.toNat / 256 ≤ 15) then some .counts
    else none := by
  unfold entryFault
  dsimp only
  rw [parseEntry_eq]
  refine if_congr (by rw [← allParity_iff, Bool.not_eq_true', Bool.not_eq_true]) rfl (if_congr ?_ rfl (if_congr ?_ rfl (if_congr ?_ rfl rfl)))
  · dsimp only
    omega
  · exact Nat.not_lt.symm
  · rw [Bool.not_eq_true', Bool.eq_false_iff, Ne, Bool.and_eq_true, within_iff, within_iff]

/-- R111: a host write to a word of the threshold table. -/
theorem hostWritePlaced_threshold {s : State} {L : Layout} (h : s.takesHost L) (i : Fin 24) (v : Word) :
    s.hostWritePlaced (fun L => L.thresholdBase + i.val) v =
      (s.atGrant.forwardWrite (L.thresholdBase + i.val) (.good v)).takeThreshold i v := by
  have hc := wordClass_threshold (s := s.atGrant) (by rw [takesHost_lay h]; exact h.2.1) i
  unfold State.hostWritePlaced
  rw [takesHost_lay h] at hc
  simp only [h.1, State.hostWriteAt, State.writeGranted, atGrant_running h.2.2]
  exact writeRunning_snooped hc v

/-! ### Levels and grades changed (R116 to R118) -/

theorem changeGrade_grader (first : Bool) (b : Body) (g : Grade) (s : State) :
    (s.changeGrade first b g).grader = { s.grader with grades := s.grader.grades.set b g } := by
  unfold State.changeGrade
  dsimp only
  have notices := congrArg (fun x => x.grader) (gradeNotices_base first b g
    (({ s with grader := { s.grader with grades := s.grader.grades.set b g } } : State).emit
      { kind := .gradeChanged, subject := w16 b.code, value := w16 (g.code + 256 * (s.grader.grades.get b).code) }
      |>.putStatus b.code (w16 g.code)))
  exact notices.trans (congrArg (fun x => x.grader) (emit_base _ _))

theorem levelChanged_channels (c : Fin 6) (s : State) : (s.levelChanged c).grader.channels = s.grader.channels := by
  unfold State.levelChanged
  dsimp only
  split
  · rfl
  · rw [changeGrade_grader]
    rfl

theorem judgeEntry_channels (c : Fin 6) (copy : Vector RamWord 4) (s : State) :
    (s.judgeEntry c copy).grader.channels = vset s.grader.channels c ((s.grading c).judged copy) := by
  have told : ((s.setGrading c ((s.grading c).judged copy)).thresholdEvent c copy).grader.channels =
      vset s.grader.channels c ((s.grading c).judged copy) :=
    congrArg (fun x : Base => x.grader.channels) (thresholdEvent_base c copy _)
  unfold State.judgeEntry
  dsimp only
  split
  · exact (levelChanged_channels c _).trans told
  · split <;> exact told

theorem judged_refused {g : Grading} {copy : Vector RamWord 4} (fault : entryFault copy ≠ none) : g.judged copy =
    { g with copy := some copy, raiseRun := 0, lowerRun := 0, suspended := true } := by
  obtain ⟨reason, h⟩ := Option.ne_none_iff_exists'.1 fault
  unfold Grading.judged
  dsimp only
  rw [h]

theorem judged_consistent {g : Grading} {copy : Vector RamWord 4} (fault : entryFault copy = none) : g.judged copy =
    { g with
      copy := some copy, raiseRun := 0, lowerRun := 0, limits := some (parseEntry copy), suspended := false
      level := if g.suspended && g.openView then .blind else g.level } := by
  unfold Grading.judged
  dsimp only
  rw [fault]

/-- R109: what a judgement leaves of a grading record whatever it finds. -/
theorem judged_fields (g : Grading) (copy : Vector RamWord 4) : (g.judged copy).copy = some copy ∧
    (g.judged copy).raiseRun = 0 ∧ (g.judged copy).lowerRun = 0 ∧ (g.judged copy).openView = g.openView := by
  by_cases fault : entryFault copy = none
  · rw [judged_consistent fault]
    exact ⟨rfl, rfl, rfl, rfl⟩
  · rw [judged_refused fault]
    exact ⟨rfl, rfl, rfl, rfl⟩

/-- R110: the reasons of the four tests of an entry, by the first that fails. -/
theorem firstFault_iff {p l m c : Prop} [Decidable p] [Decidable l] [Decidable m] [Decidable c] {f : Option ThresholdReason}
    (h : f = if ¬ p then some .parity else if ¬ l then some .limits else if ¬ m then some .margin
      else if ¬ c then some .counts else none) :
    (f = none ↔ p ∧ l ∧ m ∧ c) ∧ (f = some .parity ↔ ¬ p) ∧ (f = some .limits ↔ p ∧ ¬ l) ∧
      (f = some .margin ↔ p ∧ l ∧ ¬ m) ∧ (f = some .counts ↔ p ∧ l ∧ m ∧ ¬ c) := by
  by_cases hp : p
  · by_cases hl : l
    · by_cases hm : m
      · by_cases hc : c <;> simp [h, hp, hl, hm, hc]
      · simp [h, hp, hl, hm]
    · simp [h, hp, hl]
  · simp [h, hp]

/-- Settles O31: the tests of an entry, and the write that brings its word. -/
theorem thresholdWriteJudgesItsEntry : Obligations.ThresholdWriteJudgesItsEntry := by
  refine ⟨fun copy => ?_, fun s L i v takes => ?_⟩
  · dsimp only
    obtain ⟨sound, parity, limits, margin, counts⟩ := firstFault_iff (entryFault_eq copy)
    exact ⟨sound, parity, limits, margin, counts, parseEntry_eq copy⟩
  · have writes : exec (.thresholdWrite i v) s = .next ((s.atGrant.forwardWrite (L.thresholdBase + i.val) (.good v)).takeThreshold i v) :=
      congrArg Host.Outcome.next (hostWritePlaced_threshold takes i v)
    rw [writes]
    generalize s.atGrant = g
    intro g x copy
    refine ⟨_, rfl, takeThreshold_ground i v _, ?_⟩
    have channels : ((g.forwardWrite (L.thresholdBase + i.val) (.good v)).takeThreshold i v).grader.channels =
        vset g.grader.channels (entryChannel i) (x.judged copy) := judgeEntry_channels _ _ _
    generalize (g.forwardWrite (L.thresholdBase + i.val) (.good v)).takeThreshold i v = t at channels ⊢
    have own : t.grading (entryChannel i) = x.judged copy := by
      rw [State.grading, channels, vset_get_same]
    obtain ⟨held, raise, lower, view⟩ := judged_fields x copy
    refine ⟨fun c other => ?_, ?_⟩
    · rw [State.grading, channels, vset_get_other _ _ other]
      rfl
    · rw [own]
      refine ⟨held, raise, lower, view, fun fault => ?_, fun fault => ?_⟩
      · rw [judged_refused fault]
        exact ⟨rfl, rfl, rfl⟩
      · rw [judged_consistent fault]
        exact ⟨rfl, rfl, rfl⟩

/-! ### Classes and grades (R112, R116) -/

theorem graded_eq {c : Fin 16} {g : Fin 6} (same : c.val = g.val) : graded c = some g := by
  unfold graded
  rw [dif_pos (by omega)]
  exact congrArg some (Fin.ext same)

theorem spotClass_limits {s : State} {c : Fin 16} {g : Fin 6} {m : Limits} (same : c.val = g.val)
    (limits : (s.grading g).limits = some m) (r : Nat) : s.spotClass c r = m.highClass r := by
  simp only [State.spotClass, graded_eq same, limits]

theorem spotClass_unlimited {s : State} {c : Fin 16} {g : Fin 6} (same : c.val = g.val)
    (unlimited : (s.grading g).limits = none) (r : Nat) : s.spotClass c r = .severe := by
  simp only [State.spotClass, graded_eq same, unlimited]

/-- R112: the class by two limits in their order. -/
theorem classBy_iff {high severe : Nat} (order : high < severe) (r : Nat) :
    let c := if severe ≤ r then Level.severe else if high ≤ r then .high else .ok
    (c = .severe ↔ severe ≤ r) ∧ (c = .high ↔ high ≤ r ∧ r < severe) ∧ (c = .ok ↔ r < high) := by
  intro c
  have cases_ : (c = .severe ∧ severe ≤ r) ∨ (c = .high ∧ high ≤ r ∧ r < severe) ∨ (c = .ok ∧ r < high) := by
    by_cases atSevere : severe ≤ r
    · exact .inl ⟨if_pos atSevere, atSevere⟩
    · by_cases atHigh : high ≤ r
      · exact .inr (.inl ⟨(if_neg atSevere).trans (if_pos atHigh), atHigh, by omega⟩)
      · exact .inr (.inr ⟨(if_neg atSevere).trans (if_neg atHigh), by omega⟩)
  generalize c = x at cases_ ⊢
  obtain ⟨rfl, at_⟩ | ⟨rfl, at_⟩ | ⟨rfl, at_⟩ := cases_
  · exact ⟨by simp [at_], by simp [at_], by simp; omega⟩
  · exact ⟨by simp [at_], by simp [at_], by simp [at_]⟩
  · exact ⟨by simp; omega, by simp; omega, by simp [at_]⟩

/-- R112: the margin only raises a class. -/
theorem highClass_rank_le {m : Limits} (order : m.high < m.severe) (r : Nat) : (m.highClass r).rank ≤ (m.lowClass r).rank := by
  have by_classes {x y : Level} (hx : m.highClass r = x) (hy : m.lowClass r = y) (le : x.rank ≤ y.rank) :
      (m.highClass r).rank ≤ (m.lowClass r).rank := by
    rw [hx, hy]
    exact le
  by_cases severe : m.severe ≤ r
  · exact by_classes (if_pos severe) (if_pos (by omega)) (by decide)
  · by_cases high : m.high ≤ r
    · by_cases low : m.severe - m.margin ≤ r
      · exact by_classes ((if_neg severe).trans (if_pos high)) (if_pos low) (by decide)
      · exact by_classes ((if_neg severe).trans (if_pos high)) ((if_neg low).trans (if_pos (by omega))) (by decide)
    · exact by_classes ((if_neg severe).trans (if_neg high)) rfl (Nat.zero_le _)

/-- Settles O32, by the limits' order and the levels. -/
theorem readingClassesAndBodyGrades : Obligations.ReadingClassesAndBodyGrades := by
  refine ⟨fun m r highSevere marginHigh => ?_, fun a b => ?_, fun s c g r same =>
    ⟨fun unlimited => spotClass_unlimited same unlimited r, fun m limits => spotClass_limits same limits r⟩⟩
  · obtain ⟨severe, high, ok⟩ := classBy_iff highSevere r
    obtain ⟨lowSevere, lowHigh, lowOk⟩ := classBy_iff (show m.high - m.margin < m.severe - m.margin by omega) r
    exact ⟨severe, high, ok, lowSevere, lowHigh, lowOk, highClass_rank_le highSevere r⟩
  · unfold gradeOf
    cases a <;> cases b <;> decide

end Sys2Proof.Machine
end

section
/-! PROOFS. A graded channel's readings, and the changes of grade that they bring (R106, R113 to R118). -/

namespace Sys2Proof.Machine

/-! ### One reading (R113 to R115) -/

section
variable {g : Grading} {m : Limits}

theorem reading_suspended (suspended : g.suspended = true) (r : Nat) (rail isOpen : Bool) :
    g.reading r rail isOpen = { g with openView := isOpen } := by
  unfold Grading.reading
  dsimp only
  rw [suspended]

variable (judges : g.suspended = false) (limits : g.limits = some m)
include judges limits

theorem reading_judges (r : Nat) (rail isOpen : Bool) : g.reading r rail isOpen =
    if isOpen then
      if g.level = .blind then { g with openView := isOpen }
      else { g with openView := isOpen, level := .blind, raiseRun := 0, lowerRun := 0 }
    else if g.level = .blind then
      if rail then { g with openView := isOpen, raiseRun := 0, lowerRun := 0 }
      else { g with openView := isOpen, level := m.highClass r, raiseRun := 0, lowerRun := 0 }
    else ({ g with openView := isOpen } : Grading).confirm m r := by
  unfold Grading.reading
  dsimp only
  rw [judges, limits]

/-- R114: a reading of a channel that is neither OPEN nor BLIND. -/
theorem reading_confirms (sighted : g.level ≠ .blind) (r : Nat) (rail : Bool) :
    g.reading r rail false = ({ g with openView := false } : Grading).confirm m r := by
  rw [reading_judges judges limits, if_neg Bool.false_ne_true, if_neg sighted]

end

section
variable {g : Grading} {m : Limits} {r : Nat}

theorem confirm_raises (up : g.level.rank < (m.highClass r).rank) : g.confirm m r =
    if m.raiseCount ≤ g.raiseRun + 1 then { g with level := m.highClass r, raiseRun := 0, lowerRun := 0 }
    else { g with raiseRun := g.raiseRun + 1, lowerRun := 0 } := if_pos up

theorem confirm_lowers (high : (m.highClass r).rank ≤ g.level.rank) (low : (m.lowClass r).rank < g.level.rank) : g.confirm m r =
    if m.lowerCount ≤ g.lowerRun + 1 then { g with level := m.lowClass r, raiseRun := 0, lowerRun := 0 }
    else { g with raiseRun := 0, lowerRun := g.lowerRun + 1 } :=
  (if_neg (Nat.not_lt.2 high)).trans (if_pos low)

theorem confirm_stays (high : (m.highClass r).rank ≤ g.level.rank) (low : g.level.rank ≤ (m.lowClass r).rank) :
    g.confirm m r = { g with raiseRun := 0, lowerRun := 0 } :=
  (if_neg (Nat.not_lt.2 high)).trans (if_neg (Nat.not_lt.2 low))

end

/-! ### A level changed (R116 to R118) -/

theorem bodyOf_eq {c : Fin 6} {b : Body} (h : (c = 0 ∨ c = 1) ∧ b = .roof ∨ (c = 2 ∨ c = 3) ∧ b = .bumper ∨
    (c = 4 ∨ c = 5) ∧ b = .cab) : bodyOf c = b := by
  obtain ⟨rfl | rfl, rfl⟩ | ⟨rfl | rfl, rfl⟩ | ⟨rfl | rfl, rfl⟩ := h <;> rfl

section
variable {s : State} {c : Fin 6} {b : Body} {new : Grade} (body : bodyOf c = b) (formed : s.formGrade b = new)
include body formed

theorem levelChanged_same (same : new = s.grader.grades.get b) : s.levelChanged c = s.putLevelWord c := by
  subst body formed
  exact if_pos same

theorem levelChanged_changes (changes : new ≠ s.grader.grades.get b) : s.levelChanged c =
    ({ s.putLevelWord c with freeIndex := s.freeIndex + 1 } : State).changeGrade (Config.gradeNoticeTableFirst s.freeIndex)
      b new := by
  subst body formed
  exact if_neg changes

end

/-! ### The Governor's grades through the table's notices (R59, R117) -/

/-- R29: the grades that the Governor has been told. -/
def State.gradesTold (s : State) : PerBody Grade := s.governor.view.grades

theorem gradesTold_of_view {s t : State} (h : t.governor.view = s.governor.view) : t.gradesTold = s.gradesTold :=
  congrArg GovernorView.grades h

theorem purgeGo_gradesTold (new : Purge) (e : Option Event) (s : State) : (s.purgeGo new e).gradesTold = s.gradesTold :=
  congrArg (fun x : Lower => x.view.grades) (purgeGo_lower new e s)

theorem purgeKeep_gradesTold (new : Purge) (s : State) : (s.purgeKeep new).gradesTold = s.gradesTold :=
  congrArg (fun x : Lower => x.view.grades) (purgeKeep_lower new s)

theorem purgeTrigger_gradesTold (c : PurgeCause) (s : State) : (s.purgeTrigger c).gradesTold = s.gradesTold := by
  unfold State.purgeTrigger
  dsimp only
  split
  · exact purgeGo_gradesTold _ _ s
  · exact purgeKeep_gradesTold _ s
  · exact purgeKeep_gradesTold _ s
  · exact purgeKeep_gradesTold _ s
  · exact purgeGo_gradesTold _ _ s

theorem purgeRejudge_gradesTold (s : State) : s.purgeRejudge.gradesTold = s.gradesTold := by
  unfold State.purgeRejudge
  dsimp only
  split
  next i _ _ =>
    split
    · rfl
    · split
      · exact congrArg (fun x : Lower => x.view.grades) (purgeSwitch_lower i.other s)
      · exact purgeGo_gradesTold _ _ s
  · split
    · exact purgeGo_gradesTold _ _ s
    · rfl
  · rfl

theorem tellFollowers_gradesTold (k : HoldKey) (present : Bool) (s : State) :
    (s.tellFollowers k present).gradesTold = s.gradesTold := by
  refine (congrArg (fun x : Lower => x.view.grades) (tellFollowers_lower k present s)).trans ?_
  unfold State.tellPurge
  split
  · exact purgeRejudge_gradesTold s
  · split
    · exact purgeTrigger_gradesTold .cabFoul s
    · rfl
  · rfl

theorem takeRaise_gradesTold (k : HoldKey) (c : HoldCause) (s : State) : (s.takeRaise k c).gradesTold = s.gradesTold := by
  unfold State.takeRaise
  split
  · split
    · rfl
    · exact (tellFollowers_gradesTold k true _).trans (congrArg (fun x : Below => x.view.grades) (createHold_below k c none s))
  · rfl

theorem takeRelease_gradesTold (k : HoldKey) (s : State) : (s.takeRelease k).gradesTold = s.gradesTold := by
  unfold State.takeRelease
  split
  · split
    next r _ =>
      exact (tellFollowers_gradesTold k false _).trans (congrArg (fun x : Below => x.view.grades) (removeHold_below r s))
    · rfl
  · rfl

theorem inletGradeNotice_gradesTold (i : Inlet) (g : Grade) (s : State) : (s.inletGradeNotice i g).gradesTold = s.gradesTold := by
  cases g with
  | clean | suspect => rfl
  | blind | foul => exact takeRaise_gradesTold _ _ s

theorem tableGradeNotice_gradesTold (b : Body) (g : Grade) (s : State) : (s.tableGradeNotice b g).gradesTold = s.gradesTold := by
  unfold State.tableGradeNotice
  split
  · exact inletGradeNotice_gradesTold _ g s
  · exact inletGradeNotice_gradesTold _ g s
  · split
    · exact takeRaise_gradesTold _ _ s
    · exact takeRelease_gradesTold _ s

/-! ### The two deliveries of a grade notice (R57 to R59, R117) -/

theorem governorGradeNotice_lower (b : Body) (g : Grade) (s : State) : (s.governorGradeNotice b g).lower =
    { s.lower with view := { s.governor.view with grades := s.governor.view.grades.set b g } } := recompute_lower _

/-- R117: what a change of grade comes to in the table and in the Governor. -/
structure Graded (s t : State) (b : Body) (g : Grade) : Prop where
  view : t.gradesTold = s.gradesTold.set b g
  holds : ∃ u : State, u.part = s.part ∧ u.holds = s.holds ∧ t.holds = (u.tableGradeNotice b g).holds

theorem gradeNotices_graded (first : Bool) (b : Body) (g : Grade) (s : State) : Graded s (s.gradeNotices first b g) b g := by
  have told (u : State) : (u.governorGradeNotice b g).gradesTold = u.gradesTold.set b g :=
    congrArg (fun x : Lower => x.view.grades) (governorGradeNotice_lower b g u)
  have held (u : State) : (u.governorGradeNotice b g).holds = u.holds := congrArg Lower.holds (governorGradeNotice_lower b g u)
  unfold State.gradeNotices
  split
  · exact ⟨by rw [told, tableGradeNotice_gradesTold], s, rfl, rfl, held _⟩
  · refine ⟨by rw [tableGradeNotice_gradesTold, told], s.governorGradeNotice b g, ?_, held s, rfl⟩
    exact part_of_base (governorGradeNotice_base b g s)

theorem changeGrade_graded (first : Bool) (b : Body) (g : Grade) (s : State) : Graded s (s.changeGrade first b g) b g := by
  unfold State.changeGrade
  dsimp only
  have told := emit_lower ({ s with grader := { s.grader with grades := s.grader.grades.set b g } } : State)
    { kind := .gradeChanged, subject := w16 b.code, value := w16 (g.code + 256 * (s.grader.grades.get b).code) }
  generalize ({ s with grader := { s.grader with grades := s.grader.grades.set b g } } : State).emit
    { kind := .gradeChanged, subject := w16 b.code, value := w16 (g.code + 256 * (s.grader.grades.get b).code) } = v at told ⊢
  obtain ⟨view, u, part, holds, table⟩ := gradeNotices_graded first b g (v.putStatus b.code (w16 g.code))
  have told' : v.gradesTold = s.gradesTold := congrArg (fun x : Lower => x.view.grades) told
  refine ⟨view.trans (congrArg (fun x : PerBody Grade => x.set b g) told'), u, part.trans (congrArg (fun x : Lower => x.part) told),
    holds.trans (congrArg Lower.holds told), table⟩

section
variable {s t : State} (running : s.part = .running)
include running

theorem Graded.cabFoul {g : Grade} (h : Graded s t .cab g) (distinct : s.holdsDistinct) : t.hasHold .cabFoul = true ↔ g = .foul := by
  obtain ⟨_, u, part, holds, table⟩ := h
  rw [hasHold_iff, table]
  unfold State.tableGradeNotice
  dsimp only
  by_cases foul : g = .foul
  · rw [if_pos foul, ← hasHold_iff, takeRaise_hasHold (k := .cabFoul) (part.trans running) nofun]
    simp [foul]
  · rw [if_neg foul, takeRelease_keys (part.trans running), holds]
    simp only [foul, iff_false]
    exact List.Nodup.not_mem_erase distinct

theorem Graded.barred {i : Inlet} {b : Body} {g : Grade} (h : Graded s t b g)
    (inlet : ∀ u : State, u.tableGradeNotice b g = u.inletGradeNotice i g) (bars : g = .foul ∨ g = .blind) :
    t.hasHold (.inletBarred i) = true := by
  obtain ⟨_, u, part, _, table⟩ := h
  rw [hasHold_iff, table, ← hasHold_iff, inlet]
  obtain rfl | rfl := bars
  · exact takeRaise_hasHold (k := .inletBarred i) (part.trans running) nofun _
  · exact takeRaise_hasHold (k := .inletBarred i) (part.trans running) nofun _

end

/-- Settles O33: the reading by its cases, then the grade and its two notices. -/
theorem readingMovesLevelByRuns : Obligations.ReadingMovesLevelByRuns := by
  refine ⟨fun g m r rail limits => ⟨fun isOpen suspended => reading_suspended suspended r rail isOpen, fun judges sighted => ?_,
    fun judges blind => ?_, fun judges blind => ⟨?_, ?_⟩, fun judges sighted up => ?_, fun judges sighted high low => ?_,
    fun judges sighted high low => ?_⟩, fun s c r rail isOpen => rfl, fun s c b body => ?_, fun s first b g running distinct => ?_⟩
  · rw [reading_judges judges limits, if_pos rfl, if_neg sighted]
  · rw [reading_judges judges limits, if_pos rfl, if_pos blind]
  · rw [reading_judges judges limits, if_neg Bool.false_ne_true, if_pos blind, if_pos rfl]
  · rw [reading_judges judges limits, if_neg Bool.false_ne_true, if_pos blind, if_neg Bool.false_ne_true]
  · rw [reading_confirms judges limits sighted]
    exact confirm_raises up
  · rw [reading_confirms judges limits sighted]
    exact confirm_lowers high low
  · rw [reading_confirms judges limits sighted]
    exact confirm_stays high low
  · intro imaged new old graded told
    have formed : s.formGrade b = new := by cases b <;> rfl
    refine ⟨levelChanged_same (bodyOf_eq body) formed, fun changes => ?_⟩
    rw [levelChanged_changes (bodyOf_eq body) formed changes]
    exact ⟨fun first => by rw [first]; rfl, fun first => by rw [first]; rfl⟩
  · have change := changeGrade_graded first b g s
    refine ⟨changeGrade_ground first b g s, changeGrade_grader first b g s, change.view, ?_, ?_, ?_⟩
    · rintro rfl
      exact change.cabFoul running distinct
    · rintro rfl
      exact change.barred running fun _ => rfl
    · rintro rfl
      exact change.barred running fun _ => rfl

end Sys2Proof.Machine
end

section
/-! PROOFS. A door accepted open or closed (R122 to R125, R72, R78, R79). -/

namespace Sys2Proof.Machine

/-! ### The purge's door notices (R72, R78, R79) -/

theorem purgeDoorOpened_leaves (s : State) : PurgeLeaves s s.purgeDoorOpened := by
  unfold State.purgeDoorOpened
  dsimp only
  split
  · exact .of_holds rfl
  · exact .of_holds rfl
  all_goals exact purgeGo_leaves (by exact nofun) _ s

/-- R78: the purge as a door opens. -/
theorem purgeDoorOpened_interrupts (s : State) :
    (s.purge.state = .idle ∨ s.purge.state = .waitClose → s.purgeDoorOpened.purge = { s.purge with doorOpen := true }) ∧
    (s.purge.state = .run ∨ s.purge.state = .scrub ∨ s.purge.state = .verify → s.purgeDoorOpened.purge = { s.purge with
      state := .waitClose, remaining := none, inlet := none, origin := none, awaited := [], results := [], doorOpen := true }) := by
  unfold State.purgeDoorOpened
  dsimp only
  split
  all_goals simp [*, purgeGo_purge]

theorem purgeResume_leaves (s : State) : PurgeLeaves s s.purgeResume := by
  unfold State.purgeResume State.fullFlow
  dsimp only
  split
  · exact purgeGo_leaves (flow_ne_idle _ _ _ _) _ s
  · exact .of_holds rfl

theorem PurgeLeaves.trans {s t u : State} (h : PurgeLeaves s t) (k : PurgeLeaves t u) : PurgeLeaves s u := by
  obtain ⟨a, ha⟩ := h.more
  obtain ⟨b, hb⟩ := k.more
  exact ⟨fun j other => (k.others j other).trans (h.others j other), a ++ b, by rw [hb, ha, List.append_assoc]⟩

theorem PurgeLeaves.hasHold {s t : State} (h : PurgeLeaves s t) {k : HoldKey} (other : k ≠ .purge) : t.hasHold k = s.hasHold k :=
  hasHold_congr (h.others k other)

theorem purgeEpisodeEnded_leaves (trigger : Bool) (s : State) : PurgeLeaves s (s.purgeEpisodeEnded trigger) := by
  unfold State.purgeEpisodeEnded
  split
  · exact (purgeResume_leaves s).trans (purgeTrigger_leaves .doors _)
  · exact purgeResume_leaves s

/-- R79: the purge that has waited for the doors goes on; another keeps all but its door view. -/
theorem purgeResume_resumes (s : State) :
    (s.purge.state ≠ .waitClose → s.purgeResume.purge = { s.purge with doorOpen := false }) ∧
    (s.purge.state = .waitClose → s.purgeResume.purge.state = .run ∨ s.purgeResume.purge.state = .scrub) := by
  unfold State.purgeResume State.fullFlow
  dsimp only
  refine ⟨fun other => ?_, fun waits => ?_⟩
  · rw [if_neg other]
    rfl
  · rw [if_pos waits, purgeGo_purge]
    exact (flow_enters _ _ _ _).1

/-- R76: a trigger leaves a purge that runs or scrubs in its state. -/
theorem purgeTrigger_flows {s : State} (c : PurgeCause) (flows : s.purge.state = .run ∨ s.purge.state = .scrub) :
    (s.purgeTrigger c).purge.state = .run ∨ (s.purgeTrigger c).purge.state = .scrub := by
  obtain run | scrub := flows
  · rw [purgeTrigger_run run, purgeKeep_purge]
    exact .inl run
  · rw [purgeTrigger_scrub c scrub, purgeKeep_purge]
    exact .inr scrub

/-- R72: the purge as the last door closes. -/
theorem purgeEpisodeEnded_ends (trigger : Bool) (s : State) :
    (s.purge.state = .idle → trigger = false → (s.purgeEpisodeEnded trigger).purge = { s.purge with doorOpen := false }) ∧
    (s.purge.state = .idle → trigger = true →
      (s.purgeEpisodeEnded trigger).purge.state ≠ .idle ∧ (s.purgeEpisodeEnded trigger).purge.cause = some .doors) ∧
    (s.purge.state = .waitClose →
      (s.purgeEpisodeEnded trigger).purge.state = .run ∨ (s.purgeEpisodeEnded trigger).purge.state = .scrub) := by
  obtain ⟨stays, resumes⟩ := purgeResume_resumes s
  unfold State.purgeEpisodeEnded
  refine ⟨fun idle short => ?_, fun _ long => ?_, fun waits => ?_⟩
  · rw [short, if_neg Bool.false_ne_true]
    exact stays (by rw [idle]; exact nofun)
  · rw [long, if_pos rfl]
    exact (purgeTrigger_active s.purgeResume .doors).symm
  · split
    · exact purgeTrigger_flows .doors (resumes waits)
    · exact resumes waits

/-! ### Doors (R124, R125) -/

/-- R124: the switches as a door opens. -/
def State.opened (s : State) (d : Door) : Switches :=
  { s.switches with
    openSet := s.switches.doorSet d true
    episodeStart := if s.switches.openCount = 0 then some s.now else s.switches.episodeStart }

/-- R124: the hold and the purge after the notices of a door that opens, by the purge and the switches before them. -/
structure DoorOpened (p : Purge) (w : Switches) (d : Door) (t : State) : Prop where
  switches : t.switches = w
  held : t.hasHold (.doorOpen d) = true
  door : t.purge.doorOpen = true
  waits : p.state = .idle ∨ p.state = .waitClose → t.purge = { p with doorOpen := true }
  interrupts : p.state = .run ∨ p.state = .scrub ∨ p.state = .verify → t.purge = { p with
    state := .waitClose, remaining := none, inlet := none, origin := none, awaited := [], results := [], doorOpen := true }

theorem doorOpened_of_notices {u : State} (running : u.part = .running) (d : Door) :
    DoorOpened u.purge u.switches d (u.takeRaise (.doorOpen d) .input).purgeDoorOpened := by
  have raised := takeRaise_hasHold (k := .doorOpen d) running nofun .input
  have below := takeRaise_below (k := .doorOpen d) (by simp) (by simp) .input u
  generalize u.takeRaise (.doorOpen d) .input = v at raised below ⊢
  have purge : v.purge = u.purge := congrArg Below.purge below
  obtain ⟨waits, interrupts⟩ := purgeDoorOpened_interrupts v
  rw [purge] at waits interrupts
  exact ⟨(switches_of_base (purgeDoorOpened_base v)).trans (switches_of_below below),
    ((purgeDoorOpened_leaves v).hasHold (k := .doorOpen d) nofun).trans raised, (purgeDoorOpened_purge v).1, waits, interrupts⟩

theorem doorOpens_opened {s : State} (running : s.part = .running) (d : Door) :
    DoorOpened s.purge (s.opened d) d (s.doorOpens d) := by
  have opens {u : State} (part : u.part = s.part) (purge : u.purge = s.purge) (switches : u.switches = s.opened d) :
      DoorOpened s.purge (s.opened d) d (u.takeRaise (.doorOpen d) .input).purgeDoorOpened := by
    rw [← purge, ← switches]
    exact doorOpened_of_notices (part.trans running) d
  unfold State.doorOpens
  exact opens (congrArg (fun x : Lower => x.part) (emit_lower _ _)) (congrArg (fun x : Lower => x.purge) (emit_lower _ _))
    (congrArg (fun x : Lower => x.switches) (emit_lower _ _))

/-- R125: the switches as a door closes. -/
def State.shut (s : State) (d : Door) : Switches :=
  { s.switches with
    openSet := s.switches.doorSet d false
    episodeStart := if (s.switches.doorSet d false).toList.countP (fun b => b) = 0 then none else s.switches.episodeStart }

/-- R125: the hold and the purge after the notices of a door that closes, by the purge and the switches before them. -/
structure DoorShut (p : Purge) (w : Switches) (d : Door) (trigger : Bool) (t : State) : Prop where
  switches : t.switches = w
  freed : t.hasHold (.doorOpen d) = false
  more : w.openCount ≠ 0 → t.purge = p
  last : w.openCount = 0 → t.purge.doorOpen = false
  short : w.openCount = 0 → p.state = .idle → trigger = false → t.purge = { p with doorOpen := false }
  long : w.openCount = 0 → p.state = .idle → trigger = true → t.purge.state ≠ .idle ∧ t.purge.cause = some .doors
  resumes : w.openCount = 0 → p.state = .waitClose → t.purge.state = .run ∨ t.purge.state = .scrub

theorem doorShut_of_notices {u : State} (running : u.part = .running) (distinct : u.holdsDistinct) (d : Door) (trigger : Bool) :
    DoorShut u.purge u.switches d trigger (if u.switches.openCount = 0 then (u.takeRelease (.doorOpen d)).purgeEpisodeEnded trigger
      else u.takeRelease (.doorOpen d)) := by
  have freed : (u.takeRelease (.doorOpen d)).hasHold (.doorOpen d) = false := Bool.eq_false_iff.2 fun held => by
    rw [hasHold_iff, takeRelease_keys running] at held
    exact List.Nodup.not_mem_erase distinct held
  have below := takeRelease_below (k := .doorOpen d) (by simp) (by simp) u
  generalize u.takeRelease (.doorOpen d) = v at freed below ⊢
  have purge : v.purge = u.purge := congrArg Below.purge below
  by_cases last : u.switches.openCount = 0
  · obtain ⟨short, long, resumes⟩ := purgeEpisodeEnded_ends trigger v
    rw [purge] at short long resumes
    rw [if_pos last]
    exact ⟨(switches_of_base (purgeEpisodeEnded_base trigger v)).trans (switches_of_below below),
      ((purgeEpisodeEnded_leaves trigger v).hasHold (k := .doorOpen d) nofun).trans freed, fun more => absurd last more,
      fun _ => purgeEpisodeEnded_doorOpen trigger v, fun _ => short, fun _ => long, fun _ => resumes⟩
  · rw [if_neg last]
    exact ⟨switches_of_below below, freed, fun _ => purge, fun h => absurd h last, fun h => absurd h last,
      fun h => absurd h last, fun h => absurd h last⟩

/-- R125: whether the exposure that the last door ends makes a purge. -/
def State.exposed (s : State) : Bool := decide (100 * s.lay.exposureThreshold ≤ s.exposure)

/-- R125: a closed door: its switches, its event, its release and the end of its episode. -/
theorem doorCloses_eq (d : Door) (s : State) : ∃ e, s.doorCloses d =
    if (s.shut d).openCount = 0 then
      ((({ s with switches := s.shut d } : State).emit e).takeRelease (.doorOpen d)).purgeEpisodeEnded s.exposed
    else (({ s with switches := s.shut d } : State).emit e).takeRelease (.doorOpen d) := by
  have lay (w : Switches) (e : Event) : ((({ s with switches := w } : State).emit e).takeRelease (.doorOpen d)).lay = s.lay := by
    have below := (takeRelease_below (k := .doorOpen d) (by simp) (by simp) _).trans (emit_below ({ s with switches := w } : State) e)
    exact congrArg (fun x : Below => x.layout.getD .absent) below
  unfold State.doorCloses State.exposed
  dsimp only
  simp only [lay]
  have start (x : Option Nat) (h : (s.shut d).episodeStart = x) :
      s.shut d = { s.switches with openSet := vset s.switches.openSet d.index false, episodeStart := x } := h ▸ rfl
  by_cases ends : (Switches.openCount { s.switches with openSet := vset s.switches.openSet d.index false } == 0) = true
  · have last : (s.shut d).openCount = 0 := beq_iff_eq.1 ends
    simp only [ends, if_true, if_pos last]
    simp only [start none (if_pos last)]
    exact ⟨_, rfl⟩
  · have more : ¬ (s.shut d).openCount = 0 := fun h => ends (beq_iff_eq.2 h)
    simp only [ends, Bool.false_eq_true, if_false, if_neg more]
    simp only [start s.switches.episodeStart (if_neg more)]
    exact ⟨_, rfl⟩

theorem doorCloses_shut {s : State} (running : s.part = .running) (distinct : s.holdsDistinct) (d : Door) :
    DoorShut s.purge (s.shut d) d s.exposed (s.doorCloses d) := by
  obtain ⟨e, closes⟩ := doorCloses_eq d s
  have same := emit_lower ({ s with switches := s.shut d } : State) e
  rw [closes]
  generalize ({ s with switches := s.shut d } : State).emit e = u at same ⊢
  have switches : u.switches = s.shut d := congrArg (fun x => x.switches) same
  have distinct' : u.holdsDistinct := by
    rw [State.holdsDistinct, show u.holds = s.holds from congrArg Lower.holds same]
    exact distinct
  have shut := doorShut_of_notices ((congrArg (fun x => x.part) same).trans running) distinct' d s.exposed
  rw [switches, show u.purge = s.purge from congrArg (fun x => x.purge) same] at shut
  exact shut

theorem doorOf_input {x : SwitchId × Door} (door : x ∈ doorInputs) : doorOf x.1 = some x.2 := by
  simp only [doorInputs, List.mem_cons, List.not_mem_nil, or_false] at door
  obtain rfl | rfl | rfl | rfl | rfl := door <;> rfl

/-- The inputs of a door's acceptance. -/
theorem switch_of_inputs {s t : State} {i : SwitchId} {x : Switch} (inputs : t.switches.inputs = (s.setSwitch i x).switches.inputs) :
    t.switch i = x ∧ ∀ j, j ≠ i → t.switch j = s.switch j := by
  have same (j : SwitchId) : t.switch j = (s.setSwitch i x).switch j := congrArg (fun v => v.get j.index) inputs
  exact ⟨(same i).trans (setSwitch_same i x s), fun j other => (same j).trans (setSwitch_other i x s other)⟩

/-- Settles O35: the door's notices, then the level that was accepted. -/
theorem doorAcceptedOpensAndCloses : Obligations.DoorAcceptedOpensAndCloses := by
  intro s x door running due distinct
  have accepts : exec (.debounceTimerExpiry x.1) s = .next (s.acceptLevel x.1) :=
    congrArg Host.Outcome.next (if_pos ⟨running, due⟩)
  have base := acceptLevel_base x.1 s
  have accepted := acceptLevel_door (doorOf_input door) s
  have openSet (b : Bool) : (s.setSwitch x.1 (s.switch x.1).settled).switches.doorSet x.2 b = vset s.switches.openSet x.2.index b := rfl
  refine ⟨_, accepts, ?_⟩
  generalize s.acceptLevel x.1 = t at base accepted ⊢
  cases raw : (s.switch x.1).raw with
  | true =>
    rw [if_pos raw] at accepted
    obtain ⟨switches, held, opened, waits, interrupts⟩ :=
      doorOpens_opened (s := s.setSwitch x.1 (s.switch x.1).settled) running x.2
    rw [← accepted] at switches held opened waits interrupts
    obtain ⟨own, others⟩ := switch_of_inputs (s := s) (i := x.1) (x := (s.switch x.1).settled)
      (by rw [switches]; rfl)
    refine ⟨own.trans ?_, others, base, congrArg Switches.openSet switches, held,
      fun _ => ⟨opened, congrArg Switches.episodeStart switches, waits, interrupts⟩, nofun, nofun⟩
    rw [Switch.settled, raw]
  | false =>
    rw [if_neg (by rw [raw]; exact Bool.false_ne_true)] at accepted
    obtain ⟨switches, freed, more, last, short, long, resumes⟩ :=
      doorCloses_shut (s := s.setSwitch x.1 (s.switch x.1).settled) running distinct x.2
    rw [← accepted] at switches freed more last short long resumes
    obtain ⟨own, others⟩ := switch_of_inputs (s := s) (i := x.1) (x := (s.switch x.1).settled)
      (by rw [switches]; rfl)
    rw [← switches] at more last short long resumes
    have start := congrArg Switches.episodeStart switches
    have count : t.switches.openCount = ((s.setSwitch x.1 (s.switch x.1).settled).switches.doorSet x.2 false).toList.countP (fun b => b) := by
      rw [switches]
      rfl
    refine ⟨own.trans ?_, others, base, congrArg Switches.openSet switches, freed, nofun, fun _ some => ⟨more some, ?_⟩,
      fun _ none => ⟨?_, last none, fun idle under => short none idle ?_, fun idle reached => long none idle ?_, resumes none⟩⟩
    · rw [Switch.settled, raw]
    · rw [count] at some
      exact start.trans (if_neg some)
    · rw [count] at none
      exact start.trans (if_pos none)
    · exact decide_eq_false (Nat.not_le.2 under)
    · exact decide_eq_true reached

end Sys2Proof.Machine
end

section
/-! PROOFS. The source that a recompute chooses (R35 to R42) and the openings that it gives. -/

namespace Sys2Proof.Machine

/-! ### Allowed inlets (R35, R36, R38) -/

theorem allowed_iff {s : State} {i : Inlet} : s.allowed i = true ↔ s.InletAllowed i := by
  simp only [State.allowed, State.InletAllowed, Bool.and_eq_true, Bool.not_eq_true', Option.isSome_iff_ne_none, and_assoc]

theorem allowedOf_first {s : State} {i : Inlet} (h : s.InletAllowed i) : s.allowedOf i = some i := if_pos (allowed_iff.2 h)

theorem allowedOf_other {s : State} {i : Inlet} (first : ¬ s.InletAllowed i) (other : s.InletAllowed i.other) :
    s.allowedOf i = some i.other :=
  (if_neg (mt allowed_iff.1 first)).trans (if_pos (allowed_iff.2 other))

theorem allowedOf_none {s : State} {i : Inlet} (first : ¬ s.InletAllowed i) (other : ¬ s.InletAllowed i.other) :
    s.allowedOf i = none :=
  (if_neg (mt allowed_iff.1 first)).trans (if_neg (mt allowed_iff.1 other))

theorem allowedOf_opensFirst (s : State) (i : Inlet) : OpensFirst s i (.ofInlet (s.allowedOf i)) where
  first h := by rw [allowedOf_first h]
  other first h := by rw [allowedOf_other first h]
  neither first other := by rw [allowedOf_none first other]; rfl

theorem allowedOf_allowed {s : State} {i j : Inlet} (h : s.allowedOf i = some j) : s.InletAllowed j := by
  by_cases first : s.InletAllowed i
  · rw [allowedOf_first first] at h
    exact Option.some.inj h ▸ first
  · by_cases other : s.InletAllowed i.other
    · rw [allowedOf_other first other] at h
      exact Option.some.inj h ▸ other
    · rw [allowedOf_none first other] at h
      cases h

theorem ofInlet_eq {x : Option Inlet} {i : Inlet} (h : ChosenSource.ofInlet x = .ofInlet (some i)) : x = some i := by
  cases i <;> rcases x with _ | _ | _ <;> cases h <;> rfl

/-! ### Requests (R39, R42) -/

theorem satisfy_none {s : State} {r : SourceReq} (h : ¬ s.Satisfiable r) : s.satisfy r = none := by
  cases r with
  | recirc => exact absurd trivial h
  | freshRoof => exact if_neg (mt allowed_iff.1 h)
  | freshBumper => exact if_neg (mt allowed_iff.1 h)
  | freshAny =>
    obtain ⟨roof, bumper⟩ := not_or.1 h
    have neither (i : Inlet) : s.allowedOf i = none := by cases i <;> exact allowedOf_none ‹_› ‹_›
    exact congrArg (Option.map _) (neither s.lay.preferred)

theorem satisfy_some {s : State} {r : SourceReq} (h : s.Satisfiable r) : ∃ c, s.satisfy r = some c ∧ s.Gives r c := by
  cases r with
  | recirc => exact ⟨_, rfl, rfl⟩
  | freshRoof => exact ⟨_, if_pos (allowed_iff.2 h), rfl⟩
  | freshBumper => exact ⟨_, if_pos (allowed_iff.2 h), rfl⟩
  | freshAny =>
    have opens := allowedOf_opensFirst s s.lay.preferred
    have open_ : s.InletAllowed s.lay.preferred ∨ s.InletAllowed s.lay.preferred.other := by
      cases s.lay.preferred with
      | roof => exact h
      | bumper => exact h.symm
    obtain ⟨i, hi⟩ : ∃ i, s.allowedOf s.lay.preferred = some i := by
      by_cases first : s.InletAllowed s.lay.preferred
      · exact ⟨_, allowedOf_first first⟩
      · exact ⟨_, allowedOf_other first (open_.resolve_left first)⟩
    rw [hi] at opens
    refine ⟨.ofInlet (some i), ?_, opens⟩
    unfold State.satisfy
    rw [hi]
    rfl

/-- R35: a request that gives an inlet finds it allowed. -/
theorem satisfy_allowed {s : State} {r : SourceReq} {i : Inlet} (h : s.satisfy r = some (.ofInlet (some i))) :
    s.InletAllowed i := by
  have one {j : Inlet} (given : (if s.allowed j = true then some (ChosenSource.ofInlet (some j)) else none) =
      some (.ofInlet (some i))) : s.InletAllowed i := by
    obtain ⟨allowed, same⟩ := Option.ite_none_right_eq_some.1 given
    obtain rfl : j = i := Option.some.inj (ofInlet_eq (Option.some.inj same))
    exact allowed_iff.1 allowed
  cases r with
  | recirc => cases i <;> cases h
  | freshRoof => exact one (j := .roof) h
  | freshBumper => exact one (j := .bumper) h
  | freshAny =>
    obtain ⟨j, hj, same⟩ := Option.map_eq_some_iff.1 h
    exact Option.some.inj (ofInlet_eq same) ▸ allowedOf_allowed hj

theorem metBy_iff {r : SourceReq} {c : ChosenSource} : r.metBy c = true ↔ (r = .recirc ∧ c = .recirc) ∨
    (r = .freshRoof ∧ c = .freshRoof) ∨ (r = .freshBumper ∧ c = .freshBumper) ∨
      (r = .freshAny ∧ (c = .freshRoof ∨ c = .freshBumper)) := by
  cases r <;> simp [SourceReq.metBy]

/-! ### The lanes in rank (R39) -/

theorem mem_ranked {s : State} (ranks : s.lay.ranksOk = true) {l : LaneId} {f : OrderFields} :
    (l, f) ∈ s.ranked ↔ (s.lanes.get l).inForce = some f := by
  obtain ⟨bounds, -⟩ := (ranksOk_iff s.lay).1 ranks
  have rank : s.lay.ranks.get l ∈ [1, 2, 3] := by
    obtain ⟨low, high⟩ := bounds l
    simp only [List.mem_cons, List.not_mem_nil, or_false]
    omega
  simp only [State.ranked, List.mem_flatMap, List.mem_filterMap]
  constructor
  · rintro ⟨r, -, k, -, h⟩
    split at h
    · obtain ⟨g, force, same⟩ := Option.map_eq_some_iff.1 h
      cases same
      exact force
    · cases h
  · intro force
    exact ⟨_, rank, l, mem_allLanes l, by rw [if_pos rfl, force]; rfl⟩

theorem rank_of_mem {s : State} {r : Nat} {p : LaneId × OrderFields}
    (h : p ∈ allLanes.filterMap (fun l => if s.lay.ranks.get l = r then (s.lanes.get l).inForce.map (fun f => (l, f)) else none)) :
    s.lay.ranks.get p.1 = r := by
  obtain ⟨l, -, h⟩ := List.mem_filterMap.1 h
  split at h
  next rank =>
    obtain ⟨g, -, rfl⟩ := Option.map_eq_some_iff.1 h
    exact rank
  · cases h

/-- R39: the lanes stand in the order of their ranks. -/
theorem ranked_sorted {s : State} (ranks : s.lay.ranksOk = true) :
    s.ranked.Pairwise (fun a b => s.lay.ranks.get a.1 < s.lay.ranks.get b.1) := by
  obtain ⟨-, frontCrew, frontScreen, crewScreen⟩ := (ranksOk_iff s.lay).1 ranks
  have distinct : allLanes.Pairwise (fun k l => s.lay.ranks.get k ≠ s.lay.ranks.get l) := by
    simp [allLanes, PerLane.get, frontCrew, frontScreen, crewScreen]
  refine List.pairwise_flatMap.2 ⟨fun r _ => ?_, ?_⟩
  · refine List.pairwise_filterMap.2 (distinct.imp fun {k l} differ a ha b hb => absurd ?_ differ)
    split at ha
    next rk =>
      split at hb
      next rl => exact rk.trans rl.symm
      · cases hb
    · cases ha
  · have sorted : [1, 2, 3].Pairwise (· < ·) := by decide
    refine sorted.imp fun {i j} less a ha b hb => ?_
    rw [rank_of_mem ha, rank_of_mem hb]
    exact less

/-! ### The first lane satisfied (R39) -/

/-- R39: the choice that a lane's order makes. -/
def laneChoice (c : ChosenSource) (l : LaneId) (f : OrderFields) : SourceChoice :=
  { source := c, owner := .lane l, order := some f, blends := true }

section
variable {s : State} {l : LaneId} {f : OrderFields}

theorem firstSatisfied_cons_some {c : ChosenSource} (h : s.satisfy f.source = some c) (xs : List (LaneId × OrderFields)) :
    s.firstSatisfied ((l, f) :: xs) = some (laneChoice c l f) := by
  rw [State.firstSatisfied, h]
  rfl

theorem firstSatisfied_cons_none (h : s.satisfy f.source = none) (xs : List (LaneId × OrderFields)) :
    s.firstSatisfied ((l, f) :: xs) = s.firstSatisfied xs := by
  rw [State.firstSatisfied, h]

end

theorem firstSatisfied_from {s : State} {xs : List (LaneId × OrderFields)} {c : SourceChoice} (h : s.firstSatisfied xs = some c) :
    ∃ l f, (l, f) ∈ xs ∧ c = laneChoice c.source l f ∧ s.satisfy f.source = some c.source := by
  induction xs with
  | nil => cases h
  | cons p xs ih =>
    obtain ⟨l, f⟩ := p
    cases found : s.satisfy f.source with
    | some d =>
      rw [firstSatisfied_cons_some found] at h
      cases h
      exact ⟨l, f, List.mem_cons_self, rfl, found⟩
    | none =>
      rw [firstSatisfied_cons_none found] at h
      obtain ⟨k, g, mem, rest⟩ := ih h
      exact ⟨k, g, List.mem_cons_of_mem _ mem, rest⟩

theorem firstSatisfied_of_sorted {s : State} {xs : List (LaneId × OrderFields)} {l : LaneId} {f : OrderFields} {c : ChosenSource}
    (sorted : xs.Pairwise (fun a b => s.lay.ranks.get a.1 < s.lay.ranks.get b.1)) (mem : (l, f) ∈ xs)
    (less : ∀ k g, (k, g) ∈ xs → s.lay.ranks.get k < s.lay.ranks.get l → s.satisfy g.source = none)
    (found : s.satisfy f.source = some c) : s.firstSatisfied xs = some (laneChoice c l f) := by
  induction xs with
  | nil => cases mem
  | cons p xs ih =>
    obtain ⟨first, sorted⟩ := List.pairwise_cons.1 sorted
    obtain rfl | mem := List.mem_cons.1 mem
    · exact firstSatisfied_cons_some found xs
    · rw [firstSatisfied_cons_none (l := p.1) (less p.1 p.2 List.mem_cons_self (first _ mem))]
      exact ih sorted mem fun k g h => less k g (List.mem_cons_of_mem _ h)

theorem firstSatisfied_none {s : State} {xs : List (LaneId × OrderFields)} (h : ∀ k g, (k, g) ∈ xs → s.satisfy g.source = none) :
    s.firstSatisfied xs = none := by
  induction xs with
  | nil => rfl
  | cons p xs ih =>
    rw [firstSatisfied_cons_none (l := p.1) (h p.1 p.2 List.mem_cons_self)]
    exact ih fun k g mem => h k g (List.mem_cons_of_mem _ mem)

/-! ### The five cases (R36 to R40) -/

section
variable {s : State}

theorem flushing_iff : s.flushing = true ↔ s.hasHold .purge = true ∧ (s.governor.view.purge = .run ∨
    (s.governor.view.purge = .verify ∧ s.governor.view.purgeOrigin = some .run)) := by
  simp [State.flushing]

theorem scrubbing_iff : s.scrubbing = true ↔ s.hasHold .purge = true ∧ (s.governor.view.purge = .scrub ∨
    (s.governor.view.purge = .verify ∧ s.governor.view.purgeOrigin = some .scrub)) := by
  simp [State.scrubbing]

theorem sourceChoice_flush (flush : s.flushing = true) : s.sourceChoice =
    { source := .ofInlet (s.governor.view.purgeInlet.bind s.allowedOf), owner := .purge, order := none, blends := false } :=
  if_pos flush

theorem sourceChoice_scrub (flush : ¬ s.flushing = true) (scrub : s.scrubbing = true) :
    s.sourceChoice = { source := .recirc, owner := .purge, order := none, blends := false } :=
  (if_neg flush).trans (if_pos scrub)

theorem sourceChoice_door (flush : ¬ s.flushing = true) (scrub : ¬ s.scrubbing = true) (door : s.doorHold = true) :
    s.sourceChoice = { source := .ofInlet (s.allowedOf s.lay.preferred), owner := .doors, order := none, blends := false } :=
  (if_neg flush).trans ((if_neg scrub).trans (if_pos door))

/-- R36 to R38: neither the purge nor a door settles the source. -/
structure State.SourceFree (s : State) : Prop where
  flush : ¬ s.flushing = true
  scrub : ¬ s.scrubbing = true
  door : ¬ s.doorHold = true

theorem sourceChoice_lane (free : s.SourceFree) {c : SourceChoice} (h : s.firstSatisfied s.ranked = some c) :
    s.sourceChoice = c := by
  unfold State.sourceChoice
  rw [if_neg free.flush, if_neg free.scrub, if_neg free.door, h]

theorem sourceChoice_default (free : s.SourceFree) (h : s.firstSatisfied s.ranked = none) : s.sourceChoice =
    { source := (s.satisfy s.lay.defaultSource).getD .recirc, owner := .default, order := none, blends := true } := by
  unfold State.sourceChoice
  rw [if_neg free.flush, if_neg free.scrub, if_neg free.door, h]

theorem sourceChoice_cases (s : State) : s.flushing = true ∨ (¬ s.flushing = true ∧ s.scrubbing = true) ∨
    (¬ s.flushing = true ∧ ¬ s.scrubbing = true ∧ s.doorHold = true) ∨ s.SourceFree := by
  by_cases flush : s.flushing = true
  · exact .inl flush
  · by_cases scrub : s.scrubbing = true
    · exact .inr (.inl ⟨flush, scrub⟩)
    · by_cases door : s.doorHold = true
      · exact .inr (.inr (.inl ⟨flush, scrub, door⟩))
      · exact .inr (.inr (.inr ⟨flush, scrub, door⟩))

/-- R41: the blend applies in cases 4 and 5. -/
theorem sourceChoice_blends : s.sourceChoice.blends = true ↔ s.SourceFree := by
  obtain flush | ⟨flush, scrub⟩ | ⟨flush, scrub, door⟩ | free := sourceChoice_cases s
  · rw [sourceChoice_flush flush]
    exact iff_of_false Bool.false_ne_true fun free => free.flush flush
  · rw [sourceChoice_scrub flush scrub]
    exact iff_of_false Bool.false_ne_true fun free => free.scrub scrub
  · rw [sourceChoice_door flush scrub door]
    exact iff_of_false Bool.false_ne_true fun free => free.door door
  · refine iff_of_true ?_ free
    cases found : s.firstSatisfied s.ranked with
    | none => rw [sourceChoice_default free found]
    | some c =>
      obtain ⟨l, f, -, choice, -⟩ := firstSatisfied_from found
      rw [sourceChoice_lane free found, choice]
      rfl

theorem mem_ranked_inForce {l : LaneId} {f : OrderFields} (h : (l, f) ∈ s.ranked) : (s.lanes.get l).inForce = some f := by
  obtain ⟨r, -, h⟩ := List.mem_flatMap.1 h
  obtain ⟨k, -, h⟩ := List.mem_filterMap.1 h
  split at h
  · obtain ⟨g, force, same⟩ := Option.map_eq_some_iff.1 h
    cases same
    exact force
  · cases h

/-- R39, R43: a source has an order exactly where a lane owns it, and it is the lane's. -/
theorem sourceChoice_order (s : State) : (s.sourceChoice.order = none ∧ ∀ l, s.sourceChoice.owner ≠ .lane l) ∨
    ∃ l f, s.sourceChoice.owner = .lane l ∧ s.sourceChoice.order = some f ∧ (s.lanes.get l).inForce = some f := by
  obtain flush | ⟨flush, scrub⟩ | ⟨flush, scrub, door⟩ | free := sourceChoice_cases s
  · rw [sourceChoice_flush flush]
    exact .inl ⟨rfl, nofun⟩
  · rw [sourceChoice_scrub flush scrub]
    exact .inl ⟨rfl, nofun⟩
  · rw [sourceChoice_door flush scrub door]
    exact .inl ⟨rfl, nofun⟩
  · cases found : s.firstSatisfied s.ranked with
    | none =>
      rw [sourceChoice_default free found]
      exact .inl ⟨rfl, nofun⟩
    | some c =>
      obtain ⟨l, f, mem, choice, -⟩ := firstSatisfied_from found
      rw [sourceChoice_lane free found, choice]
      exact .inr ⟨l, f, rfl, rfl, mem_ranked_inForce mem⟩

/-- R35: an inlet that the source opens is allowed. -/
theorem sourceChoice_allowed {i : Inlet} (h : s.sourceChoice.source = .ofInlet (some i)) : s.InletAllowed i := by
  obtain flush | ⟨flush, scrub⟩ | ⟨flush, scrub, door⟩ | free := sourceChoice_cases s
  · rw [sourceChoice_flush flush] at h
    obtain ⟨j, -, given⟩ := Option.bind_eq_some_iff.1 (ofInlet_eq h)
    exact allowedOf_allowed given
  · rw [sourceChoice_scrub flush scrub] at h
    cases i <;> cases h
  · rw [sourceChoice_door flush scrub door] at h
    exact allowedOf_allowed (ofInlet_eq h)
  · cases found : s.firstSatisfied s.ranked with
    | none =>
      rw [sourceChoice_default free found] at h
      cases default : s.satisfy s.lay.defaultSource with
      | none => rw [default] at h; cases i <;> cases h
      | some c =>
        rw [default] at h
        exact satisfy_allowed (default.trans (congrArg some h))
    | some c =>
      obtain ⟨l, f, -, -, given⟩ := firstSatisfied_from found
      rw [sourceChoice_lane free found] at h
      exact satisfy_allowed (given.trans (congrArg some h))

end

end Sys2Proof.Machine
end

section
/-! PROOFS. The Mix Record (R28 to R33, R41 to R48): its fields by the Governor's rules, and a recompute as it makes the
record. -/

namespace Sys2Proof.Machine

/-! ### Openings, the denied set and the filter (R41 to R43) -/

section
variable (s : State) (dp : Option Nat)

/-- R41: whether the blend applies. -/
def State.blending (s : State) : Prop := s.SourceFree ∧ (s.hasHold .heatShed = true ∨ s.hasHold .engineOff = true)

theorem freshOpening_eq [Decidable s.blending] :
    s.freshOpening s.sourceChoice = if s.blending then s.lay.minFresh else 100 := by
  unfold State.freshOpening
  refine if_congr ?_ rfl rfl
  rw [Bool.and_eq_true, sourceChoice_blends, Bool.or_eq_true]
  rfl

theorem nextMix_openings {c : ChosenSource} (source : (s.nextMix dp).2 = c) :
    ((s.nextMix dp).1.roof, (s.nextMix dp).1.bumper, (s.nextMix dp).1.recirc) = openings c (s.freshOpening s.sourceChoice) := by
  rw [← source]
  rfl

/-- R28: the opening that a Mix Record gives an inlet. -/
def Mix.opening (m : Mix) : Inlet → Nat
  | .roof => m.roof
  | .bumper => m.bumper

/-- R35: an inlet that is not allowed stands shut. -/
theorem nextMix_opening_barred {i : Inlet} (barred : ¬ s.InletAllowed i) : (s.nextMix dp).1.opening i = 0 := by
  have shut : s.sourceChoice.source ≠ .ofInlet (some i) := fun h => barred (sourceChoice_allowed h)
  have given := nextMix_openings s dp rfl
  rw [show (s.nextMix dp).2 = s.sourceChoice.source from rfl] at given
  generalize s.sourceChoice.source = c at shut given
  generalize (s.nextMix dp).1 = m at given ⊢
  cases i <;> cases c <;> simp_all [openings, Mix.opening, ChosenSource.ofInlet]

theorem nextMix_denied (l : LaneId) : (s.nextMix dp).1.denied.get l = s.deniedLane (s.nextMix dp).2 l := by
  cases l <;> rfl

theorem deniedLane_iff (c : ChosenSource) (l : LaneId) : s.deniedLane c l = true ↔ ∃ f, (s.lanes.get l).inForce = some f ∧
    ¬ ((f.source = .recirc ∧ c = .recirc) ∨ (f.source = .freshRoof ∧ c = .freshRoof) ∨
      (f.source = .freshBumper ∧ c = .freshBumper) ∨ (f.source = .freshAny ∧ (c = .freshRoof ∨ c = .freshBumper))) := by
  unfold State.deniedLane
  cases force : (s.lanes.get l).inForce with
  | none => simp
  | some f => simp [← metBy_iff]

theorem mayLeak_iff (v : InletView) : v.mayLeak = true ↔ (v.jammed = true ∧ v.estimate ≠ some 0) ∨ v.cleared = true := by
  unfold InletView.mayLeak
  cases h : v.estimate with
  | none => simp
  | some n => simp

/-- R43, the last test: the order that owns the source asks for the filter. -/
def OrderFields.asksThrough (f : OrderFields) (c : ChosenSource) (cab : Grade) : Prop :=
  f.filter = .through ∨ (f.filter = .auto ∧ (c ≠ .recirc ∨ cab = .suspect))

/-- R43: the tests of the filter but the last. -/
def State.airFouled (s : State) (roof bumper : Nat) : Prop :=
  s.purging = true ∨ s.doorHold = true ∨ s.hasHold .cabFoul = true ∨
    (0 < roof ∧ s.governor.view.grades.roof ≠ .clean) ∨ (0 < bumper ∧ s.governor.view.grades.bumper ≠ .clean) ∨
    s.governor.view.roofDamper.mayLeak = true ∨ s.governor.view.bumperDamper.mayLeak = true

theorem through_iff {b : Bool} : (if b = true then FilterSetting.through else .bypass) = .through ↔ b = true := by
  cases b <;> simp

theorem nextFilter_unasked {c : SourceChoice} (order : c.order = none) (roof bumper : Nat) :
    s.nextFilter c roof bumper = .through ↔ s.airFouled roof bumper := by
  unfold State.nextFilter State.airFouled
  dsimp only
  rw [order, through_iff]
  simp only [Bool.or_eq_true, Bool.and_eq_true, decide_eq_true_eq, bne_iff_ne, or_assoc, Bool.false_eq_true, or_false]

theorem nextFilter_asked {c : SourceChoice} {f : OrderFields} (order : c.order = some f) (roof bumper : Nat) :
    s.nextFilter c roof bumper = .through ↔ s.airFouled roof bumper ∨ f.asksThrough c.source s.governor.view.grades.cab := by
  unfold State.nextFilter State.airFouled OrderFields.asksThrough
  dsimp only
  rw [order, through_iff]
  simp only [Bool.or_eq_true, Bool.and_eq_true, decide_eq_true_eq, bne_iff_ne, beq_iff_eq, or_assoc]

/-- R43: the tests of the filter. -/
theorem nextMix_filter : (s.nextMix dp).1.filter = .through ↔ s.airFouled (s.nextMix dp).1.roof (s.nextMix dp).1.bumper ∨
    ∃ l f, (s.nextMix dp).1.owner = .lane l ∧ (s.lanes.get l).inForce = some f ∧
      f.asksThrough (s.nextMix dp).2 s.governor.view.grades.cab := by
  show s.nextFilter s.sourceChoice (s.nextMix dp).1.roof (s.nextMix dp).1.bumper = .through ↔ _
  rw [show (s.nextMix dp).1.owner = s.sourceChoice.owner from rfl, show (s.nextMix dp).2 = s.sourceChoice.source from rfl]
  obtain ⟨order, owner⟩ | ⟨l, f, owner, order, force⟩ := sourceChoice_order s
  · rw [nextFilter_unasked s order]
    exact (or_iff_left fun ⟨l, _, h, _⟩ => owner l h).symm
  · rw [nextFilter_asked s order]
    refine or_congr_right ⟨fun asks => ⟨l, f, owner, force, asks⟩, ?_⟩
    rintro ⟨k, g, owner', force', asks⟩
    obtain rfl : l = k := Owner.lane.inj (owner.symm.trans owner')
    rw [force] at force'
    cases force'
    exact asks

theorem mayLeak_exists : (∃ i, ((s.governor.view.inlet i).jammed = true ∧ (s.governor.view.inlet i).estimate ≠ some 0) ∨
      (s.governor.view.inlet i).cleared = true) ↔
    s.governor.view.roofDamper.mayLeak = true ∨ s.governor.view.bumperDamper.mayLeak = true := by
  simp only [← mayLeak_iff]
  refine ⟨fun ⟨i, h⟩ => ?_, fun h => h.elim (⟨.roof, ·⟩) (⟨.bumper, ·⟩)⟩
  cases i with
  | roof => exact .inl h
  | bumper => exact .inr h

/-! ### Relief, zones and heat (R45 to R48) -/

theorem nextMix_relief_door (door : s.doorHold = true) : (s.nextMix dp).1.relief = 0 := if_pos door

theorem nextMix_relief_purge (door : ¬ s.doorHold = true) (purge : s.purging = true) :
    (s.nextMix dp).1.relief = s.lay.purgeRelief := (if_neg door).trans (if_pos purge)

theorem nextMix_relief_recirc (door : ¬ s.doorHold = true) (purge : ¬ s.purging = true) (recirc : (s.nextMix dp).2 = .recirc) :
    (s.nextMix dp).1.relief = 0 := (if_neg door).trans ((if_neg purge).trans (if_pos recirc))

section
variable {s dp} (door : ¬ s.doorHold = true) (purge : ¬ s.purging = true)
include door purge

theorem nextMix_relief_stays (fresh : (s.nextMix none).2 ≠ .recirc) : (s.nextMix none).1.relief = s.governor.mix.relief :=
  (if_neg door).trans ((if_neg purge).trans (if_neg fresh))

theorem nextMix_relief_steps {f : Nat} (fresh : (s.nextMix (some f)).2 ≠ .recirc) :
    (s.nextMix (some f)).1.relief = s.reliefStep s.governor.mix.relief f :=
  (if_neg door).trans ((if_neg purge).trans (if_neg fresh))

end

theorem reliefStep_cases (present f : Nat) :
    (s.lay.dpSetpoint + s.lay.dpBand < f → s.reliefStep present f = min (present + s.lay.reliefStep) 100) ∧
    (f + s.lay.dpBand < s.lay.dpSetpoint → s.reliefStep present f = present - s.lay.reliefStep) ∧
    (f ≤ s.lay.dpSetpoint + s.lay.dpBand → s.lay.dpSetpoint ≤ f + s.lay.dpBand → s.reliefStep present f = present) := by
  unfold State.reliefStep
  refine ⟨fun h => if_pos h, fun h => ?_, fun h k => ?_⟩
  · rw [if_neg (by omega), if_pos h]
  · rw [if_neg (by omega), if_neg (by omega)]

theorem nextMix_zone (l : LaneId) : (s.nextMix dp).1.zones.get l = s.nextZone l := by
  cases l <;> rfl

theorem demand_zone (l : LaneId) : (∀ f, (s.lanes.get l).inForce = some f → (s.demand l).zone = f.zone) ∧
    ((s.lanes.get l).inForce = none → (s.demand l).zone =
      if (s.lanes.get l).state = .fetch then (s.lanes.get l).carried.zone else s.lay.rest.get l) := by
  unfold State.demand
  refine ⟨fun f force => ?_, fun free => ?_⟩
  · simp only [force]
    rfl
  · simp only [free]
    split <;> rfl

/-- R48: the heat that a lane's order in force asks for by its channel. -/
def State.wantsHeat (s : State) (l : LaneId) (n : Nat) : Prop :=
  ∃ f w, (s.lanes.get l).inForce = some f ∧ f.targetPresent = true ∧ (s.channel l.channel).filtered = some w ∧
    (s.channel l.channel).isOpen = false ∧ n = min ((f.target - w) * s.lay.heatGain / 4) 100

theorem laneHeat_wanted {s : State} {l : LaneId} {n : Nat} (h : s.wantsHeat l n) : s.laneHeat l = n := by
  obtain ⟨f, w, force, target, filtered, shut, rfl⟩ := h
  simp [State.laneHeat, force, filtered, target, shut]

theorem laneHeat_zero_or (l : LaneId) : s.laneHeat l = 0 ∨ s.wantsHeat l (s.laneHeat l) := by
  cases force : (s.lanes.get l).inForce with
  | none => exact .inl (by simp [State.laneHeat, force])
  | some f =>
    cases filtered : (s.channel l.channel).filtered with
    | none => exact .inl (by simp [State.laneHeat, force, filtered])
    | some w =>
      by_cases wants : f.targetPresent = true ∧ (s.channel l.channel).isOpen = false
      · exact .inr ⟨f, w, force, wants.1, filtered, wants.2, by simp [State.laneHeat, force, filtered, wants]⟩
      · exact .inl (by simpa [State.laneHeat, force, filtered] using fun a b => absurd ⟨a, b⟩ wants)

theorem nextMix_heat : (s.nextMix dp).1.heat = max (max (s.laneHeat .front) (s.laneHeat .crew)) (s.laneHeat .screen) := by
  show largest (allLanes.map s.laneHeat) = _
  simp [largest, allLanes]

theorem nextMix_heat_greatest : ((s.nextMix dp).1.heat = 0 ∨ ∃ l, s.wantsHeat l (s.nextMix dp).1.heat) ∧
    ∀ l n, s.wantsHeat l n → n ≤ (s.nextMix dp).1.heat := by
  have greatest : ∃ l, (s.nextMix dp).1.heat = s.laneHeat l := by
    rw [nextMix_heat]
    have pick (a b : Nat) : max a b = a ∨ max a b = b := by omega
    rcases pick (max (s.laneHeat .front) (s.laneHeat .crew)) (s.laneHeat .screen) with h | h
    · rcases pick (s.laneHeat .front) (s.laneHeat .crew) with k | k
      · exact ⟨.front, h.trans k⟩
      · exact ⟨.crew, h.trans k⟩
    · exact ⟨.screen, h⟩
  refine ⟨?_, fun l n wants => ?_⟩
  · obtain ⟨l, h⟩ := greatest
    rw [h]
    exact (laneHeat_zero_or s l).imp_right fun k => ⟨l, k⟩
  · rw [← laneHeat_wanted wants, nextMix_heat]
    cases l <;> omega

end

/-! ### The sources of the five cases (R36 to R40) -/

section
variable {s : State} (dp : Option Nat)

theorem nextMix_flush (flush : s.flushing = true) : (s.nextMix dp).1.owner = .purge ∧
    ∀ i, s.governor.view.purgeInlet = some i → OpensFirst s i (s.nextMix dp).2 := by
  have choice := sourceChoice_flush flush
  refine ⟨congrArg SourceChoice.owner choice, fun i inlet => ?_⟩
  rw [show (s.nextMix dp).2 = .ofInlet (s.governor.view.purgeInlet.bind s.allowedOf) from congrArg SourceChoice.source choice, inlet]
  exact allowedOf_opensFirst s i

theorem nextMix_scrub (flush : ¬ s.flushing = true) (scrub : s.scrubbing = true) :
    (s.nextMix dp).1.owner = .purge ∧ (s.nextMix dp).2 = .recirc :=
  have choice := sourceChoice_scrub flush scrub
  ⟨congrArg SourceChoice.owner choice, congrArg SourceChoice.source choice⟩

theorem nextMix_door (flush : ¬ s.flushing = true) (scrub : ¬ s.scrubbing = true) (door : s.doorHold = true) :
    (s.nextMix dp).1.owner = .doors ∧ OpensFirst s s.lay.preferred (s.nextMix dp).2 := by
  have choice := sourceChoice_door flush scrub door
  refine ⟨congrArg SourceChoice.owner choice, ?_⟩
  rw [show (s.nextMix dp).2 = .ofInlet (s.allowedOf s.lay.preferred) from congrArg SourceChoice.source choice]
  exact allowedOf_opensFirst s _

theorem nextMix_lane (free : s.SourceFree) (ranks : s.lay.ranksOk = true) {l : LaneId} {f : OrderFields}
    (force : (s.lanes.get l).inForce = some f) (met : s.Satisfiable f.source)
    (less : ∀ k g, (s.lanes.get k).inForce = some g → s.lay.ranks.get k < s.lay.ranks.get l → ¬ s.Satisfiable g.source) :
    (s.nextMix dp).1.owner = .lane l ∧ s.Gives f.source (s.nextMix dp).2 := by
  obtain ⟨c, given, gives⟩ := satisfy_some met
  have choice := sourceChoice_lane free (firstSatisfied_of_sorted (ranked_sorted ranks) ((mem_ranked ranks).2 force)
    (fun k g mem rank => satisfy_none (less k g ((mem_ranked ranks).1 mem) rank)) given)
  refine ⟨congrArg SourceChoice.owner choice, ?_⟩
  rw [show (s.nextMix dp).2 = c from congrArg SourceChoice.source choice]
  exact gives

theorem nextMix_default (free : s.SourceFree) (unmet : ∀ l f, (s.lanes.get l).inForce = some f → ¬ s.Satisfiable f.source) :
    (s.nextMix dp).1.owner = .default ∧ (s.lay.defaultSource = .recirc → (s.nextMix dp).2 = .recirc) ∧
      (s.lay.defaultSource = .freshAny → OpensFirst s s.lay.preferred (s.nextMix dp).2) := by
  have choice := sourceChoice_default free (firstSatisfied_none fun k g mem => satisfy_none (unmet k g (mem_ranked_inForce mem)))
  have source : (s.nextMix dp).2 = (s.satisfy s.lay.defaultSource).getD .recirc := congrArg SourceChoice.source choice
  refine ⟨congrArg SourceChoice.owner choice, fun h => ?_, fun h => ?_⟩
  · rw [source, h]
    rfl
  · have opens := allowedOf_opensFirst s s.lay.preferred
    rw [source, h]
    unfold State.satisfy
    cases inlet : s.allowedOf s.lay.preferred with
    | none => rw [inlet] at opens; exact opens
    | some i => rw [inlet] at opens; exact opens

end

end Sys2Proof.Machine
end

section
/-! PROOFS. The Mix Record's rules as a whole, and a recompute as it makes the record (R28 to R48). -/

namespace Sys2Proof.Machine

section
variable (s : State) (dp : Option Nat)

/-- R41: the openings under each chosen source. -/
theorem nextMix_source_openings : let m := (s.nextMix dp).1
    ((s.nextMix dp).2 = .recirc → m.roof = 0 ∧ m.bumper = 0 ∧ m.recirc = 100) ∧
    ((s.nextMix dp).2 = .freshRoof → m.roof = s.freshOpening s.sourceChoice ∧ m.bumper = 0 ∧ m.recirc = 100 - m.roof) ∧
    ((s.nextMix dp).2 = .freshBumper → m.bumper = s.freshOpening s.sourceChoice ∧ m.roof = 0 ∧ m.recirc = 100 - m.bumper) := by
  have fields {c : ChosenSource} (source : (s.nextMix dp).2 = c) := nextMix_openings s dp source
  refine ⟨fun c => ?_, fun c => ?_, fun c => ?_⟩
  all_goals
    have given := fields c
    simp only [openings, Prod.mk.injEq] at given
    obtain ⟨roof, bumper, recirc⟩ := given
    simp only [roof, bumper, recirc, and_self]

/-- R43: the tests of the filter, one by one. -/
theorem nextMix_filter_tests : (s.nextMix dp).1.filter = .through ↔
    (s.hasHold .purge = true ∧
      (s.governor.view.purge = .run ∨ s.governor.view.purge = .scrub ∨ s.governor.view.purge = .verify)) ∨
    (∃ d, s.hasHold (.doorOpen d) = true) ∨ s.hasHold .cabFoul = true ∨
    (0 < (s.nextMix dp).1.roof ∧ s.governor.view.grades.roof ≠ .clean) ∨
    (0 < (s.nextMix dp).1.bumper ∧ s.governor.view.grades.bumper ≠ .clean) ∨
    (∃ i, ((s.governor.view.inlet i).jammed = true ∧ (s.governor.view.inlet i).estimate ≠ some 0) ∨
      (s.governor.view.inlet i).cleared = true) ∨
    ∃ l f, (s.nextMix dp).1.owner = .lane l ∧ (s.lanes.get l).inForce = some f ∧
      f.asksThrough (s.nextMix dp).2 s.governor.view.grades.cab := by
  rw [nextMix_filter, State.airFouled, ← mayLeak_exists, purging_iff, doorHold_iff]
  simp only [or_assoc]

/-- R45, R46: the relief of a fresh source without door or purge. -/
theorem nextMix_relief_fresh (door : ¬ s.doorHold = true) (purge : ¬ s.purging = true) (fresh : (s.nextMix dp).2 ≠ .recirc) :
    let r := s.governor.mix.relief
    (dp = none → (s.nextMix dp).1.relief = r) ∧
    (∀ f, dp = some f →
      (s.lay.dpSetpoint + s.lay.dpBand < f → (s.nextMix dp).1.relief = min (r + s.lay.reliefStep) 100) ∧
      (f + s.lay.dpBand < s.lay.dpSetpoint → (s.nextMix dp).1.relief = r - s.lay.reliefStep) ∧
      (f ≤ s.lay.dpSetpoint + s.lay.dpBand → s.lay.dpSetpoint ≤ f + s.lay.dpBand → (s.nextMix dp).1.relief = r)) := by
  constructor
  · rintro rfl
    exact nextMix_relief_stays door purge fresh
  · rintro f rfl
    rw [nextMix_relief_steps door purge fresh]
    exact reliefStep_cases s _ f

/-- R47: the zones. -/
theorem nextMix_zones (l : LaneId) : (s.purging = true → (s.nextMix dp).1.zones.get l = 100) ∧
    (¬ s.purging = true → (∀ f, (s.lanes.get l).inForce = some f → (s.nextMix dp).1.zones.get l = f.zone) ∧
      ((s.lanes.get l).inForce = none → (s.nextMix dp).1.zones.get l =
        if (s.lanes.get l).state = .fetch then (s.lanes.get l).carried.zone else s.lay.rest.get l)) := by
  rw [nextMix_zone, State.nextZone]
  refine ⟨fun purge => if_pos purge, fun free => ?_⟩
  rw [if_neg free]
  exact demand_zone s l

end

theorem targets_get (m : Mix) (d : Fin 8) : m.targets.get d = m.target d := by
  match d with
  | 0 | 1 | 2 | 4 | 5 | 6 | 7 => rfl
  | 3 =>
    obtain ⟨_, _, _, filter, _⟩ := m
    cases filter <;> rfl

theorem recomputed_target {a b x : Nat} : (if (false || a != b) = true then a else x) = if a = b then x else a := by
  by_cases same : a = b <;> simp [same]

/-- R28: the record that a current state holds is the one that its inputs give. -/
theorem mix_of_current {s : State} (running : s.part = .running) (current : s.mixCurrent) :
    s.governor.mix = (s.nextMix none).1 := congrArg Prod.fst (current running).symm

/-- Settles O51: the record's fields, a recompute of it, and what it comes to in RUNNING. -/
theorem mixRecordKeepsInletRules : Obligations.MixRecordKeepsInletRules := by
  refine ⟨fun s dp => ?_, fun s dp running => ?_, fun s i running current => ?_⟩
  · have flushes := flushing_iff (s := s)
    have scrubs := scrubbing_iff (s := s)
    have purges := purging_iff (s := s)
    have doors := doorHold_iff (s := s)
    intro v m c held flush scrub purge door free blend fresh wants
    have isFree (h : free) : s.SourceFree := ⟨mt flushes.1 h.1, mt scrubs.1 h.2.1, mt doors.1 h.2.2⟩
    have isFresh : fresh (s.freshOpening s.sourceChoice) := by
      have blends : s.blending ↔ blend :=
        and_congr_left' ⟨fun h => ⟨mt flushes.2 h.flush, mt scrubs.2 h.scrub, mt doors.2 h.door⟩, isFree⟩
      classical
      rw [freshOpening_eq]
      exact ⟨fun b => if_pos (blends.2 b), fun b => if_neg (mt blends.1 b)⟩
    obtain ⟨recirc, roof, bumper⟩ := nextMix_source_openings s dp
    obtain ⟨someHeat, mostHeat⟩ := nextMix_heat_greatest s dp
    refine ⟨fun h => nextMix_flush dp (flushes.2 h), fun f h => nextMix_scrub dp (mt flushes.1 f) (scrubs.2 h),
      fun f g h => nextMix_door dp (mt flushes.1 f) (mt scrubs.1 g) (doors.2 h),
      fun f ranks l o force met less => nextMix_lane dp (isFree f) ranks force met less,
      fun f _ unmet => nextMix_default dp (isFree f) unmet, recirc, fun h => ?_, fun h => ?_,
      fun l => ?_, nextMix_filter_tests s dp, fun h => nextMix_relief_door s dp (doors.2 h),
      fun d p => nextMix_relief_purge s dp (mt doors.1 d) (purges.2 p),
      fun d p r => nextMix_relief_recirc s dp (mt doors.1 d) (mt purges.1 p) r,
      fun d p r => nextMix_relief_fresh s dp (mt doors.1 d) (mt purges.1 p) r,
      fun l => ?_, someHeat, mostHeat⟩
    · obtain ⟨opening, rest⟩ := roof h
      exact ⟨opening ▸ isFresh, rest⟩
    · obtain ⟨opening, rest⟩ := bumper h
      exact ⟨opening ▸ isFresh, rest⟩
    · rw [nextMix_denied]
      exact deniedLane_iff s c l
    · obtain ⟨purged, free⟩ := nextMix_zones s dp l
      exact ⟨fun p => purged (purges.2 p), fun p => free (mt purges.1 p)⟩
  · intro old new t u
    have made : Recomputed s t false dp := recomputeConversion_recomputed running dp
    have entered : Recomputed s u true none := recomputeEntry_recomputed running
    have still := recomputeConversion_still s dp
    refine ⟨rfl, congrArg Governor.mix made.governor, congrArg Governor.chosen made.governor,
      (congrArg Governor.view made.governor).trans rfl, congrArg Still.events still, fun d => ?_, fun k => ?_, ?_, made.demand,
      fun l o denied => made.denied l denied o, congrArg Governor.mix entered.governor, fun d => ?_, ?_⟩
    · rw [made.targets d, recomputed_target, targets_get, targets_get]
    · have words := made.words k
      have lay : t.lay = s.lay := congrArg (fun x : Still => x.layout.getD .absent) still
      simp only [State.statusImage, lay, ← Nat.add_assoc] at words
      exact words
    · rw [made.blower, recomputed_target]
    · rw [entered.targets d, targets_get]
      exact if_pos rfl
    · rw [entered.blower]
      exact if_pos rfl
  · rw [mix_of_current running current]
    intro m opening
    have shut (barred : ¬ s.InletAllowed i) : opening = 0 := by
      have h := nextMix_opening_barred s none barred
      cases i <;> exact h
    have through := nextMix_filter_tests s none
    refine ⟨fun h => shut fun a => ?_, fun h => shut fun a => ?_, fun h => shut fun a => a.2.2 h, fun h foul => through.2 ?_,
      fun h => through.2 (.inr (.inr (.inl h))), fun h => ⟨through.2 (.inr (.inl h)), ?_⟩, fun h p => ⟨through.2 (.inl ⟨h, p⟩), ?_⟩,
      fun h p => ?_⟩
    · rw [a.1] at h
      cases h
    · rw [a.2.1] at h
      cases h
    · cases i with
      | roof => exact .inr (.inr (.inr (.inl ⟨h, foul⟩)))
      | bumper => exact .inr (.inr (.inr (.inr (.inl ⟨h, foul⟩))))
    · exact nextMix_relief_door s none (doorHold_iff.2 h)
    · have purge : s.purging = true := purging_iff.2 ⟨h, p⟩
      show (⟨s.nextZone .front, s.nextZone .crew, s.nextZone .screen⟩ : PerLane Nat) = _
      simp only [State.nextZone, purge, if_true]
    · by_cases flush : s.flushing = true
      · exact (nextMix_flush none flush).1
      · refine (nextMix_scrub none flush (scrubbing_iff.2 ⟨h, .inl (p.resolve_left fun run => ?_)⟩)).1
        exact flush (flushing_iff.2 ⟨h, .inl run⟩)

end Sys2Proof.Machine
end

section
/-! PROOFS. How dampers stand through the recomputes and the grants of one moment (R131 to R136, R138 to R140): one that is
JAMMED, one that is poised at an estimate, one that a clearing has queued for homing. -/

namespace Sys2Proof.Machine

/-! ### How a damper stands -/

/-- The stands that the recomputes and the grants of one moment keep. -/
inductive Stand where
  /-- JAMMED, with its frozen estimate and its cause -/
  | jammed (estimate : Option Nat) (cause : Option JamCause)
  /-- at an estimate that it has or moves from -/
  | poised (n : Nat) (cleared : Bool) (cause : Option JamCause)
  /-- cleared, and queued for homing or homing -/
  | cleared

/-- Whether an entry of the Motion Queue suits a stand. -/
def Stand.allows : Stand → Bool → Prop
  | .jammed _ _, _ => False
  | .poised _ _ _, homing => homing = false
  | .cleared, homing => homing = true

/-- R135, R136: a damper that is at an estimate or moves from it, by whether that is its target. -/
def State.poisedAt (s : State) (d : Fin 8) (n : Nat) : Prop :=
  let x := s.damper d
  (x.target = n ∧ (x.state = .atRest ∨ x.state = .seating)) ∨
    (x.target ≠ n ∧ (x.state = .waiting ∨ (x.state = .moving ∧ s.reckoned d = n)))

/-- A damper's own record in a stand. -/
def State.inStand (s : State) (d : Fin 8) : Stand → Prop
  | .jammed estimate cause =>
    (s.damper d).state = .jammed ∧ (s.damper d).estimate = estimate ∧ (s.damper d).jam = cause ∧ (s.damper d).plan = none
  | .poised n cleared cause =>
    ((s.damper d).estimate = some n ∧ (s.damper d).cleared = cleared ∧ (s.damper d).jam = cause) ∧ s.poisedAt d n
  | .cleared =>
    ((s.damper d).estimate = none ∧ (s.damper d).jam = none ∧ (s.damper d).cleared = true) ∧
      ((s.damper d).state = .waiting ∨ (s.damper d).state = .homing)

/-- The entries of a damper in the Motion Queue suit a stand. -/
def State.queuedFor (s : State) (d : Fin 8) (x : Stand) : Prop := ∀ m ∈ s.drive.queue, m.damper = d → x.allows m.homing

/-- A damper stands so. -/
structure State.Stands (s : State) (d : Fin 8) (x : Stand) : Prop where
  queued : s.queuedFor d x
  record : s.inStand d x

/-- What keeps the stands of the dampers but one, in one moment. -/
structure SteersOff (c : Option (Fin 8)) (s t : State) : Prop where
  now : t.now = s.now
  layout : t.layout = s.layout
  stands : ∀ d x, c ≠ some d → State.Stands s d x → State.Stands t d x

/-- What keeps the stands of all dampers. -/
abbrev Steers (s t : State) : Prop := SteersOff none s t

section
variable {s t u : State} {c : Option (Fin 8)}

theorem SteersOff.refl : SteersOff c s s := ⟨rfl, rfl, fun _ _ _ h => h⟩

theorem SteersOff.trans (h : SteersOff c s t) (k : SteersOff c t u) : SteersOff c s u :=
  ⟨k.now.trans h.now, k.layout.trans h.layout, fun d x other hs => k.stands d x other (h.stands d x other hs)⟩

/-- The last part first. -/
theorem SteersOff.behind (k : SteersOff c t u) (h : SteersOff c s t) : SteersOff c s u := h.trans k

theorem SteersOff.off (h : Steers s t) : SteersOff c s t := ⟨h.now, h.layout, fun d x _ => h.stands d x nofun⟩

/-- A damper left as it was, with no new entry in the queue. -/
theorem State.Stands.of_same {d : Fin 8} {x : Stand} (h : s.Stands d x) (now : t.now = s.now) (layout : t.layout = s.layout)
    (damper : t.damper d = s.damper d) (queue : ∀ m, m ∈ t.drive.queue → m.damper = d → m ∈ s.drive.queue) : t.Stands d x := by
  have reckoned : t.reckoned d = s.reckoned d := by
    unfold State.reckoned State.lay
    rw [damper, now, layout]
  refine ⟨fun m hm own => h.queued m (queue m hm own) own, ?_⟩
  have record := h.record
  cases x <;> simpa only [State.inStand, State.poisedAt, damper, reckoned] using record

theorem SteersOff.of_drive (drive : t.drive = s.drive) (now : t.now = s.now) (layout : t.layout = s.layout) : SteersOff c s t :=
  ⟨now, layout, fun d _ _ h => h.of_same now layout (congrArg (fun v : Drive => v.dampers.get d) drive)
    fun _ hm _ => drive ▸ hm⟩

theorem SteersOff.of_lower (lower : t.lower = s.lower) (drive : t.drive = s.drive) : SteersOff c s t :=
  .of_drive drive (congrArg (fun x => x.now) lower) (congrArg (fun x => x.layout) lower)

theorem SteersOff.of_still (still : t.still = s.still) (drive : t.drive = s.drive) : SteersOff c s t :=
  .of_lower (State.lower_of_still still) drive

end

theorem each_steers {α : Type} {f : α → State → State} {c : Option (Fin 8)} (h : ∀ x t, SteersOff c t (f x t)) (xs : List α) (s : State) :
    SteersOff c s (s.each xs f) := by
  unfold State.each
  induction xs generalizing s with
  | nil => exact .refl
  | cons x xs ih => exact (h x s).trans (ih _)

/-! ### Lanes told (R17, R26) -/

section
variable {again : State → State} (ha : ∀ t, Steers t (again t)) (e : Option LaneId)
include ha

theorem leaveSettle_steers (slow : Bool) (l : LaneId) (s : State) : Steers s (s.leaveSettle again slow l) := by
  unfold State.leaveSettle
  split
  · exact .refl
  · exact (ha _).behind (.of_drive rfl rfl rfl)

theorem testSettle_steers (l : LaneId) (s : State) : Steers s (s.testSettle again e l) := by
  unfold State.testSettle
  split
  · exact leaveSettle_steers ha false l s
  · exact .refl

omit ha in
theorem noteJam_steers (d : Fin 8) (l : LaneId) (s : State) : Steers s (s.noteJam d l) := by
  unfold State.noteJam
  split
  · split
    · exact .of_drive rfl rfl rfl
    · exact .refl
  · exact .refl

theorem tellLane_steers (d : Fin 8) (l : LaneId) (s : State) : Steers s (s.tellLane again e d l) := by
  unfold State.tellLane
  split
  · split
    · split
      · exact (testSettle_steers ha e l _).behind (noteJam_steers d l s)
      · exact testSettle_steers ha e l s
    · exact noteJam_steers d l s
    · exact noteJam_steers d l s
    · exact .refl
  · exact .refl

theorem handOnDamper_steers (d : Fin 8) (s : State) : Steers s (s.handOnDamper again e d) :=
  (each_steers (fun l t => tellLane_steers ha e d l t) allLanes _).behind
    (.of_drive (c := none) (t := s.putStatus (25 + d.val) (s.damper d).word) rfl rfl rfl)

/-! ### Motion (R131 to R136) -/

omit ha in
/-- A change of one damper and of its own entries leaves the others. -/
theorem setDrive_steersOff {s : State} {d : Fin 8} {x : Damper} {q : List MotionEntry}
    (queue : ∀ m ∈ q, m.damper ≠ d → m ∈ s.drive.queue) :
    SteersOff (some d) s { s with drive := { dampers := vset s.drive.dampers d x, queue := q } } :=
  ⟨rfl, rfl, fun _ _ other h => h.of_same rfl rfl (vset_get_other _ _ fun same => other (congrArg some same.symm))
    fun m hm own => queue m hm fun same => other (congrArg some (same.symm.trans own))⟩

omit ha in
theorem setDamper_steersOff (s : State) (d : Fin 8) (x : Damper) : SteersOff (some d) s (s.setDamper d x) :=
  setDrive_steersOff fun _ hm _ => hm

/-- A damper ready to move from an estimate. -/
structure State.Ready (s : State) (d : Fin 8) (n : Nat) (cleared : Bool) (cause : Option JamCause) : Prop where
  queued : s.queuedFor d (.poised n cleared cause)
  estimate : (s.damper d).estimate = some n
  cleared : (s.damper d).cleared = cleared
  jam : (s.damper d).jam = cause

/-- R135, R136: a damper record at an estimate, or one that starts from it now. -/
inductive Damper.PoisedAt (now n : Nat) (x : Damper) : Prop
  | rests (target : x.target = n) (state : x.state = .atRest ∨ x.state = .seating)
  | waits (target : x.target ≠ n) (state : x.state = .waiting)
  | moves (target : x.target ≠ n) (state : x.state = .moving) (p : Plan) (plan : x.plan = some p) (start : p.start = some n)
      (began : p.began = now)

omit ha in
theorem damper_setDamper (s : State) (d : Fin 8) (x : Damper) : (s.setDamper d x).damper d = x := vset_get_same _ _ _

omit ha in
theorem Damper.PoisedAt.poisedAt {s : State} {d : Fin 8} {n : Nat} (h : (s.damper d).PoisedAt s.now n) : s.poisedAt d n := by
  cases h with
  | rests target state => exact .inl ⟨target, state⟩
  | waits target state => exact .inr ⟨target, .inl state⟩
  | moves target state p plan start began =>
    refine .inr ⟨target, .inr ⟨state, ?_⟩⟩
    have still : p.travelled (s.lay.travel.get d) s.now = 0 := by simp [Plan.travelled, began]
    unfold State.reckoned Plan.reckoned
    simp only [state, plan, start, still]
    cases p.direction <;> rfl

omit ha in
theorem State.Ready.stands {s : State} {d : Fin 8} {n : Nat} {cleared : Bool} {cause : Option JamCause}
    (h : s.Ready d n cleared cause) (poised : (s.damper d).PoisedAt s.now n) : s.Stands d (.poised n cleared cause) :=
  ⟨h.queued, ⟨h.estimate, h.cleared, h.jam⟩, poised.poisedAt⟩

omit ha in
/-- A ready damper in another state. -/
theorem State.Ready.set {s : State} {d : Fin 8} {n : Nat} {cleared : Bool} {cause : Option JamCause}
    (h : s.Ready d n cleared cause) {x : Damper} (estimate : x.estimate = some n) (clear : x.cleared = (s.damper d).cleared)
    (jam : x.jam = (s.damper d).jam) : (s.setDamper d x).Ready d n cleared cause := by
  refine ⟨h.queued, ?_, ?_, ?_⟩ <;> rw [damper_setDamper]
  · exact estimate
  · exact clear.trans h.cleared
  · exact jam.trans h.jam

/-- R134 to R136: a plan from an estimate leaves the damper poised at it. -/
theorem moveFrom_poises {s : State} {d : Fin 8} {n : Nat} {cleared : Bool} {cause : Option JamCause}
    (h : s.Ready d n cleared cause) : (s.moveFrom again e d n).Stands d (.poised n cleared cause) := by
  have put {x : Damper} (estimate : x.estimate = some n) (clear : x.cleared = (s.damper d).cleared)
      (jam : x.jam = (s.damper d).jam) (poised : x.PoisedAt s.now n) :
      ((s.setDamper d x).handOnDamper again e d).Stands d (.poised n cleared cause) :=
    (handOnDamper_steers ha e d _).stands _ _ nofun ((h.set estimate clear jam).stands (by rw [damper_setDamper]; exact poised))
  unfold State.moveFrom
  dsimp only
  split
  next reached =>
    unfold State.reachTarget
    dsimp only
    split
    · exact put (by exact congrArg some reached.symm) (by exact rfl) (by exact rfl) (.rests (by exact reached.symm) (.inr rfl))
    · exact put (by exact congrArg some reached.symm) (by exact rfl) (by exact rfl) (.rests (by exact reached.symm) (.inl rfl))
  next away => exact put (by exact rfl) (by exact rfl) (by exact rfl) (.moves (fun k => away k.symm) rfl _ rfl rfl rfl)

theorem moveFrom_steersOff (d : Fin 8) (n : Nat) (s : State) : SteersOff (some d) s (s.moveFrom again e d n) := by
  unfold State.moveFrom
  dsimp only
  split
  · exact (handOnDamper_steers ha e d _).off.behind (setDamper_steersOff s d _)
  · exact (handOnDamper_steers ha e d _).off.behind (setDamper_steersOff s d _)

/-- R133: a grant keeps the stand of the damper that it goes to. -/
theorem grantHead_steers (s : State) : Steers s (s.grantHead again e) := by
  unfold State.grantHead
  split
  · exact .refl
  next m ms queue =>
    have popped : SteersOff (some m.damper) s { s with drive := { s.drive with queue := ms } } :=
      ⟨rfl, rfl, fun _ _ _ h => h.of_same rfl rfl rfl fun k hk _ => by rw [queue]; exact List.mem_cons_of_mem _ hk⟩
    have entry {x : Stand} (h : s.Stands m.damper x) : x.allows m.homing := h.queued m (by rw [queue]; exact List.mem_cons_self) rfl
    have rest {x : Stand} (h : s.Stands m.damper x) : ∀ k ∈ ms, k.damper = m.damper → x.allows k.homing := fun k hk =>
      h.queued k (by rw [queue]; exact List.mem_cons_of_mem _ hk)
    dsimp only
    generalize hu : ({ s with drive := { s.drive with queue := ms } } : State) = u at popped ⊢
    have same : u.damper m.damper = s.damper m.damper := by rw [← hu]; rfl
    have left : u.drive.queue = ms := by rw [← hu]
    split
    next homes =>
      have given : SteersOff (some m.damper) s (u.startHoming again e m.damper) :=
        (handOnDamper_steers ha e m.damper _).off.behind ((setDamper_steersOff u m.damper _).behind popped)
      refine ⟨given.now, given.layout, fun d x _ h => ?_⟩
      by_cases own : m.damper = d
      · subst own
        have allowed := entry h
        rw [homes] at allowed
        cases x with
        | jammed => cases allowed
        | poised => cases allowed
        | cleared =>
          have queued := rest h
          obtain ⟨estimate, jam, cleared⟩ := h.record.1
          refine (handOnDamper_steers ha e m.damper _).stands _ _ nofun ⟨fun k hk => queued k (left ▸ hk), ?_⟩
          unfold State.inStand
          rw [damper_setDamper, same]
          exact ⟨⟨estimate, jam, cleared⟩, .inr rfl⟩
      · exact given.stands d x (fun k => own (Option.some.inj k)) h
    next moves =>
      have given : SteersOff (some m.damper) s (u.moveFrom again e m.damper ((u.damper m.damper).estimate.getD 0)) :=
        (moveFrom_steersOff ha e m.damper _ u).behind popped
      refine ⟨given.now, given.layout, fun d x _ h => ?_⟩
      by_cases own : m.damper = d
      · subst own
        have allowed := entry h
        cases x with
        | jammed => cases allowed
        | cleared => exact absurd allowed moves
        | poised n cleared cause =>
          have queued := rest h
          obtain ⟨estimate, clear, jam⟩ := h.record.1
          rw [same, estimate]
          exact moveFrom_poises ha e ⟨fun k hk => queued k (left ▸ hk), by rw [same]; exact estimate, by rw [same]; exact clear,
            by rw [same]; exact jam⟩
      · exact given.stands d x (fun k => own (Option.some.inj k)) h

theorem giveGrants_steers (n : Nat) (s : State) : Steers s (State.giveGrants again e n s) := by
  induction n generalizing s with
  | zero => exact .refl
  | succ n ih =>
    unfold State.giveGrants
    split
    · exact (grantHead_steers ha e s).trans (ih _)
    · exact .refl

theorem grant_steers (s : State) : Steers s (s.grant again e) := giveGrants_steers ha e _ s

theorem replan_poises {s : State} {d : Fin 8} {n : Nat} {cleared : Bool} {cause : Option JamCause}
    (h : s.Ready d n cleared cause) : (s.replan again e d n).Stands d (.poised n cleared cause) := by
  have moved := moveFrom_poises ha e h
  unfold State.replan
  dsimp only
  split
  · exact (grant_steers ha e _).stands _ _ nofun moved
  · exact moved

theorem replan_steersOff (d : Fin 8) (n : Nat) (s : State) : SteersOff (some d) s (s.replan again e d n) := by
  unfold State.replan
  dsimp only
  split
  · exact (grant_steers ha e _).off.behind (moveFrom_steersOff ha e d n s)
  · exact moveFrom_steersOff ha e d n s

omit ha in
/-- R132: a damper put at the back of the queue. -/
theorem queued_append {s : State} {d : Fin 8} {x : Stand} {homing : Bool} (h : s.queuedFor d x) (suits : x.allows homing) :
    ∀ m ∈ s.drive.queue ++ [MotionEntry.mk d homing], m.damper = d → x.allows m.homing := fun m hm own =>
  (List.mem_append.1 hm).elim (h m · own) fun last => by rw [List.mem_singleton.1 last]; exact suits

theorem joinMotion_poises {s : State} {d : Fin 8} {n : Nat} {cleared : Bool} {cause : Option JamCause}
    (h : s.Ready d n cleared cause) (away : (s.damper d).target ≠ n) : (s.joinMotion again e d).Stands d (.poised n cleared cause) := by
  unfold State.joinMotion
  dsimp only
  refine (grant_steers ha e _).stands _ _ nofun ((handOnDamper_steers ha e d _).stands _ _ nofun ?_)
  have waits := h.set (x := { s.damper d with state := .waiting, plan := none }) h.estimate rfl rfl
  generalize hu : s.setDamper d { s.damper d with state := .waiting, plan := none } = u at waits
  have own : u.damper d = { s.damper d with state := .waiting, plan := none } := by rw [← hu, damper_setDamper]
  have joined : ({ u with drive := { u.drive with queue := u.drive.queue ++ [MotionEntry.mk d false] } } : State).Ready d n
      cleared cause := ⟨queued_append waits.queued rfl, waits.estimate, waits.cleared, waits.jam⟩
  refine joined.stands (.waits ?_ ?_)
  · exact fun same => away ((congrArg Damper.target own).symm.trans same)
  · exact congrArg Damper.state own

theorem joinMotion_steersOff (d : Fin 8) (s : State) : SteersOff (some d) s (s.joinMotion again e d) := by
  unfold State.joinMotion
  dsimp only
  refine (grant_steers ha e _).off.behind ((handOnDamper_steers ha e d _).off.behind ?_)
  exact setDrive_steersOff fun m hm other => (List.mem_append.1 hm).elim id fun last => by
    rw [List.mem_singleton.1 last] at other
    exact absurd rfl other

omit ha in
theorem reckoned_setTarget (s : State) (d : Fin 8) (g : Nat) :
    (s.setDamper d { s.damper d with target := g }).reckoned d = s.reckoned d := by
  unfold State.reckoned
  rw [damper_setDamper]
  rfl

omit ha in
theorem State.Stands.setTarget {s : State} {d : Fin 8} {n : Nat} {cleared : Bool} {cause : Option JamCause}
    (h : s.Stands d (.poised n cleared cause)) (g : Nat) :
    (s.setDamper d { s.damper d with target := g }).Ready d n cleared cause :=
  have ready : s.Ready d n cleared cause := ⟨h.queued, h.record.1.1, h.record.1.2.1, h.record.1.2.2⟩
  ready.set h.record.1.1 rfl rfl

/-- R131: a new target leaves the damper in its stand. -/
theorem takeTarget_poises {s : State} {d : Fin 8} {n : Nat} {cleared : Bool} {cause : Option JamCause}
    (h : s.Stands d (.poised n cleared cause)) (g : Nat) : (s.takeTarget again e d g).Stands d (.poised n cleared cause) := by
  have ready := h.setTarget g
  have reckoned := reckoned_setTarget s d g
  have own := damper_setDamper s d { s.damper d with target := g }
  obtain ⟨⟨estimate, -, -⟩, poised⟩ := h.record
  unfold State.takeTarget
  dsimp only
  generalize s.setDamper d { s.damper d with target := g } = u at ready reckoned own ⊢
  have target : (u.damper d).target = g := congrArg Damper.target own
  have state : (u.damper d).state = (s.damper d).state := (congrArg Damper.state own).trans rfl
  rw [state, ready.estimate]
  obtain ⟨-, rests | seats⟩ | ⟨-, waits | ⟨moves, at_⟩⟩ := poised
  · rw [rests]
    dsimp only
    split
    next same => exact ready.stands (.rests (target.trans same.symm) (.inl (state.trans rests)))
    next away => exact joinMotion_poises ha e ready (by rw [target]; exact fun k => away k.symm)
  · rw [seats]
    exact replan_poises ha e ready
  · rw [waits]
    dsimp only
    split
    next same =>
      have left : (u.leaveMotion d).Ready d n cleared cause :=
        ⟨fun m hm own => ready.queued m ((List.mem_filter.1 hm).1) own, ready.estimate, ready.cleared, ready.jam⟩
      have rested := left.set (x := { u.damper d with state := .atRest, estimate := some n }) rfl rfl rfl
      refine (handOnDamper_steers ha e d _).stands _ _ nofun (rested.stands ?_)
      rw [damper_setDamper]
      exact .rests (target.trans same.symm) (.inl rfl)
    next away => exact ready.stands (.waits (by rw [target]; exact fun k => away k.symm) (state.trans waits))
  · rw [moves]
    dsimp only
    rw [reckoned, at_]
    exact replan_poises ha e ready

theorem takeTarget_steersOff (d : Fin 8) (g : Nat) (s : State) : SteersOff (some d) s (s.takeTarget again e d g) := by
  have set := setDamper_steersOff s d { s.damper d with target := g }
  unfold State.takeTarget
  dsimp only
  generalize s.setDamper d { s.damper d with target := g } = u at set ⊢
  split
  · split
    · exact set
    · exact (joinMotion_steersOff ha e d u).behind set
  · split
    · refine (handOnDamper_steers ha e d _).off.behind (SteersOff.behind ?_ set)
      exact setDrive_steersOff fun m hm _ => (List.mem_filter.1 hm).1
    · exact set
  · exact (replan_steersOff ha e d _ u).behind set
  · exact (replan_steersOff ha e d _ u).behind set
  · exact set

theorem takeTarget_steers (d : Fin 8) (g : Nat) (s : State) : Steers s (s.takeTarget again e d g) := by
  have off := takeTarget_steersOff ha e d g s
  refine ⟨off.now, off.layout, fun c x _ h => ?_⟩
  by_cases own : d = c
  · subst own
    have target (record : ∀ k, (s.damper d).state ≠ .atRest ∧ (s.damper d).state ≠ .moving ∧
        (s.damper d).state ≠ .seating ∧ ((s.damper d).state = .waiting → (s.damper d).estimate ≠ some k)) :
        s.takeTarget again e d g = s.setDamper d { s.damper d with target := g } := by
      unfold State.takeTarget
      dsimp only
      rw [damper_setDamper]
      dsimp only
      split
      next k rests _ => exact absurd rests (record k).1
      next k waits at_ => exact absurd at_ ((record k).2.2.2 waits)
      next moves => exact absurd moves (record 0).2.1
      next k seats _ => exact absurd seats (record k).2.2.1
      · rfl
    cases x with
    | poised n cleared cause => exact takeTarget_poises ha e h g
    | jammed estimate cause =>
      obtain ⟨state, rest⟩ := h.record
      rw [target fun k => by simp [state]]
      refine ⟨h.queued, ?_⟩
      unfold State.inStand
      rw [damper_setDamper]
      exact ⟨state, rest⟩
    | cleared =>
      obtain ⟨⟨estimate, jam, cleared⟩, state⟩ := h.record
      rw [target fun k => by obtain state | state := state <;> simp [state, estimate]]
      refine ⟨h.queued, ?_⟩
      unfold State.inStand
      rw [damper_setDamper]
      exact ⟨⟨estimate, jam, cleared⟩, state⟩
  · exact off.stands c x (fun k => own (Option.some.inj k)) h

end

end Sys2Proof.Machine
end

section
/-! PROOFS. The dampers' stands through the recompute and through the notices that a damper gives (R30 to R33, R54 to R56,
R73, R130). -/

namespace Sys2Proof.Machine

/-! ### The recompute (R30 to R33) -/

theorem emit_drive (s : State) (e : Event) : (s.emit e).drive = s.drive := by
  rw [emit_eq]

theorem emit_steers {c : Option (Fin 8)} (s : State) (e : Event) : SteersOff c s (s.emit e) :=
  .of_lower (emit_lower s e) (emit_drive s e)

theorem handTarget_steers {again : State → State} (ha : ∀ t, Steers t (again t)) (e : Option LaneId) (entry : Bool) (old new : Mix)
    (d : Fin 8) (s : State) : Steers s (s.handTarget again e entry old new d) := by
  unfold State.handTarget
  split
  · exact takeTarget_steers ha e d _ s
  · exact .refl

theorem tellDenied_steers (m : Mix) (l : LaneId) (s : State) : Steers s (s.tellDenied m l) := by
  unfold State.tellDenied
  split
  · split
    · exact .of_drive rfl rfl rfl
    · exact .refl
  · exact .refl

theorem handBlower_steers (v : Nat) (s : State) : Steers s (s.handBlower v) := by
  obtain ⟨w, eq⟩ := handBlower_eq s v
  rw [eq]
  exact .of_drive rfl rfl rfl

theorem recomputeOnce_steers {again : State → State} (ha : ∀ t, Steers t (again t)) (e : Option LaneId) (entry : Bool)
    (dp : Option Nat) (s : State) : Steers s (s.recomputeOnce again e entry dp) := by
  have worded : Steers s ((s.mixed dp).putMixWords s.governor.mix (s.nextMix dp).1) := by
    rw [putMixWords_state]
    exact .of_drive rfl rfl rfl
  have targets := worded.trans (each_steers (fun d t => handTarget_steers ha e entry s.governor.mix (s.nextMix dp).1 d t) allDampers _)
  rw [recomputeOnce_eq]
  unfold State.handed
  dsimp only
  refine (each_steers (fun l t => tellDenied_steers _ l t) allLanes _).behind
    ((SteersOff.of_still (handHeat_still _ _) (handHeat_quiet _ _).drive).behind ?_)
  split
  · exact (handBlower_steers _ _).behind targets
  · exact targets

theorem recomputeAt_steers (e : Option LaneId) (n : Nat) (entry : Bool) (dp : Option Nat) (s : State) :
    Steers s (State.recomputeAt e n entry dp s) := by
  induction n generalizing entry dp s with
  | zero => exact recomputeOnce_steers (fun _ => .refl) e entry dp s
  | succ n ih => exact recomputeOnce_steers (fun t => ih false none t) e entry dp s

theorem recompute_steers (s : State) : Steers s s.recompute := by
  unfold State.recompute State.recomputeFor
  split
  · exact recomputeAt_steers none 3 false none s
  · exact .refl

theorem freeGrant_steers (s : State) : Steers s s.freeGrant := grant_steers recompute_steers none s

theorem handOnEvent_steers (d : Fin 8) (event : Option Event) (s : State) : Steers s (s.handOnEvent d event) := by
  unfold State.handOnEvent
  dsimp only
  refine (each_steers (fun l t => tellLane_steers recompute_steers none d l t) allLanes _).behind ?_
  split
  · exact (emit_steers _ _).behind (.of_drive rfl rfl rfl)
  · exact .of_drive rfl rfl rfl

theorem tellGovernorDamper_steers (d : Fin 8) (s : State) : Steers s (s.tellGovernorDamper d) :=
  (recompute_steers _).behind (.of_drive rfl rfl rfl)

/-! ### The purge's notices (R73, R81, R82) -/

theorem tellGovernorPurge_steers (s : State) : Steers s s.tellGovernorPurge :=
  (recompute_steers _).behind (.of_drive rfl rfl rfl)

theorem putPurgeWords_steers (old : Purge) (s : State) : Steers s (s.putPurgeWords old) := by
  rw [putPurgeWords_eq]
  exact .of_drive rfl rfl rfl

theorem relamp_drive (s : State) : s.relamp.drive = s.drive := by rw [relamp_eq]

theorem relamp_steers (s : State) : Steers s s.relamp := .of_lower (relamp_lower s) (relamp_drive s)

theorem purgeLamp_steers (old new : Purge) (s : State) : Steers s (s.purgeLamp old new) := by
  unfold State.purgeLamp
  split
  · exact (relamp_steers _).behind (.of_drive rfl rfl rfl)
  · exact .refl

theorem changePhase_steers (phase : PurgeState) (s : State) : Steers s (s.changePhase phase) := by
  unfold State.changePhase
  dsimp only
  split <;> exact .of_drive rfl rfl rfl

theorem purgeTold_steers (new : Purge) (event : Option Event) (s : State) : Steers s (s.purgeTold new event) := by
  unfold State.purgeTold
  rw [purgeSpots_eq]
  split
  · exact (emit_steers _ _).behind (.of_drive rfl rfl rfl)
  · exact .of_drive rfl rfl rfl

/-- R75: a change within a purge keeps the dampers' stands. -/
theorem purgeGo_steers {s : State} {new : Purge} (before : s.purge.state ≠ .idle) (after : new.state ≠ .idle) (event : Option Event) :
    Steers s (s.purgeGo new event) := by
  rw [purgeGo_eq, purgeHold_within before after]
  refine (purgeLamp_steers _ _ _).behind ((putPurgeWords_steers _ _).behind ((tellGovernorPurge_steers _).behind ?_))
  exact (changePhase_steers _ _).behind ((purgeTold_steers new event s).trans (.of_drive rfl rfl rfl))

theorem purgeRejudge_steers (s : State) : Steers s s.purgeRejudge := by
  unfold State.purgeRejudge
  dsimp only
  split
  next run _ =>
    split
    · exact .refl
    · split
      · exact (putPurgeWords_steers _ _).behind ((tellGovernorPurge_steers _).behind (.of_drive rfl rfl rfl))
      · exact purgeGo_steers (by rw [run]; exact nofun) (by exact nofun) _
  next scrub =>
    split
    · exact purgeGo_steers (by rw [scrub]; exact nofun) (by exact nofun) _
    · exact .refl
  · exact .refl

theorem tellPurgeDamper_steers (d : Fin 8) (s : State) : Steers s (s.tellPurgeDamper d) := by
  unfold State.tellPurgeDamper
  split
  · exact purgeRejudge_steers s
  · exact .refl

/-! ### The ends of orders (R16, R22, R23) -/

theorem fetchOrIdle_steers (l : LaneId) (s : State) : Steers s (s.fetchOrIdle l) := by
  unfold State.fetchOrIdle
  split
  · exact (recompute_steers _).behind (.of_drive rfl rfl rfl)
  · exact (recompute_steers _).behind (.of_drive rfl rfl rfl)

theorem goStopped_steers (l : LaneId) (code : Completion) (s : State) : Steers s (s.goStopped l code) :=
  (recompute_steers _).behind ((emit_steers _ _).behind (.of_drive rfl rfl rfl))

theorem endTold_steers (l : LaneId) (o : ActiveOrder) (code : Completion) (s : State) : Steers s (s.endTold l o code) := by
  unfold State.endTold
  dsimp only
  split
  · exact (emit_steers _ _).behind (.of_drive rfl rfl rfl)
  · exact .of_drive rfl rfl rfl

theorem endOrder_steers (l : LaneId) (code : Completion) (stop : Bool) (s : State) : Steers s (s.endOrder l code stop) := by
  cases ho : (s.lanes.get l).order with
  | none =>
    rw [show s.endOrder l code stop = s by simp only [State.endOrder, ho]]
    exact .refl
  | some o =>
    rw [endOrder_eq ho]
    dsimp only
    have told : Steers s ((s.endTold l o code).setLane l ((s.lanes.get l).advanced (s.ringSize l))) :=
      (endTold_steers l o code s).trans (.of_drive rfl rfl rfl)
    split
    · exact (goStopped_steers l code _).behind told
    · exact (fetchOrIdle_steers l _).behind told

theorem withdrawSpot_steers {c : Option (Fin 8)} (r : Requester) (i : Fin 16) (s : State) : SteersOff c s (s.withdrawSpot r i) :=
  .of_drive rfl rfl rfl

theorem cutOrder_steers (l : LaneId) (code : Completion) (s : State) : Steers s (s.cutOrder l code) := by
  refine (endOrder_steers l code false _).behind ?_
  unfold State.withdrawLane
  split
  · exact .refl
  · exact each_steers (fun c t => withdrawSpot_steers _ c t) _ s

theorem offerHold_steers (k : HoldKey) (l : LaneId) (s : State) : Steers s (s.offerHold k l) := by
  unfold State.offerHold
  dsimp only
  split
  · split
    · split
      · exact cutOrder_steers l _ s
      · exact .of_drive rfl rfl rfl
    · exact .refl
  · exact .refl

/-! ### A damper's hold (R54, R55, R64) -/

theorem createHold_steers (k : HoldKey) (cause : HoldCause) (phase : Option PurgeState) (s : State) :
    Steers s (s.createHold k cause phase) := by
  unfold State.createHold
  dsimp only
  refine (each_steers (fun l t => offerHold_steers k l t) allLanes _).behind ((recompute_steers _).behind ?_)
  exact (emit_steers _ _).behind (.of_drive rfl rfl rfl)

theorem putHoldEntry_steers {c : Option (Fin 8)} (j : Nat) (r : Option HoldRecord) (s : State) : SteersOff c s (s.putHoldEntry j r) :=
  .of_drive rfl rfl rfl

theorem removeHold_steers (r : HoldRecord) (s : State) : Steers s (s.removeHold r) := by
  unfold State.removeHold State.closeGap
  dsimp only
  refine (recompute_steers _).behind ((emit_steers _ _).behind ?_)
  exact (each_steers (fun j t => putHoldEntry_steers j _ t) _ _).behind (.of_drive rfl rfl rfl)

theorem tellFollowers_jam_steers (d : Fin 8) (present : Bool) (s : State) : Steers s (s.tellFollowers (.damperJam d) present) :=
  (relamp_steers _).behind (.of_drive rfl rfl rfl)

theorem takeRaise_jam_steers (d : Fin 8) (cause : HoldCause) (s : State) : Steers s (s.takeRaise (.damperJam d) cause) := by
  unfold State.takeRaise
  split
  · split
    · exact .of_drive rfl rfl rfl
    · exact (tellFollowers_jam_steers d true _).behind (createHold_steers _ _ _ s)
  · exact .refl

theorem takeRelease_jam_steers (d : Fin 8) (s : State) : Steers s (s.takeRelease (.damperJam d)) := by
  unfold State.takeRelease
  split
  · split
    · exact (tellFollowers_jam_steers d false _).behind (removeHold_steers _ s)
    · exact .refl
  · exact .refl

end Sys2Proof.Machine
end

section
/-! PROOFS. The ends of a damper's motion (R134 to R137). -/

namespace Sys2Proof.Machine

/-! ### A damper and its queue (R132, R133) -/

/-- R132: a damper that is not WAITING has no entry in the Motion Queue. -/
theorem not_queued {s : State} {d : Fin 8} (running : s.part = .running) (agrees : s.motionAgrees)
    (other : (s.damper d).state ≠ .waiting) : d ∉ s.drive.queue.map MotionEntry.damper :=
  fun mem => other (((agrees running).2 d).2 mem)

theorem queuedFor_of_absent {s : State} {d : Fin 8} (absent : d ∉ s.drive.queue.map MotionEntry.damper) (x : Stand) :
    s.queuedFor d x := fun _ hm own => absurd (own ▸ List.mem_map_of_mem hm) absent

section
variable {again : State → State} (ha : ∀ t, t.mixFollows → Quiet t (again t)) (e : Option LaneId) {s : State}
  (follows : s.mixFollows)
include ha follows

theorem putDamper_drive (d : Fin 8) (x : Damper) :
    ((s.setDamper d x).handOnDamper again e d).drive = (s.setDamper d x).drive :=
  (handOnDamper_quiet ha e d ((setDrive_kept s _).follows follows)).drive

/-- R133: a grant to the head of the queue leaves a damper that is not in the queue. -/
theorem grantHead_other {d : Fin 8} (absent : d ∉ s.drive.queue.map MotionEntry.damper) :
    (s.grantHead again e).damper d = s.damper d ∧ d ∉ (s.grantHead again e).drive.queue.map MotionEntry.damper := by
  unfold State.grantHead
  split
  · exact ⟨rfl, absent⟩
  next m ms queue =>
    rw [queue, List.map_cons, List.mem_cons, not_or] at absent
    have given (x : Damper) :
        let t := (({ s with drive := { s.drive with queue := ms } } : State).setDamper m.damper x).handOnDamper again e m.damper
        t.damper d = s.damper d ∧ d ∉ t.drive.queue.map MotionEntry.damper := by
      have drive := putDamper_drive (s := { s with drive := { s.drive with queue := ms } }) ha e
        ((setDrive_kept s _).follows follows) m.damper x
      exact ⟨(congrArg (fun v : Drive => v.dampers.get d) drive).trans (vset_get_other _ _ absent.1), by rw [drive]; exact absent.2⟩
    dsimp only
    split
    · exact given _
    · obtain ⟨x, -, moves⟩ := moveFrom_eq again e m.damper
        ((State.damper { s with drive := { s.drive with queue := ms } } m.damper).estimate.getD 0)
        { s with drive := { s.drive with queue := ms } }
      rw [moves]
      exact given x

theorem grant_other {d : Fin 8} (absent : d ∉ s.drive.queue.map MotionEntry.damper) :
    (s.grant again e).damper d = s.damper d ∧ d ∉ (s.grant again e).drive.queue.map MotionEntry.damper := by
  have given (n : Nat) {t : State} (follows : t.mixFollows) (absent : d ∉ t.drive.queue.map MotionEntry.damper) :
      (State.giveGrants again e n t).damper d = t.damper d ∧
        d ∉ (State.giveGrants again e n t).drive.queue.map MotionEntry.damper := by
    induction n generalizing t with
    | zero => exact ⟨rfl, absent⟩
    | succ n ih =>
      unfold State.giveGrants
      split
      · obtain ⟨same, gone⟩ := grantHead_other ha e follows absent
        obtain ⟨later, still⟩ := ih ((grantHead_steady ha e follows).follows follows) gone
        exact ⟨later.trans same, still⟩
      · exact ⟨rfl, absent⟩
  exact given _ follows absent

end

/-! ### Rests (R135, R137) -/

theorem recompute_ha : ∀ t : State, t.mixFollows → Quiet t t.recompute := fun _ => recompute_quiet

/-- A change of one damper that leaves its target, told to the lanes and followed by the grants that it frees. -/
structure Rested (s t : State) (d : Fin 8) (x : Damper) : Prop where
  damper : t.damper d = x
  steady : Steady s t
  still : t.still = s.still
  absent : d ∉ s.drive.queue.map MotionEntry.damper → d ∉ t.drive.queue.map MotionEntry.damper

section
variable {s : State} {d : Fin 8} {x : Damper} (follows : s.mixFollows) (target : x.target = (s.damper d).target)
include follows target

theorem put_rested : Rested s ((s.setDamper d x).handOnDamper State.recompute none d) d x where
  damper := (congrArg (fun v : Drive => v.dampers.get d) (putDamper_drive recompute_ha none follows d x)).trans
    (damper_setDamper s d x)
  steady := putDamper_steady recompute_ha none follows target
  still := (handOnDamper_still recompute_still none d _).trans rfl
  absent gone := by rw [putDamper_drive recompute_ha none follows d x]; exact gone

theorem put_freed_rested (absent : d ∉ s.drive.queue.map MotionEntry.damper) :
    Rested s ((s.setDamper d x).handOnDamper State.recompute none d).freeGrant d x := by
  have drive := putDamper_drive recompute_ha none follows d x
  obtain ⟨damper, steady, still, -⟩ := put_rested follows target
  generalize (s.setDamper d x).handOnDamper State.recompute none d = u at drive damper steady still ⊢
  have after := steady.follows follows
  have gone : d ∉ u.drive.queue.map MotionEntry.damper := by rw [drive]; exact absent
  obtain ⟨same, left⟩ := grant_other recompute_ha none after gone
  exact ⟨same.trans damper, steady.trans (grant_steady recompute_ha none after), (grant_still recompute_still none u).trans still,
    fun _ => left⟩

end

theorem comeToRest_rested {s : State} {d : Fin 8} (follows : s.mixFollows) (absent : d ∉ s.drive.queue.map MotionEntry.damper)
    (estimate : Option Nat) :
    Rested s (s.comeToRest d estimate) d { s.damper d with state := .atRest, estimate := estimate, plan := none } :=
  put_freed_rested follows (by exact rfl) absent

theorem endMoving_rested {s : State} {d : Fin 8} {p : Plan} (follows : s.mixFollows)
    (absent : d ∉ s.drive.queue.map MotionEntry.damper) (plan : (s.damper d).plan = some p) :
    Rested s (s.endMoving d) d (if isStop (s.damper d).target = true then { s.damper d with
        state := .seating, estimate := some (s.damper d).target
        plan := some { p with ends := s.now + 10 * s.lay.travel.get d } }
      else { s.damper d with state := .atRest, estimate := some (s.damper d).target, plan := none }) := by
  unfold State.endMoving State.reachTarget
  simp only [plan]
  by_cases stop : isStop (s.damper d).target = true
  · simp only [stop, if_true]
    exact put_rested follows rfl
  · simp only [stop, Bool.false_eq_true, if_false]
    exact put_freed_rested follows rfl absent

theorem isStop_iff {n : Nat} : isStop n = true ↔ n = 0 ∨ n = 100 := by simp [isStop]

/-! ### Plans (R134) -/

theorem planFrom_cases (s : State) (d : Fin 8) {start target : Nat} (low : start ≤ 100) (high : target ≤ 100) :
    let p := s.planFrom d start target
    (start < target → p.direction = .opening ∧ start + p.distance = target) ∧
    (target < start → p.direction = .closing ∧ target + p.distance = start) ∧
    (start = target → p.distance = 0 ∧ (target = 100 → p.direction = .opening) ∧ (target = 0 → p.direction = .closing)) := by
  unfold State.planFrom
  dsimp only
  refine ⟨fun less => ?_, fun more => ?_, ?_⟩
  · rw [if_pos (.inl less), if_pos less]
    exact ⟨rfl, by omega⟩
  · rw [if_neg (by omega), if_neg (by omega)]
    exact ⟨rfl, by omega⟩
  · rintro rfl
    rw [if_neg (Nat.lt_irrefl _)]
    exact ⟨Nat.sub_self _, fun full => if_pos (.inr full), fun shut => if_neg (by omega)⟩

/-! ### A damper driven against its stop (R135, R136) -/

/-- R17: a damper that is neither at rest nor JAMMED meets no settle condition. -/
theorem tellLane_unsettled (again : State → State) (e : Option LaneId) {d : Fin 8} {s : State} (moves : (s.damper d).settled = false)
    (l : LaneId) : (s.tellLane again e d l).drive = s.drive := by
  unfold State.tellLane
  split
  next watches =>
    have tested (t : State) (drive : t.drive = s.drive) : (t.testSettle again e l).drive = s.drive := by
      have unmet : t.settleCondition l = false := by
        refine Bool.eq_false_iff.2 fun met => ?_
        have settled := List.all_eq_true.1 met d watches
        rw [State.damper, drive] at settled
        exact Bool.false_ne_true (moves.symm.trans settled)
      unfold State.testSettle
      rw [if_neg (by rw [unmet]; exact fun k => Bool.false_ne_true k.2)]
      exact drive
    split
    · split
      · exact tested _ (noteJam_quiet s d l).drive
      · exact tested s rfl
    · exact (noteJam_quiet s d l).drive
    · exact (noteJam_quiet s d l).drive
    · rfl
  · rfl

theorem handOnDamper_unsettled (again : State → State) (e : Option LaneId) {d : Fin 8} {s : State}
    (moves : (s.damper d).settled = false) : (s.handOnDamper again e d).drive = s.drive := by
  have told (ls : List LaneId) (t : State) (drive : t.drive = s.drive) : (t.each ls (State.tellLane again e d)).drive = s.drive := by
    unfold State.each
    induction ls generalizing t with
    | nil => exact drive
    | cons l ls ih => exact ih _ ((tellLane_unsettled again e (by rw [State.damper, drive]; exact moves) l).trans drive)
  exact told allLanes _ rfl

/-- R136: a damper whose new target is the stop where it stands is driven against that stop. -/
theorem takeTarget_seats {s : State} {d : Fin 8} {e : Nat} (stop : e = 0 ∨ e = 100)
    (at_ : ((s.damper d).state = .seating ∧ (s.damper d).estimate = some e) ∨ ((s.damper d).state = .moving ∧ s.reckoned d = e)) :
    (s.takeTarget State.recompute none d e).damper d = { s.damper d with
      state := .seating, estimate := some e, target := e
      plan := some
        { direction := if e = 100 then .opening else .closing, start := some e, distance := 0, began := s.now
          ends := s.now + 10 * s.lay.travel.get d } } := by
  have reckoned := reckoned_setTarget s d e
  have own := damper_setDamper s d { s.damper d with target := e }
  have seats : s.takeTarget State.recompute none d e = (s.setDamper d { s.damper d with target := e }).replan State.recompute none d e := by
    unfold State.takeTarget
    dsimp only
    obtain ⟨state, estimate⟩ | ⟨state, reaches⟩ := at_
    · rw [own]
      simp only [state, estimate]
    · rw [own, reckoned, reaches]
      simp only [state]
  have plan : (s.setDamper d { s.damper d with target := e }).planFrom d e e =
      { direction := if e = 100 then .opening else .closing, start := some e, distance := 0, began := s.now
        ends := s.now + 0 * s.lay.travel.get d } := by
    unfold State.planFrom
    dsimp only
    rw [if_neg (Nat.lt_irrefl e), Nat.sub_self]
    simp only [Nat.lt_irrefl, false_or]
    rfl
  rw [seats]
  unfold State.replan State.moveFrom State.reachTarget
  rw [own]
  dsimp only
  rw [if_neg (by rw [isStop_iff.2 stop]; exact fun k => Bool.false_ne_true k.2), if_pos rfl, if_pos (isStop_iff.2 stop), plan]
  refine (congrArg (fun v : Drive => v.dampers.get d) (handOnDamper_unsettled _ _ ?_)).trans ((damper_setDamper _ d _).trans rfl)
  rw [damper_setDamper]
  rfl

/-- Settles O38: the ends of motion, the plans, and the stops. -/
theorem plannedEndsSeatOrRest : Obligations.PlannedEndsSeatOrRest := by
  refine ⟨fun s d p running current agrees plan ends => ⟨fun moving => ?_, fun seating => ?_⟩, fun s d start target low high => ?_,
    fun s d e stop at_ => takeTarget_seats stop at_⟩
  · have due : s.planEnded d .moving = true := planEnded_iff.2 ⟨moving, p, plan, ends⟩
    have absent := not_queued running agrees (d := d) (by rw [moving]; exact nofun)
    obtain ⟨damper, steady, still, -⟩ := endMoving_rested (current running) absent plan
    refine ⟨s.endMoving d, congrArg Host.Outcome.next (if_pos ⟨running, due⟩), State.base_of_below (State.below_of_still still),
      congrArg (fun x : Still => x.holds) still, steady.governor, fun stop => ?_, fun open_ shut => ?_⟩
    · exact damper.trans (if_pos (isStop_iff.2 stop))
    · exact damper.trans (if_neg fun stop => (isStop_iff.1 stop).elim open_ shut)
  · have due : s.planEnded d .seating = true := planEnded_iff.2 ⟨seating, p, plan, ends⟩
    have absent := not_queued running agrees (d := d) (by rw [seating]; exact nofun)
    obtain ⟨damper, steady, still, -⟩ := comeToRest_rested (current running) absent (s.damper d).estimate
    exact ⟨_, congrArg Host.Outcome.next (if_pos ⟨running, due⟩), State.base_of_below (State.below_of_still still),
      congrArg (fun x : Still => x.holds) still, steady.governor, damper⟩
  · obtain ⟨opens, closes, stays⟩ := planFrom_cases s d low high
    exact ⟨opens, closes, stays, rfl, rfl, rfl⟩

end Sys2Proof.Machine
end

section
/-! PROOFS. Stalls, jams and homing (R137, R138, R140). -/

namespace Sys2Proof.Machine

/-! ### A damper's notices (R130) -/

theorem emit_quiet (s : State) (e : Event) : Quiet s (s.emit e) := by
  rw [emit_eq]
  exact ⟨⟨⟨rfl, rfl, rfl, fun _ => .refl _, fun _ => rfl⟩, rfl, rfl, fun _ _ _ => rfl, fun _ _ => id⟩, rfl⟩

theorem handOnEvent_quiet (d : Fin 8) (event : Option Event) {s : State} (follows : s.mixFollows) :
    Quiet s (s.handOnEvent d event) := by
  have word : Quiet s (s.putStatus (25 + d.val) (s.damper d).word) := putStatus_quiet s (by omega) _
  have lanes {t : State} (h : Quiet s t) : Quiet s (t.each allLanes (State.tellLane State.recompute none d)) :=
    h.trans (each_quiet (fun l _ k => tellLane_quiet recompute_ha none d l k) _ (h.follows follows))
  unfold State.handOnEvent
  dsimp only
  split
  · exact lanes (word.trans (emit_quiet _ _))
  · exact lanes word

/-- R30: what the Governor has been told of the inlets' dampers. -/
def State.inletsTold (s : State) : InletView × InletView := (s.governor.view.roofDamper, s.governor.view.bumperDamper)

theorem purgeGo_inletsTold (new : Purge) (e : Option Event) (s : State) : (s.purgeGo new e).inletsTold = s.inletsTold :=
  congrArg (fun x : Lower => (x.view.roofDamper, x.view.bumperDamper)) (purgeGo_lower new e s)

theorem purgeRejudge_inletsTold (s : State) : s.purgeRejudge.inletsTold = s.inletsTold := by
  unfold State.purgeRejudge
  dsimp only
  split
  next i _ _ =>
    split
    · rfl
    · split
      · exact congrArg (fun x : Lower => (x.view.roofDamper, x.view.bumperDamper)) (purgeSwitch_lower i.other s)
      · exact purgeGo_inletsTold _ _ s
  · split
    · exact purgeGo_inletsTold _ _ s
    · rfl
  · rfl

theorem tellPurgeDamper_inletsTold (d : Fin 8) (s : State) : (s.tellPurgeDamper d).inletsTold = s.inletsTold := by
  unfold State.tellPurgeDamper
  split
  · exact purgeRejudge_inletsTold s
  · rfl

theorem freeGrant_still (s : State) : s.freeGrant.still = s.still := grant_still recompute_still none s

/-- R30, R130: the Governor's view of an inlet's damper once it has been told of it. -/
structure InletTold (t : State) (d : Fin 8) (v : InletView) : Prop where
  roof : d = 0 → t.governor.view.roofDamper = v
  bumper : d = 1 → t.governor.view.bumperDamper = v

theorem InletTold.of_same {s t : State} {d : Fin 8} {v : InletView} (h : InletTold s d v) (same : t.inletsTold = s.inletsTold) :
    InletTold t d v :=
  ⟨fun own => (congrArg Prod.fst same).trans (h.roof own), fun own => (congrArg Prod.snd same).trans (h.bumper own)⟩

theorem tellGovernorDamper_told (d : Fin 8) (s : State) : InletTold (s.tellGovernorDamper d) d (s.damper d).inletView := by
  have view : (s.tellGovernorDamper d).governor.view =
      if d = 0 then { s.governor.view with roofDamper := (s.damper d).inletView }
      else if d = 1 then { s.governor.view with bumperDamper := (s.damper d).inletView } else s.governor.view :=
    congrArg (fun x : Lower => x.view) (recompute_lower _)
  refine ⟨fun own => ?_, fun own => ?_⟩
  · rw [view, if_pos own]
  · rw [view, if_neg (by rw [own]; decide), if_pos own]

/-- R130, steps 6 and 7: the Governor and the purge told of a damper. -/
theorem notices_told (d : Fin 8) (s : State) :
    InletTold ((s.tellGovernorDamper d).tellPurgeDamper d) d (s.damper d).inletView :=
  (tellGovernorDamper_told d s).of_same (tellPurgeDamper_inletsTold d _)

theorem freeGrant_told {s : State} {d : Fin 8} {v : InletView} (h : InletTold s d v) : InletTold s.freeGrant d v :=
  h.of_same (congrArg (fun x : Still => (x.view.roofDamper, x.view.bumperDamper)) (freeGrant_still s))

theorem notices_keys (d : Fin 8) (s : State) : (((s.tellGovernorDamper d).tellPurgeDamper d).freeGrant).holds.map HoldRecord.key =
    s.holds.map HoldRecord.key := by
  have governor : (s.tellGovernorDamper d).holds = s.holds := congrArg Lower.holds (recompute_lower _)
  rw [show ((s.tellGovernorDamper d).tellPurgeDamper d).freeGrant.holds = ((s.tellGovernorDamper d).tellPurgeDamper d).holds from
    congrArg (fun x : Still => x.holds) (freeGrant_still _), ← governor]
  unfold State.tellPurgeDamper
  split
  · exact (purgeRejudge_keys _).1
  · rfl

/-! ### Jams (R138) -/

/-- R138: what a jam comes to. -/
structure Jams (s t : State) (d : Fin 8) (cause : JamCause) (estimate : Option Nat) : Prop where
  state : (t.damper d).state = .jammed
  estimate : (t.damper d).estimate = estimate
  jam : (t.damper d).jam = some cause
  plan : (t.damper d).plan = none
  held : t.hasHold (.damperJam d) = true
  base : t.base = s.base
  roof : d = 0 → t.governor.view.roofDamper.jammed = true
  bumper : d = 1 → t.governor.view.bumperDamper.jammed = true

theorem jamDamper_jams {s : State} {d : Fin 8} (running : s.part = .running) (absent : d ∉ s.drive.queue.map MotionEntry.damper)
    (cause : JamCause) (estimate : Option Nat) : Jams s (s.jamDamper d cause estimate) d cause estimate := by
  have base := jamDamper_base d cause estimate s
  unfold State.jamDamper at base ⊢
  dsimp only at base ⊢
  have jams : (s.setDamper d { s.damper d with state := .jammed, estimate := estimate, plan := none, jam := some cause }).Stands d
      (.jammed estimate (some cause)) := by
    refine ⟨queuedFor_of_absent (s := s) absent _, ?_⟩
    unfold State.inStand
    rw [damper_setDamper]
    exact ⟨rfl, rfl, rfl, rfl⟩
  have told := (handOnEvent_steers d (some { kind := .damperJammed, subject := w16 d.val, value := jamWord cause estimate }) _).stands
    _ _ nofun jams
  have part := part_of_base (handOnEvent_base d (some { kind := .damperJammed, subject := w16 d.val, value := jamWord cause estimate })
    (s.setDamper d { s.damper d with state := .jammed, estimate := estimate, plan := none, jam := some cause }))
  generalize (s.setDamper d _).handOnEvent d _ = u at base told part ⊢
  have raised := (takeRaise_jam_steers d cause.hold u).stands _ _ nofun told
  have held := takeRaise_hasHold (k := .damperJam d) (part.trans running) nofun cause.hold
  generalize u.takeRaise (.damperJam d) cause.hold = v at base raised held ⊢
  have after := (freeGrant_steers _).stands _ _ nofun ((tellPurgeDamper_steers d _).stands _ _ nofun
    ((tellGovernorDamper_steers d v).stands _ _ nofun raised))
  have view := freeGrant_told (notices_told d v)
  have jammed : (v.damper d).inletView.jammed = true := beq_iff_eq.2 raised.record.1
  obtain ⟨state, frozen, jam, plan⟩ := after.record
  refine ⟨state, frozen, jam, plan, ?_, base, fun own => (congrArg InletView.jammed (view.roof own)).trans jammed,
    fun own => (congrArg InletView.jammed (view.bumper own)).trans jammed⟩
  rw [hasHold_iff, notices_keys, ← hasHold_iff]
  exact held

/-! ### The stop reached (R137) -/

theorem reachStop_reaches {s : State} {d : Fin 8} (follows : s.mixFollows) (absent : d ∉ s.drive.queue.map MotionEntry.damper)
    (stop : Nat) : ((s.reachStop d stop).damper d).estimate = some stop ∧
      ((s.damper d).target = stop →
        (s.reachStop d stop).damper d = { s.damper d with state := .atRest, estimate := some stop, plan := none }) ∧
      ((s.damper d).target ≠ stop →
        ((s.reachStop d stop).damper d).state = .waiting ∨ ((s.reachStop d stop).damper d).state = .moving) := by
  obtain ⟨damper, steady, still, gone⟩ := comeToRest_rested follows absent (some stop)
  unfold State.reachStop
  dsimp only
  generalize s.comeToRest d (some stop) = u at damper steady still gone ⊢
  have target : (u.damper d).target = (s.damper d).target := steady.targets d
  by_cases own : (s.damper d).target = stop
  · rw [if_neg (by rw [damper]; exact fun k => k.2 (congrArg some own.symm)), damper]
    exact ⟨rfl, fun _ => rfl, fun k => absurd own k⟩
  · have ready : u.Ready d stop (u.damper d).cleared (u.damper d).jam :=
      ⟨queuedFor_of_absent (gone absent) _, congrArg Damper.estimate damper, rfl, rfl⟩
    have away : (u.damper d).target ≠ stop := by rw [target]; exact own
    obtain ⟨⟨estimate, -, -⟩, poised⟩ := (joinMotion_poises recompute_steers none ready away).record
    have targets := (joinMotion_steady recompute_ha none (steady.follows follows) d).targets d
    have queues : (u.damper d).state = .atRest ∧ (u.damper d).estimate ≠ some (u.damper d).target := by
      refine ⟨congrArg Damper.state damper, ?_⟩
      rw [ready.estimate]
      exact fun k => away (Option.some.inj k).symm
    rw [if_pos queues]
    refine ⟨estimate, fun k => absurd k own, fun _ => ?_⟩
    obtain ⟨same, -⟩ | ⟨-, waits | moves⟩ := poised
    · exact absurd (targets.symm.trans same) away
    · exact .inl waits
    · exact .inr moves.1

/-! ### Homing (R140) -/

/-- R140: the record of a damper that a stall has homed. -/
def State.homed (s : State) (d : Fin 8) : Damper :=
  if (s.damper d).target = 0 then { s.damper d with state := .atRest, estimate := some 0, plan := none, cleared := false }
  else { s.damper d with
    state := .moving, estimate := some 0, plan := some (s.planFrom d 0 (s.damper d).target), cleared := false }

/-- R140: the event of a homing. -/
def State.homedEvent (s : State) (d : Fin 8) : Event :=
  { kind := .damperHomed, subject := w16 d.val, value := w16 (s.damper d).target }

/-- R130, R140: the homing told to the lanes, the Governor and the purge. -/
def State.homedTold (s : State) (d : Fin 8) : State :=
  (((s.setDamper d (s.homed d)).handOnEvent d (some (s.homedEvent d))).tellGovernorDamper d).tellPurgeDamper d

theorem homeDamper_eq (d : Fin 8) (s : State) : s.homeDamper d =
    if (s.damper d).target = 0 then (s.homedTold d).freeGrant else s.homedTold d := by
  unfold State.homeDamper State.homedTold State.homed State.homedEvent
  dsimp only
  by_cases stop : (s.damper d).target = 0
  · simp only [stop, if_true]
  · simp only [stop, if_false]

/-- R140: what a homing comes to. -/
structure Homes (s t : State) (d : Fin 8) : Prop where
  estimate : (t.damper d).estimate = some 0
  cleared : (t.damper d).cleared = false
  jam : (t.damper d).jam = (s.damper d).jam
  rests : (t.damper d).target = 0 → (t.damper d).state = .atRest ∨ (t.damper d).state = .seating
  moves : (t.damper d).target ≠ 0 → (t.damper d).state = .moving ∨ (t.damper d).state = .waiting
  view : ∃ v : InletView, v.estimate = some 0 ∧ InletTold t d v

theorem homed_poised (s : State) (d : Fin 8) : (s.homed d).PoisedAt s.now 0 := by
  unfold State.homed
  split
  next stop => exact .rests stop (.inl rfl)
  next away => exact .moves away rfl _ rfl rfl rfl

theorem homed_fields (s : State) (d : Fin 8) : (s.homed d).estimate = some 0 ∧ (s.homed d).cleared = false ∧
    (s.homed d).jam = (s.damper d).jam ∧ (s.homed d).target = (s.damper d).target := by
  unfold State.homed
  split <;> exact ⟨rfl, rfl, rfl, rfl⟩

theorem homeDamper_homes {s : State} {d : Fin 8} (absent : d ∉ s.drive.queue.map MotionEntry.damper) :
    Homes s (s.homeDamper d) d := by
  obtain ⟨estimate, cleared, jam, -⟩ := homed_fields s d
  have ready : (s.setDamper d (s.homed d)).Ready d 0 false (s.damper d).jam :=
    ⟨queuedFor_of_absent (s := s) absent _, by rw [damper_setDamper]; exact estimate, by rw [damper_setDamper]; exact cleared,
      by rw [damper_setDamper]; exact jam⟩
  have stands := (handOnEvent_steers d (some (s.homedEvent d)) _).stands _ _ nofun
    (ready.stands (by rw [damper_setDamper]; exact homed_poised s d))
  have ends {t : State} (h : t.Stands d (.poised 0 false (s.damper d).jam)) (view : ∃ v : InletView, v.estimate = some 0 ∧
      InletTold t d v) : Homes s t d := by
    obtain ⟨⟨estimate, cleared, jam⟩, poised⟩ := h.record
    refine ⟨estimate, cleared, jam, fun stop => ?_, fun away => ?_, view⟩
    · obtain ⟨-, state⟩ | ⟨away, -⟩ := poised
      · exact state
      · exact absurd stop away
    · obtain ⟨stop, -⟩ | ⟨-, waits | moves⟩ := poised
      · exact absurd stop away
      · exact .inr waits
      · exact .inl moves.1
  rw [homeDamper_eq]
  unfold State.homedTold
  generalize (s.setDamper d (s.homed d)).handOnEvent d (some (s.homedEvent d)) = u at stands ⊢
  have told := (tellPurgeDamper_steers d _).stands _ _ nofun ((tellGovernorDamper_steers d u).stands _ _ nofun stands)
  have view := notices_told d u
  split
  · exact ends ((freeGrant_steers _).stands _ _ nofun told) ⟨_, stands.record.1.1, freeGrant_told view⟩
  · exact ends told ⟨_, stands.record.1.1, view⟩

/-- R140: the homing of a damper that is not an inlet's. -/
theorem homeDamper_other {s : State} {d : Fin 8} (follows : s.mixFollows) (absent : d ∉ s.drive.queue.map MotionEntry.damper)
    (roof : d ≠ 0) (bumper : d ≠ 1) : (s.homeDamper d).damper d = s.homed d := by
  have put := (setDrive_kept s { s.drive with dampers := vset s.drive.dampers d (s.homed d) }).follows follows
  have told := handOnEvent_quiet d (some (s.homedEvent d)) (s := s.setDamper d (s.homed d)) put
  have notices (u : State) : (u.tellGovernorDamper d).tellPurgeDamper d = u.recompute := by
    unfold State.tellPurgeDamper State.tellGovernorDamper
    dsimp only
    rw [if_neg (not_or.2 ⟨roof, bumper⟩), if_neg roof, if_neg bumper]
  have after := told.trans (recompute_quiet (told.follows put))
  have drive := after.drive
  rw [homeDamper_eq]
  unfold State.homedTold
  rw [notices]
  generalize ((s.setDamper d (s.homed d)).handOnEvent d (some (s.homedEvent d))).recompute = u at after drive ⊢
  have own : u.damper d = s.homed d := by
    rw [State.damper, drive]
    exact damper_setDamper s d _
  split
  · exact (grant_other recompute_ha none (after.follows put) (by rw [drive]; exact absent)).1.trans own
  · exact own

/-! ### Stalls (R137) -/

section
variable {s : State} {d : Fin 8}

theorem stallDamper_opening {p : Plan} (moving : (s.damper d).state = .moving) (plan : (s.damper d).plan = some p)
    (opens : p.direction = .opening) : s.stallDamper d =
      if 97 ≤ s.stallPoint d p then s.reachStop d 100 else s.jamDamper d .stall (some (s.reckoned d)) := by
  unfold State.stallDamper
  simp only [moving, plan, opens]

theorem stallDamper_closing {p : Plan} (moving : (s.damper d).state = .moving) (plan : (s.damper d).plan = some p)
    (closes : p.direction = .closing) : s.stallDamper d =
      if s.stallPoint d p ≤ 3 then s.reachStop d 0 else s.jamDamper d .stall (some (s.reckoned d)) := by
  unfold State.stallDamper
  simp only [moving, plan, closes]

theorem stallDamper_seating (seating : (s.damper d).state = .seating) : s.stallDamper d = s.comeToRest d (s.damper d).estimate := by
  unfold State.stallDamper
  simp only [seating]

theorem stallDamper_homing (homing : (s.damper d).state = .homing) : s.stallDamper d = s.homeDamper d := by
  unfold State.stallDamper
  simp only [homing]

theorem stallDamper_ignored (other : (s.damper d).state = .atRest ∨ (s.damper d).state = .waiting ∨ (s.damper d).state = .jammed) :
    s.stallDamper d = s := by
  unfold State.stallDamper
  obtain h | h | h := other <;> simp only [h]

/-- R134, log 40: the reckoned estimate from the planned end on is one percent short of the target. -/
theorem reckoned_late {p : Plan} {start : Nat} (moving : (s.damper d).state = .moving) (plan : (s.damper d).plan = some p)
    (from_ : p.start = some start) (long : 0 < p.distance) (travels : 0 < s.lay.travel.get d)
    (late : p.began + p.distance * s.lay.travel.get d ≤ s.now) :
    (p.direction = .opening → start + p.distance = (s.damper d).target → s.reckoned d + 1 = (s.damper d).target) ∧
    (p.direction = .closing → (s.damper d).target + p.distance = start → s.reckoned d = (s.damper d).target + 1) := by
  have all : p.distance ≤ (s.now - p.began) / s.lay.travel.get d := (Nat.le_div_iff_mul_le travels).2 (by omega)
  have travelled : p.travelled (s.lay.travel.get d) s.now = p.distance - 1 := by
    unfold Plan.travelled
    omega
  unfold State.reckoned Plan.reckoned
  simp only [moving, plan, from_, travelled, Option.getD_some]
  refine ⟨fun opens whole => ?_, fun closes whole => ?_⟩
  · simp only [opens]
    omega
  · simp only [closes]
    omega

end

/-- R134: the plan from the shut stop. -/
theorem planFrom_shut (s : State) (d : Fin 8) {target : Nat} (away : target ≠ 0) : s.planFrom d 0 target =
    { direction := .opening, start := some 0, distance := target, began := s.now
      ends := s.now + target * s.lay.travel.get d } := by
  unfold State.planFrom
  dsimp only
  rw [if_pos (Nat.pos_of_ne_zero away), if_pos (.inl (Nat.pos_of_ne_zero away)), Nat.sub_zero]

/-- Settles O39, by the damper's state. -/
theorem stallsAndHomingLimitsJudged : Obligations.StallsAndHomingLimitsJudged := by
  intro s d running current agrees x e jammed
  have follows : s.mixFollows := current running
  have absent (other : x.state ≠ .waiting) := not_queued running agrees (d := d) other
  have stalls {t : State} (h : s.stallDamper d = t) : exec (.stall d) s = .next t :=
    congrArg Host.Outcome.next ((if_pos running).trans h)
  have jams {t : State} {cause : JamCause} {estimate : Option Nat} (h : Jams s t d cause estimate) : jammed t cause estimate :=
    ⟨h.state, h.estimate, h.jam, h.plan, h.held, h.base, h.roof, h.bumper⟩
  refine ⟨fun p moving plan => ?_, fun seating => ?_, fun homing => ?_, fun other => stalls (stallDamper_ignored other),
    fun p homing plan ends => ?_⟩
  · have gone := absent (by rw [moving]; exact nofun)
    have opening := stallDamper_opening moving plan
    have closing := stallDamper_closing moving plan
    intro point
    refine ⟨fun opens near => ?_, fun closes near => ?_, fun far => ?_, fun start from_ long travels late =>
      reckoned_late moving plan from_ long travels late⟩
    · exact ⟨_, stalls ((opening opens).trans (if_pos near)), reachStop_base d 100 s, reachStop_reaches follows gone 100⟩
    · exact ⟨_, stalls ((closing closes).trans (if_pos near)), reachStop_base d 0 s, reachStop_reaches follows gone 0⟩
    · refine ⟨s.jamDamper d .stall (some (s.reckoned d)), stalls ?_, jams (jamDamper_jams running gone .stall _)⟩
      obtain ⟨opens, short⟩ | ⟨closes, short⟩ := far
      · exact (opening opens).trans (if_neg (Nat.not_le.2 short))
      · exact (closing closes).trans (if_neg (Nat.not_le.2 short))
  · obtain ⟨damper, -, still, -⟩ := comeToRest_rested follows (absent (by rw [seating]; exact nofun)) (s.damper d).estimate
    exact ⟨_, stalls (stallDamper_seating seating), State.base_of_below (State.below_of_still still), damper⟩
  · have gone := absent (by rw [homing]; exact nofun)
    obtain ⟨estimate, cleared, jam, rests, moves, v, known, told⟩ := homeDamper_homes gone
    refine ⟨_, stalls (stallDamper_homing homing), homeDamper_base d s, estimate, cleared, jam, fun roof bumper stop => ?_,
      fun roof bumper away => ?_, fun _ => ⟨rests, moves⟩, fun own => ?_, fun own => ?_⟩
    · exact (homeDamper_other follows gone roof bumper).trans (if_pos stop)
    · rw [homeDamper_other follows gone roof bumper, State.homed, if_neg away, planFrom_shut s d away]
    · rw [told.roof own]
      exact known
    · rw [told.bumper own]
      exact known
  · have due : s.planEnded d .homing = true := planEnded_iff.2 ⟨homing, p, plan, ends⟩
    exact ⟨_, congrArg Host.Outcome.next (if_pos ⟨running, due⟩),
      jams (jamDamper_jams running (absent (by rw [homing]; exact nofun)) .homing none)⟩

end Sys2Proof.Machine
end

section
/-! PROOFS. CLEAR_JAM (R139). -/

namespace Sys2Proof.Machine

/-- R139: what a clearing comes to. -/
structure Clears (s t : State) (d : Fin 8) : Prop where
  estimate : (t.damper d).estimate = none
  jam : (t.damper d).jam = none
  cleared : (t.damper d).cleared = true
  state : (t.damper d).state = .waiting ∨ (t.damper d).state = .homing
  keys : t.holds.map HoldRecord.key = (s.holds.map HoldRecord.key).erase (.damperJam d)
  base : t.base = s.base

theorem handOnEvent_lower (d : Fin 8) (event : Option Event) (s : State) : (s.handOnEvent d event).lower = s.lower := by
  have lanes (t : State) : (t.each allLanes (State.tellLane State.recompute none d)).lower = t.lower :=
    each_leaves State.lower _ (fun l t => State.lower_of_still (tellLane_still_recompute none d l t)) _ t
  unfold State.handOnEvent
  dsimp only
  rw [lanes]
  split
  · exact (emit_lower _ _).trans rfl
  · rfl

theorem clearDamper_clears {s : State} {d : Fin 8} (running : s.part = .running)
    (absent : d ∉ s.drive.queue.map MotionEntry.damper) : Clears s (s.clearDamper d) d := by
  have base := clearDamper_base d s
  unfold State.clearDamper at base ⊢
  dsimp only at base ⊢
  generalize hu : s.setDamper d { s.damper d with state := .waiting, estimate := none, plan := none, jam := none, cleared := true } = u
    at base ⊢
  have own : u.damper d = { s.damper d with state := .waiting, estimate := none, plan := none, jam := none, cleared := true } := by
    rw [← hu, damper_setDamper]
  have queue : u.drive.queue = s.drive.queue := by rw [← hu]; rfl
  have queued : ({ u with drive := { u.drive with queue := u.drive.queue ++ [MotionEntry.mk d true] } } : State).Stands d .cleared :=
    ⟨queued_append (queuedFor_of_absent (by rw [queue]; exact absent) .cleared) rfl, ⟨congrArg Damper.estimate own,
      congrArg Damper.jam own, congrArg Damper.cleared own⟩, .inl (congrArg Damper.state own)⟩
  have lower : ({ u with drive := { u.drive with queue := u.drive.queue ++ [MotionEntry.mk d true] } } : State).lower = s.lower := by
    rw [← hu]
    rfl
  generalize ({ u with drive := { u.drive with queue := u.drive.queue ++ [MotionEntry.mk d true] } } : State) = v
    at base queued lower ⊢
  have told := (handOnEvent_steers d none v).stands _ _ nofun queued
  have toldLower := (handOnEvent_lower d none v).trans lower
  generalize v.handOnEvent d none = w at base told toldLower ⊢
  have released := (takeRelease_jam_steers d w).stands _ _ nofun told
  have keys := takeRelease_keys (s := w) (k := .damperJam d) ((congrArg (fun x => x.part) toldLower).trans running)
  rw [show w.holds = s.holds from congrArg Lower.holds toldLower] at keys
  have after := (freeGrant_steers _).stands _ _ nofun ((tellPurgeDamper_steers d _).stands _ _ nofun
    ((tellGovernorDamper_steers d _).stands _ _ nofun released))
  obtain ⟨⟨estimate, jam, cleared⟩, state⟩ := after.record
  exact ⟨estimate, jam, cleared, state, (notices_keys d _).trans keys, base⟩

theorem commandClearJam_clears {s : State} {d : Fin 8} (named : s.serviceArg.toNat = d.val) (jammed : (s.damper d).state = .jammed) :
    s.commandClearJam = some (s.clearDamper d) := by
  have low : s.serviceArg.toNat < 8 := by omega
  have index : (⟨s.serviceArg.toNat, low⟩ : Fin 8) = d := Fin.ext named
  unfold State.commandClearJam
  rw [dif_pos low, index, if_pos jammed]

theorem commandClearJam_refused {s : State} (other : ∀ d : Fin 8, s.serviceArg.toNat = d.val → (s.damper d).state ≠ .jammed) :
    s.commandClearJam = none := by
  unfold State.commandClearJam
  split
  next low => exact if_neg (other ⟨_, low⟩ rfl)
  · rfl

theorem Invariant.acts {P : State → Bool → Prop} (inv : Invariant P) {s t : State} (h : Acts Freely s t) (hs : P s false) :
    P t false := by
  induction h with
  | refl => exact hs
  | tail _ k ih => exact inv.act k ih

/-- Settles O40: the command is taken at the state that the port grants it in. -/
theorem clearJamQueuesForHoming : Obligations.ClearJamQueuesForHoming := by
  intro s running distinct agrees
  have taken {t : State} := service_taken (s := s) (t := t) (code := 6) running (by decide)
  have refused := service_refused (s := s) (code := 6) running (by decide)
  have still := atGrant_portStill running
  have agreesG : s.atGrant.motionAgrees := motionAgrees_invariant.acts (atGrant_acts s) agrees
  rw [show exec .clearJam s = .next (s.hostWriteService 6) from rfl]
  generalize s.atGrant = g at taken refused still agreesG ⊢
  intro g w
  have holds : g.holds = s.holds := congrArg PortStill.holds still
  refine ⟨fun d named jammed => ?_, fun other => refused (commandClearJam_refused (s := w) other)⟩
  have absent : d ∉ w.drive.queue.map MotionEntry.damper := by
    refine not_queued ((congrArg PortStill.part still).trans running) agreesG ?_
    rw [show w.damper d = g.damper d from rfl, jammed]
    exact nofun
  obtain ⟨estimate, jam, cleared, state, keys, base⟩ :=
    clearDamper_clears (s := w) ((congrArg PortStill.part still).trans running) absent
  have clears : w.serviceHandler (6 : Word).toNat = some (w.clearDamper d) := commandClearJam_clears (s := w) named jammed
  refine ⟨_, taken clears, ?_⟩
  generalize w.clearDamper d = t at estimate jam cleared state keys base ⊢
  refine ⟨(State.base_of_below (State.below_of_lower (offer_lower t _ _))).trans base, estimate, jam, cleared, state, keys, ?_, ?_⟩
  · refine Bool.eq_false_iff.2 fun held => ?_
    have mem := (hasHold_iff t _).1 held
    rw [keys] at mem
    have nodup : (g.holds.map HoldRecord.key).Nodup := by rw [holds]; exact distinct
    exact List.Nodup.not_mem_erase nodup mem
  · rw [offer_writes, List.getLast?_append]
    rfl

end Sys2Proof.Machine
end

section
/-! PROOFS. Relations that the recomputes and the notices of one moment keep, given that the scanner and the heat unit keep
them: among the blocks, the notices change nothing of the scanner but through its requests, and nothing of the heat unit but
through the blower, the demand and its notices (R33, R56, R97, R147). -/

namespace Sys2Proof.Machine

/-- R151: the allowed count and what the readings of SUPPLY_VOLTS are judged by. -/
def HeatUnit.budgeted (h : HeatUnit) : Nat × Bool × Nat × Nat × Option RestoreTimer :=
  (h.allowed, h.firstReading, h.lowerRun, h.lowerHighest, h.restore)

/-- A relation kept by what the notices bring the scanner and the heat unit, and by all that touches neither. -/
structure Lasting (R : State → State → Prop) : Prop where
  refl (s : State) : R s s
  trans {s t u : State} : R s t → R t u → R s u
  rest {s t : State} : t.heat = s.heat → t.scanner = s.scanner → R s t
  asks (s : State) (r : Requester) (c : Fin 16) : R s (s.requestSpot r c)
  withdraws (s : State) (r : Requester) (c : Fin 16) : R s (s.withdrawSpot r c)
  blower (s : State) (v : Nat) : R s (s.handBlower v)
  rejudges (s : State) {h : HeatUnit} : h.budgeted = s.heat.budgeted → h.watch = s.heat.watch → R s (s.setHeat h).rejudgeHeat

theorem emit_heat (s : State) (e : Event) : (s.emit e).heat = s.heat := by
  rw [emit_eq]

theorem relamp_heat (s : State) : s.relamp.heat = s.heat := by rw [relamp_eq]

theorem tellLamp_heat (k : HoldKey) (present : Bool) (s : State) : (s.tellLamp k present).heat = s.heat := by
  unfold State.tellLamp
  split
  · exact relamp_heat _
  · exact relamp_heat _
  · exact relamp_heat _
  · rfl

theorem tellLamp_scanner (k : HoldKey) (present : Bool) (s : State) : (s.tellLamp k present).scanner = s.scanner := by
  unfold State.tellLamp
  split
  · exact relamp_scanner _
  · exact relamp_scanner _
  · exact relamp_scanner _
  · rfl

theorem tellFollowers_heats_eq {k : HoldKey} (heats : k.heats = true) (present : Bool) (s : State) :
    s.tellFollowers k present = (s.tellHeat k present).tellLamp k present :=
  tellFollowers_heat_lamp (fun i => by rintro rfl; cases heats) (by rintro rfl; cases heats) present s

namespace Lasting
variable {R : State → State → Prop} (hR : Lasting R)
include hR

/-- The last part first. -/
theorem behind {s t u : State} (k : R t u) (h : R s t) : R s u := hR.trans h k

theorem each {α : Type} {f : α → State → State} (h : ∀ x t, R t (f x t)) (xs : List α) (s : State) : R s (s.each xs f) := by
  unfold State.each
  induction xs generalizing s with
  | nil => exact hR.refl s
  | cons x xs ih => exact hR.trans (h x s) (ih _)

/-! ### Lanes told and motion (R17, R131 to R136) -/

section
variable {again : State → State} (ha : ∀ t, R t (again t)) (e : Option LaneId)

theorem noteJam (d : Fin 8) (l : LaneId) (s : State) : R s (s.noteJam d l) := by
  unfold State.noteJam
  split
  · split
    · exact hR.rest rfl rfl
    · exact hR.refl s
  · exact hR.refl s

include ha

theorem leaveSettle (slow : Bool) (l : LaneId) (s : State) : R s (s.leaveSettle again slow l) := by
  unfold State.leaveSettle
  split
  · exact hR.refl s
  · exact hR.behind (ha _) (hR.rest rfl rfl)

theorem testSettle (l : LaneId) (s : State) : R s (s.testSettle again e l) := by
  unfold State.testSettle
  split
  · exact hR.leaveSettle ha false l s
  · exact hR.refl s

theorem tellLane (d : Fin 8) (l : LaneId) (s : State) : R s (s.tellLane again e d l) := by
  have note := hR.noteJam d l s
  unfold State.tellLane
  split
  · split
    · split
      · exact hR.trans note (hR.testSettle ha e l _)
      · exact hR.testSettle ha e l s
    · exact note
    · exact note
    · exact hR.refl s
  · exact hR.refl s

theorem handOnDamper (d : Fin 8) (s : State) : R s (s.handOnDamper again e d) :=
  hR.behind (hR.each (fun l t => hR.tellLane ha e d l t) allLanes _)
    (hR.rest (t := s.putStatus (25 + d.val) (s.damper d).word) rfl rfl)

theorem moveFrom (d : Fin 8) (n : Nat) (s : State) : R s (s.moveFrom again e d n) := by
  unfold State.moveFrom
  dsimp only
  split
  · exact hR.behind (hR.handOnDamper ha e d _) (hR.rest rfl rfl)
  · exact hR.behind (hR.handOnDamper ha e d _) (hR.rest rfl rfl)

theorem grantHead (s : State) : R s (s.grantHead again e) := by
  unfold State.grantHead
  split
  · exact hR.refl s
  next m ms _ =>
    have popped : R s { s with drive := { s.drive with queue := ms } } := hR.rest rfl rfl
    dsimp only
    split
    · exact hR.behind (hR.handOnDamper ha e m.damper _) (hR.rest rfl rfl)
    · exact hR.trans popped (hR.moveFrom ha e m.damper _ _)

theorem giveGrants (n : Nat) (s : State) : R s (State.giveGrants again e n s) := by
  induction n generalizing s with
  | zero => exact hR.refl s
  | succ n ih =>
    unfold State.giveGrants
    split
    · exact hR.trans (hR.grantHead ha e s) (ih _)
    · exact hR.refl s

theorem grant (s : State) : R s (s.grant again e) := hR.giveGrants ha e _ s

theorem joinMotion (d : Fin 8) (s : State) : R s (s.joinMotion again e d) := by
  unfold State.joinMotion
  dsimp only
  exact hR.behind (hR.grant ha e _) (hR.behind (hR.handOnDamper ha e d _) (hR.rest rfl rfl))

theorem replan (d : Fin 8) (n : Nat) (s : State) : R s (s.replan again e d n) := by
  unfold State.replan
  dsimp only
  split
  · exact hR.behind (hR.grant ha e _) (hR.moveFrom ha e d n s)
  · exact hR.moveFrom ha e d n s

theorem takeTarget (d : Fin 8) (g : Nat) (s : State) : R s (s.takeTarget again e d g) := by
  have set : R s (s.setDamper d { s.damper d with target := g }) := hR.rest rfl rfl
  unfold State.takeTarget
  dsimp only
  generalize s.setDamper d { s.damper d with target := g } = u at set ⊢
  split
  · split
    · exact set
    · exact hR.trans set (hR.joinMotion ha e d u)
  · split
    · exact hR.behind (hR.handOnDamper ha e d _) (hR.trans set (hR.rest rfl rfl))
    · exact set
  · exact hR.trans set (hR.replan ha e d _ u)
  · exact hR.trans set (hR.replan ha e d _ u)
  · exact set

/-! ### The recompute (R30 to R33) -/

theorem handTarget (entry : Bool) (old new : Mix) (d : Fin 8) (s : State) : R s (s.handTarget again e entry old new d) := by
  unfold State.handTarget
  split
  · exact hR.takeTarget ha e d _ s
  · exact hR.refl s

omit ha in
theorem tellDenied (m : Mix) (l : LaneId) (s : State) : R s (s.tellDenied m l) := by
  unfold State.tellDenied
  split
  · split
    · exact hR.rest rfl rfl
    · exact hR.refl s
  · exact hR.refl s

theorem recomputeOnce (entry : Bool) (dp : Option Nat) (s : State) : R s (s.recomputeOnce again e entry dp) := by
  have worded : R s ((s.mixed dp).putMixWords s.governor.mix (s.nextMix dp).1) := by
    rw [putMixWords_state]
    exact hR.rest rfl rfl
  have targets := hR.trans worded
    (hR.each (fun d t => hR.handTarget ha e entry s.governor.mix (s.nextMix dp).1 d t) allDampers _)
  rw [recomputeOnce_eq]
  unfold State.handed
  dsimp only
  refine hR.behind (hR.each (fun l t => hR.tellDenied _ l t) allLanes _) (hR.behind (hR.rejudges _ rfl rfl) ?_)
  split
  · exact hR.trans targets (hR.blower _ _)
  · exact targets

end

theorem recomputeAt (e : Option LaneId) (n : Nat) (entry : Bool) (dp : Option Nat) (s : State) :
    R s (State.recomputeAt e n entry dp s) := by
  induction n generalizing entry dp s with
  | zero => exact hR.recomputeOnce hR.refl e entry dp s
  | succ n ih => exact hR.recomputeOnce (fun t => ih false none t) e entry dp s

theorem recompute (s : State) : R s s.recompute := by
  unfold State.recompute State.recomputeFor
  split
  · exact hR.recomputeAt none 3 false none s
  · exact hR.refl s

theorem recomputeConversion (dp : Option Nat) (s : State) : R s (s.recomputeConversion dp) := by
  unfold State.recomputeConversion
  split
  · exact hR.recomputeAt none 3 false dp s
  · exact hR.refl s

/-! ### The ends of orders (R16, R22, R23) -/

theorem emit (s : State) (e : Event) : R s (s.emit e) := hR.rest (emit_heat s e) (emit_scanner s e)

theorem fetchOrIdle (l : LaneId) (s : State) : R s (s.fetchOrIdle l) := by
  unfold State.fetchOrIdle
  split
  · exact hR.behind (hR.recompute _) (hR.rest rfl rfl)
  · exact hR.behind (hR.recompute _) (hR.rest rfl rfl)

theorem goStopped (l : LaneId) (code : Completion) (s : State) : R s (s.goStopped l code) :=
  hR.behind (hR.recompute _) (hR.behind (hR.emit _ _) (hR.rest rfl rfl))

theorem endTold (l : LaneId) (o : ActiveOrder) (code : Completion) (s : State) : R s (s.endTold l o code) := by
  unfold State.endTold
  dsimp only
  split
  · exact hR.behind (hR.emit _ _) (hR.rest rfl rfl)
  · exact hR.rest rfl rfl

theorem endOrder (l : LaneId) (code : Completion) (stop : Bool) (s : State) : R s (s.endOrder l code stop) := by
  cases ho : (s.lanes.get l).order with
  | none =>
    rw [show s.endOrder l code stop = s by simp only [State.endOrder, ho]]
    exact hR.refl s
  | some o =>
    rw [endOrder_eq ho]
    dsimp only
    have told : R s ((s.endTold l o code).setLane l ((s.lanes.get l).advanced (s.ringSize l))) :=
      hR.trans (hR.endTold l o code s) (hR.rest rfl rfl)
    split
    · exact hR.trans told (hR.goStopped l code _)
    · exact hR.trans told (hR.fetchOrIdle l _)

theorem cutOrder (l : LaneId) (code : Completion) (s : State) : R s (s.cutOrder l code) := by
  refine hR.behind (hR.endOrder l code false _) ?_
  unfold State.withdrawLane
  split
  · exact hR.refl s
  · exact hR.each (fun c t => hR.withdraws t _ c) _ s

theorem offerHold (k : HoldKey) (l : LaneId) (s : State) : R s (s.offerHold k l) := by
  unfold State.offerHold
  dsimp only
  split
  · split
    · split
      · exact hR.cutOrder l _ s
      · exact hR.rest rfl rfl
    · exact hR.refl s
  · exact hR.refl s

/-! ### The Hold Table's records (R54 to R56) -/

theorem createHold (k : HoldKey) (cause : HoldCause) (phase : Option PurgeState) (s : State) :
    R s (s.createHold k cause phase) := by
  unfold State.createHold
  dsimp only
  refine hR.behind (hR.each (fun l t => hR.offerHold k l t) allLanes _) (hR.behind (hR.recompute _) ?_)
  exact hR.behind (hR.emit _ _) (hR.rest rfl rfl)

theorem removeHold (r : HoldRecord) (s : State) : R s (s.removeHold r) := by
  unfold State.removeHold State.closeGap
  dsimp only
  refine hR.behind (hR.recompute _) (hR.behind (hR.emit _ _) ?_)
  exact hR.behind (hR.each (fun j t => hR.rest (t := t.putHoldEntry j _) rfl rfl) _ _) (hR.rest rfl rfl)

/-! ### The Purge Controller (R73 to R82) -/

theorem tellGovernorPurge (s : State) : R s s.tellGovernorPurge := hR.behind (hR.recompute _) (hR.rest rfl rfl)

theorem putPurgeWords (old : Purge) (s : State) : R s (s.putPurgeWords old) := by
  rw [putPurgeWords_eq]
  exact hR.rest rfl rfl

theorem relamp (s : State) : R s s.relamp := hR.rest (relamp_heat s) (relamp_scanner s)

theorem purgeLamp (old new : Purge) (s : State) : R s (s.purgeLamp old new) := by
  unfold State.purgeLamp
  split
  · exact hR.behind (hR.relamp _) (hR.rest rfl rfl)
  · exact hR.refl s

theorem purgeSpots (old new : Purge) (s : State) : R s (s.purgeSpots old new) := by
  have left : R s (if old.state = .verify then s.each old.awaited (fun c t => t.withdrawSpot .purge c) else s) := by
    split
    · exact hR.each (fun c t => hR.withdraws t _ c) _ s
    · exact hR.refl s
  unfold State.purgeSpots
  dsimp only
  split
  · exact hR.trans left (hR.each (fun c t => hR.asks t _ c) _ _)
  · exact left

theorem purgeTold (new : Purge) (event : Option Event) (s : State) : R s (s.purgeTold new event) := by
  unfold State.purgeTold
  split
  · exact hR.behind (hR.emit _ _) (hR.purgeSpots _ _ _)
  · exact hR.purgeSpots _ _ _

theorem changePhase (phase : PurgeState) (s : State) : R s (s.changePhase phase) := by
  unfold State.changePhase
  dsimp only
  split <;> exact hR.rest rfl rfl

theorem purgeHold (old new : Purge) (s : State) : R s (s.purgeHold old new) := by
  unfold State.purgeHold
  split
  · split
    · exact hR.refl s
    · exact hR.createHold _ _ _ s
  · split
    · split
      · exact hR.removeHold _ s
      · exact hR.refl s
    · exact hR.changePhase _ s

theorem purgeGo (new : Purge) (event : Option Event) (s : State) : R s (s.purgeGo new event) := by
  rw [purgeGo_eq]
  refine hR.behind (hR.purgeLamp _ _ _) (hR.behind (hR.putPurgeWords _ _) (hR.behind (hR.tellGovernorPurge _) ?_))
  exact hR.behind (hR.purgeHold _ _ _) (hR.trans (hR.purgeTold new event s) (hR.rest rfl rfl))

theorem purgeKeep (new : Purge) (s : State) : R s (s.purgeKeep new) :=
  hR.behind (hR.putPurgeWords _ _) (hR.rest (t := s.setPurge new) rfl rfl)

theorem purgeTrigger (c : PurgeCause) (s : State) : R s (s.purgeTrigger c) := by
  unfold State.purgeTrigger
  dsimp only
  split
  · exact hR.purgeGo _ _ s
  · exact hR.purgeKeep _ s
  · exact hR.purgeKeep _ s
  · exact hR.purgeKeep _ s
  · exact hR.purgeGo _ _ s

theorem purgeRejudge (s : State) : R s s.purgeRejudge := by
  unfold State.purgeRejudge
  dsimp only
  split
  · split
    · exact hR.refl s
    · split
      · exact hR.behind (hR.putPurgeWords _ _) (hR.behind (hR.tellGovernorPurge _) (hR.rest rfl rfl))
      · exact hR.purgeGo _ _ s
  · split
    · exact hR.purgeGo _ _ s
    · exact hR.refl s
  · exact hR.refl s

/-! ### Raises, releases and grade notices (R54 to R59, R113 to R118) -/

theorem tellHeat (k : HoldKey) (present : Bool) (s : State) : R s (s.tellHeat k present) := by
  unfold State.tellHeat
  split
  · exact hR.rejudges s rfl rfl
  · exact hR.rejudges s rfl rfl
  · exact hR.rejudges s rfl rfl
  · exact hR.refl s

theorem tellPurge (k : HoldKey) (present : Bool) (s : State) : R s (s.tellPurge k present) := by
  unfold State.tellPurge
  split
  · exact hR.purgeRejudge s
  · split
    · exact hR.purgeTrigger _ s
    · exact hR.refl s
  · exact hR.refl s

theorem tellFollowers (k : HoldKey) (present : Bool) (s : State) : R s (s.tellFollowers k present) := by
  rw [tellFollowers_eq]
  refine hR.behind (hR.rest (tellLamp_heat k present _) (tellLamp_scanner k present _)) ?_
  exact hR.behind (hR.tellHeat k present _) (hR.tellPurge k present s)

theorem takeRaise (k : HoldKey) (cause : HoldCause) (s : State) : R s (s.takeRaise k cause) := by
  unfold State.takeRaise
  split
  · split
    · exact hR.rest rfl rfl
    · exact hR.behind (hR.tellFollowers k true _) (hR.createHold _ _ _ s)
  · exact hR.refl s

theorem takeRelease (k : HoldKey) (s : State) : R s (s.takeRelease k) := by
  unfold State.takeRelease
  split
  · split
    · exact hR.behind (hR.tellFollowers k false _) (hR.removeHold _ s)
    · exact hR.refl s
  · exact hR.refl s

theorem inletGradeNotice (i : Inlet) (g : Grade) (s : State) : R s (s.inletGradeNotice i g) := by
  unfold State.inletGradeNotice
  split
  · exact hR.takeRaise _ _ s
  · exact hR.takeRaise _ _ s
  · exact hR.rest rfl rfl
  · exact hR.rest rfl rfl

theorem tableGradeNotice (b : Body) (g : Grade) (s : State) : R s (s.tableGradeNotice b g) := by
  unfold State.tableGradeNotice
  split
  · exact hR.inletGradeNotice _ g s
  · exact hR.inletGradeNotice _ g s
  · split
    · exact hR.takeRaise _ _ s
    · exact hR.takeRelease _ s

theorem governorGradeNotice (b : Body) (g : Grade) (s : State) : R s (s.governorGradeNotice b g) :=
  hR.behind (hR.recompute _) (hR.rest rfl rfl)

theorem changeGrade (tableFirst : Bool) (b : Body) (g : Grade) (s : State) : R s (s.changeGrade tableFirst b g) := by
  unfold State.changeGrade State.gradeNotices
  dsimp only
  have told (t : State) (e : Event) (n : Nat) (w : Word) (h : t.heat = s.heat) (k : t.scanner = s.scanner) :
      R s ((t.emit e).putStatus n w) := hR.trans (hR.rest h k) (hR.trans (hR.emit t e) (hR.rest rfl rfl))
  split
  · exact hR.behind (hR.governorGradeNotice _ _ _) (hR.behind (hR.tableGradeNotice _ _ _) (told _ _ _ _ rfl rfl))
  · exact hR.behind (hR.tableGradeNotice _ _ _) (hR.behind (hR.governorGradeNotice _ _ _) (told _ _ _ _ rfl rfl))

theorem levelChanged (c : Fin 6) (s : State) : R s (s.levelChanged c) := by
  unfold State.levelChanged
  dsimp only
  split
  · exact hR.rest rfl rfl
  · exact hR.behind (hR.changeGrade _ _ _ _) (hR.rest rfl rfl)

theorem graderReading (c : Fin 6) (r : Nat) (rail isOpen : Bool) (s : State) : R s (s.graderReading c r rail isOpen) := by
  unfold State.graderReading
  dsimp only
  split
  · exact hR.rest rfl rfl
  · exact hR.behind (hR.levelChanged c _) (hR.rest rfl rfl)

end Lasting

/-! ### The budget and a spent watch (R145, R151) -/

/-- What leaves the budget of the heat unit, and a watch that has run out. -/
structure Warms (s t : State) : Prop where
  budget : t.heat.budgeted = s.heat.budgeted
  spent : s.heat.watch = .spent → t.heat.watch = .spent

theorem Warms.of_heat {s t : State} (h : t.heat = s.heat) : Warms s t := ⟨congrArg _ h, fun spent => by rw [h]; exact spent⟩

theorem rejudgeHeat_warms (s : State) : Warms s s.rejudgeHeat := by
  have budget := congrArg HeatUnit.budgeted (rejudgeHeat_unjudged s)
  have watch := congrArg HeatUnit.watch (rejudgeHeat_unjudged s)
  exact ⟨budget, watch.trans⟩

theorem handBlower_warms (s : State) (v : Nat) : Warms s (s.handBlower v) := by
  unfold State.handBlower
  rw [rejudgeWatch_eq]
  refine ⟨rfl, fun spent => ?_⟩
  show s.heat.watch.judged _ _ = .spent
  rw [spent]
  rfl

theorem warms_lasting : Lasting Warms where
  refl _ := ⟨rfl, id⟩
  trans h k := ⟨k.budget.trans h.budget, k.spent ∘ h.spent⟩
  rest heat _ := .of_heat heat
  asks s r c := .of_heat (requestSpot_heat s r c)
  withdraws _ _ _ := .of_heat rfl
  blower := handBlower_warms
  rejudges s h budget watch := by
    obtain ⟨judged, spent⟩ := rejudgeHeat_warms (s.setHeat h)
    exact ⟨judged.trans budget, fun k => spent (watch.trans k)⟩

/-! ### A scan conversion under handling (R95, R97) -/

/-- What leaves the scan where a completed scan conversion is under handling: the requests wait. -/
def Waits (s t : State) : Prop :=
  s.scanner.state = .scanning → s.scanner.conversion = none → t.scanner = { s.scanner with queue := t.scanner.queue }

section
variable {s t u : State}

theorem Waits.of_scanner (h : t.scanner = s.scanner) : Waits s t := fun _ _ => by rw [h]

theorem Waits.trans (h : Waits s t) (k : Waits t u) : Waits s u := by
  intro state conversion
  have ht := h state conversion
  have hu := k (by rw [ht]; exact state) (by rw [ht]; exact conversion)
  rw [ht] at hu
  exact hu

end

theorem requestSpot_waits (s : State) (r : Requester) (c : Fin 16) : Waits s (s.requestSpot r c) := by
  intro state conversion
  unfold State.requestSpot
  split
  · dsimp only
    rw [show (s.setScanner { s.scanner with queue := joinSpot r c s.scanner.queue }).scanner.state = .scanning from state]
    dsimp only
    rw [if_neg (by rw [show (s.setScanner { s.scanner with queue := joinSpot r c s.scanner.queue }).scanner.conversion = none
      from conversion]; exact nofun)]
    rfl
  · rfl

theorem testStageUp_waits (s : State) : Waits s s.testStageUp := by
  unfold State.testStageUp
  split
  · split
    next i _ =>
      exact requestSpot_waits (s.setHeat { s.heat with
        stages := vset s.heat.stages i .on, stageUpTimer := some (s.now + 1000 * s.lay.stageInterval)
        verify := some { stage := i, baseline := s.heat.lastAmps.getD 0 } }) .heat 15
    · exact .of_scanner rfl
  · exact .of_scanner rfl

theorem rejudgeHeat_waits (s : State) : Waits s s.rejudgeHeat := by
  rw [rejudgeHeat_eq]
  split
  · exact .of_scanner rfl
  · exact (Waits.of_scanner (t := s.valved) rfl).trans (testStageUp_waits _)

theorem waits_lasting : Lasting Waits where
  refl _ := .of_scanner rfl
  trans := .trans
  rest _ scanner := .of_scanner scanner
  asks := requestSpot_waits
  withdraws _ _ _ := fun _ _ => rfl
  blower s v := by
    obtain ⟨w, eq⟩ := handBlower_eq s v
    rw [eq]
    exact .of_scanner rfl
  rejudges s h _ _ := (Waits.of_scanner (t := s.setHeat h) rfl).trans (rejudgeHeat_waits _)

end Sys2Proof.Machine
end

section
/-! PROOFS. The blower watch run out and cleared (R65, R145, R146). -/

namespace Sys2Proof.Machine

theorem lay_of_base {s t : State} (h : t.base = s.base) : t.lay = s.lay :=
  congrArg (fun l : Option Layout => l.getD .absent) (congrArg (fun x : Base => x.layout) h)

theorem now_of_base {s t : State} (h : t.base = s.base) : t.now = s.now := congrArg (fun x => x.now) h

/-- R148: no stage is ON after a re-judgement while the unit sees BLOWER_FAIL. -/
theorem rejudgeHeat_off {s : State} (running : s.part = .running) (sees : s.heat.seesBlowerFail = true) :
    s.rejudgeHeat.heat.energised = 0 := by
  obtain ⟨-, off⟩ := rejudgeHeat_withinBudget running
  have kept := congrArg HeatUnit.seesBlowerFail (rejudgeHeat_unjudged s)
  exact off (.inr (.inr (Eq.trans kept sees)))

/-- R65, R148: BLOWER_FAIL raised leaves no stage ON. -/
theorem takeRaise_blowerFail_off {s : State} (running : s.part = .running) (cause : HoldCause)
    (off : s.hasHold .blowerFail = true → s.heat.energised = 0) : (s.takeRaise .blowerFail cause).heat.energised = 0 := by
  cases present : s.hasHold .blowerFail with
  | true =>
    rw [takeRaise_present running present]
    exact off present
  | false =>
    have part : (s.createHold .blowerFail cause none).part = .running :=
      (part_of_base (State.base_of_below (createHold_below _ _ _ s))).trans running
    rw [takeRaise_absent running present, tellFollowers_heats_eq rfl, tellLamp_heat]
    generalize s.createHold .blowerFail cause none = u at part
    exact rejudgeHeat_off (s := u.setHeat { u.heat with seesBlowerFail := true }) part rfl

/-- R145: the watch started anew. -/
theorem restarted_watch (s : State) : ((s.setHeat { s.heat with watch := .idle }).rejudgeWatch).heat.watch =
    if 20 ≤ s.heat.blower ∧ s.heat.speed < 10 * s.lay.stallSpeed then .timing (s.now + 5000) else .idle := by
  rw [rejudgeWatch_eq]
  show Watch.judged .idle (decide (20 ≤ s.heat.blower) && decide (s.heat.speed < 10 * s.lay.stallSpeed)) _ = _
  simp only [Watch.judged, Bool.and_eq_true, decide_eq_true_iff]
  rfl

theorem rejudgeWatch_rest (s : State) : s.rejudgeWatch = s.setHeat { s.heat with watch := s.rejudgeWatch.heat.watch } := by
  rw [rejudgeWatch_eq]
  rfl

/-- Settles O42: the raise ends in a re-judgement of the stages under BLOWER_FAIL; the command releases the hold before it
starts the watch anew. -/
theorem blowerWatchRunsOutAndIsCleared : Obligations.BlowerWatchRunsOutAndIsCleared := by
  refine ⟨fun s n running watch due bounded => ?_, fun s running distinct => ?_⟩
  · have due : s.watchDue = true := watchDue_iff.2 ⟨n, watch, due⟩
    obtain ⟨-, -, -, -, off⟩ := bounded running
    refine ⟨_, congrArg Host.Outcome.next (if_pos ⟨running, due⟩), ?_, (warms_lasting.takeRaise _ _ _).spent rfl,
      takeRaise_hasHold (k := .blowerFail) (s := s.setHeat { s.heat with watch := .spent }) running nofun .watch,
      takeRaise_blowerFail_off (s := s.setHeat { s.heat with watch := .spent }) running .watch
        fun held => off (.inr (.inr held))⟩
    exact (takeRaise_base _ _ _).trans rfl
  have taken := service_taken (s := s) (code := 7) running (by decide) rfl
  have still := atGrant_portStill running
  rw [show exec .clearBlowerFail s = _ from taken]
  generalize s.atGrant = g at still ⊢
  intro g
  have runs : (State.forwardWrite 0x40 (.good 7) g).part = .running := (congrArg PortStill.part still).trans running
  have unique : ((State.forwardWrite 0x40 (.good 7) g).holds.map HoldRecord.key).Nodup := by
    rw [show (State.forwardWrite 0x40 (.good 7) g).holds = s.holds from congrArg PortStill.holds still]
    exact distinct
  have clear := commandClearBlowerFail_base (State.forwardWrite 0x40 (.good 7) g)
  have lay : (State.forwardWrite 0x40 (.good 7) g).lay = g.lay := rfl
  have now : (State.forwardWrite 0x40 (.good 7) g).now = g.now := rfl
  generalize State.forwardWrite 0x40 (.good 7) g = w at runs unique clear lay now
  have keys := takeRelease_keys (k := .blowerFail) runs
  have base := takeRelease_base .blowerFail w
  have whole : w.commandClearBlowerFail =
    ((w.takeRelease .blowerFail).setHeat { (w.takeRelease .blowerFail).heat with watch := .idle }).rejudgeWatch := rfl
  generalize w.takeRelease .blowerFail = v at keys base whole
  have watch := restarted_watch v
  have rest := rejudgeWatch_rest (v.setHeat { v.heat with watch := .idle })
  rw [← whole] at watch rest
  rw [lay_of_base base, now_of_base base, lay, now] at watch
  generalize w.commandClearBlowerFail = t at clear watch rest
  refine ⟨_, rfl, (State.base_of_below (State.below_of_lower (offer_lower t _ _))).trans clear, ?_, ?_, ?_⟩
  · refine Bool.eq_false_iff.2 fun held => ?_
    have mem := (hasHold_iff t _).1 held
    rw [show t.holds = v.holds by rw [rest]; rfl, keys] at mem
    exact List.Nodup.not_mem_erase unique mem
  · refine watch.trans ?_
    rw [rest]
    rfl
  · rw [offer_writes, List.getLast?_append]
    rfl

end Sys2Proof.Machine
end

section
/-! PROOFS. The stages and the voltage budget (R149 to R152). -/

namespace Sys2Proof.Machine

/-! ### Stages (R148 to R150) -/

theorem vset_keeps_dead {v : Vector StageState 4} {i j : Fin 4} (x : StageState) (dead : v.get i = .dead)
    (other : v.get j ≠ .dead) : (vset v j x).get i = .dead :=
  (vset_get_other v x fun same : i = j => other (by rw [← same]; exact dead)).trans dead

theorem stageFall_keeps_dead {v : Vector StageState 4} {i : Fin 4} (dead : v.get i = .dead) : (stageFall v).get i = .dead := by
  have put {j : Fin 4} (on : v.get j = .on) : (vset v j .off).get i = .dead :=
    vset_keeps_dead .off dead (by rw [on]; exact nofun)
  unfold stageFall
  split
  · exact put ‹_›
  · split
    · exact put ‹_›
    · split
      · exact put ‹_›
      · split
        · exact put ‹_›
        · exact dead

theorem stageFalls_keeps_dead (n : Nat) {v : Vector StageState 4} {i : Fin 4} (dead : v.get i = .dead) :
    (stageFalls n v).get i = .dead := by
  induction n generalizing v with
  | zero => exact dead
  | succ n ih => exact ih (stageFall_keeps_dead dead)

theorem testStageUp_keeps_dead {s : State} {i : Fin 4} (dead : s.heat.stages.get i = .dead) :
    s.testStageUp.heat.stages.get i = .dead := by
  unfold State.testStageUp
  split
  · split
    next j off =>
      rw [energise_heat]
      exact vset_keeps_dead .on dead (by rw [lowestOff_off off]; exact nofun)
    · exact dead
  · exact dead

/-- R148, R150: a DEAD stage stays DEAD through a re-judgement. -/
theorem rejudgeHeat_keeps_dead {s : State} {i : Fin 4} (dead : s.heat.stages.get i = .dead) :
    s.rejudgeHeat.heat.stages.get i = .dead := by
  rw [rejudgeHeat_eq]
  split
  · exact stageFalls_keeps_dead _ dead
  · exact testStageUp_keeps_dead (s := s.valved) dead

theorem stageDies_dead (i : Fin 4) (n : Nat) (s : State) : (s.stageDies i n).heat.stages.get i = .dead := by
  unfold State.stageDies
  dsimp only
  refine rejudgeHeat_keeps_dead ?_
  rw [emit_heat]
  exact vset_get_same _ _ _

/-- R149: a stage that may go on is energised. -/
theorem testStageUp_energises {s : State} {i : Fin 4} (wanted : s.heat.energised < s.stageLimit) (timer : s.heat.stageUpTimer = none)
    (verify : s.heat.verify = none) (off : lowestOff s.heat.stages = some i) : s.testStageUp = s.energise i := by
  unfold State.testStageUp
  rw [if_pos ⟨wanted, timer, verify⟩, off]

/-- R149: the energising of a stage asks for HEATER_AMPS. -/
theorem energise_asks {s : State} (running : s.part = .running) (i : Fin 4) : asksFor .heat 15 (s.energise i).asked := by
  unfold State.energise
  dsimp only
  exact requestSpot_asks (s := s.setHeat { s.heat with
    stages := vset s.heat.stages i .on, stageUpTimer := some (s.now + 1000 * s.lay.stageInterval)
    verify := some { stage := i, baseline := s.heat.lastAmps.getD 0 } }) running .heat 15

/-- R150: a verify result, by whether its stage fails. -/
theorem deliverHeat_verifies (s : State) (r : SpotResult) (v : StageVerify) (verify : s.heat.verify = some v) :
    let u := s.setHeat { s.heat with verify := none }
    let fails := s.heat.stages.get v.stage = .on ∧ r.isOpen = false ∧ r.value < v.baseline + s.lay.stageStep
    (¬ fails → s.deliverHeat r = u.testStageUp) ∧ (fails → s.deliverHeat r = (u.stageDies v.stage r.value).testStageUp) := by
  intro u fails
  have judged : (u.heat.stages.get v.stage ≠ .on ∨ r.isOpen = true ∨ v.baseline + u.lay.stageStep ≤ r.value) ↔ ¬ fails := by
    rw [show u.lay = s.lay from rfl, show u.heat.stages = s.heat.stages from rfl]
    refine ⟨fun passes ⟨on, shut, short⟩ => ?_, fun sound => Decidable.or_iff_not_imp_left.2 fun on =>
      Decidable.or_iff_not_imp_left.2 fun shut => Nat.not_lt.1 fun short =>
        sound ⟨Decidable.not_not.1 on, eq_false_of_ne_true shut, short⟩⟩
    obtain off | opened | enough := passes
    · exact off on
    · rw [shut] at opened
      cases opened
    · exact absurd short (Nat.not_lt.2 enough)
  have delivers : s.deliverHeat r = if u.heat.stages.get v.stage ≠ .on ∨ r.isOpen = true ∨ v.baseline + u.lay.stageStep ≤ r.value
      then u.testStageUp else (u.stageDies v.stage r.value).testStageUp := by
    unfold State.deliverHeat
    rw [verify]
  exact ⟨fun passes => delivers.trans (if_pos (judged.2 passes)), fun failed => delivers.trans (if_neg fun k => judged.1 k failed)⟩

/-! ### The allowed count (R152) -/

theorem rejudgeHeat_holds (s : State) : s.rejudgeHeat.holds = s.holds :=
  congrArg Lower.holds (State.lower_of_still (rejudgeHeat_still s))

theorem hasHold_of_holds {s t : State} (h : t.holds = s.holds) (k : HoldKey) : t.hasHold k = s.hasHold k :=
  congrArg (fun rs : List HoldRecord => rs.any (fun r => decide (r.key = k))) h

theorem takeRelease_hasHold {s : State} (running : s.part = .running) (distinct : s.holdsDistinct) (k : HoldKey) :
    (s.takeRelease k).hasHold k = false := by
  refine Bool.eq_false_iff.2 fun held => ?_
  have mem := (hasHold_iff _ k).1 held
  rw [takeRelease_keys running] at mem
  exact List.Nodup.not_mem_erase distinct mem

/-- R152: the allowed count is what it was set to; the rest of what readings are judged by stands. -/
theorem setAllowed_budgeted (n : Nat) (s : State) : (s.setAllowed n).heat.budgeted = { s.heat with allowed := n }.budgeted := by
  unfold State.setAllowed
  dsimp only
  split
  next same => rw [same]
  · refine (rejudgeHeat_warms _).budget.trans ?_
    split
    · exact (warms_lasting.takeRaise _ _ _).budget
    · split
      · exact (warms_lasting.takeRelease _ _).budget
      · rfl

/-- R152: no heat allowed raises HEAT_SHED, and heat allowed again releases it. -/
theorem setAllowed_sheds {s : State} (running : s.part = .running) (distinct : s.holdsDistinct) (n : Nat) :
    (n = 0 → s.heat.allowed ≠ 0 → (s.setAllowed n).hasHold .heatShed = true) ∧
      (n ≠ 0 → s.heat.allowed = 0 → (s.setAllowed n).hasHold .heatShed = false) := by
  unfold State.setAllowed
  dsimp only
  refine ⟨fun zero some => ?_, fun some zero => ?_⟩
  · rw [if_neg (by rw [zero]; exact some.symm), if_pos zero, hasHold_of_holds (rejudgeHeat_holds _)]
    exact takeRaise_hasHold (k := .heatShed) (s := (s.setHeat { s.heat with allowed := n }).putHeatWord) running nofun .budget
  · rw [if_neg (by rw [zero]; exact some), if_neg some, if_pos zero, hasHold_of_holds (rejudgeHeat_holds _)]
    exact takeRelease_hasHold (s := (s.setHeat { s.heat with allowed := n }).putHeatWord) running distinct .heatShed

/-! ### Readings of SUPPLY_VOLTS (R151) -/

/-- R151, R152: a state of the unit with a new allowed count and no reading pending. -/
structure TakesCount (s t : State) (n : Nat) : Prop where
  base : t.base = s.base
  allowed : t.heat.allowed = n
  first : t.heat.firstReading = false
  run : t.heat.lowerRun = 0
  restore : t.heat.restore = none
  sheds : n = 0 → s.heat.allowed ≠ 0 → t.hasHold .heatShed = true
  frees : n ≠ 0 → s.heat.allowed = 0 → t.hasHold .heatShed = false

theorem setAllowed_takes {s : State} (running : s.part = .running) (distinct : s.holdsDistinct) {h : HeatUnit}
    (allowed : h.allowed = s.heat.allowed) (first : h.firstReading = false) (run : h.lowerRun = 0) (restore : h.restore = none)
    (n : Nat) : TakesCount s ((s.setHeat h).setAllowed n) n := by
  have budget := setAllowed_budgeted n (s.setHeat h)
  have base := setAllowed_base n (s.setHeat h)
  have sheds := setAllowed_sheds (s := s.setHeat h) running distinct n
  rw [show (s.setHeat h).heat.allowed = s.heat.allowed from allowed] at sheds
  obtain ⟨raised, released⟩ := sheds
  generalize (s.setHeat h).setAllowed n = t at budget base raised released ⊢
  unfold HeatUnit.budgeted at budget
  simp only [Prod.mk.injEq] at budget
  obtain ⟨count, wasFirst, wasRun, -, wasRestore⟩ := budget
  exact ⟨base, count, wasFirst.trans first, wasRun.trans run, wasRestore.trans restore, raised, released⟩

/-- R151: what the readings pending are judged by, started anew. -/
def HeatUnit.fresh (h : HeatUnit) : HeatUnit := { h with lowerRun := 0, lowerHighest := 0, restore := none }

section
variable {s : State} (r : Nat) (isOpen : Bool)

theorem voltReading_first (first : s.heat.firstReading = true) : s.voltReading r isOpen =
    (s.setHeat { s.heat.fresh with firstReading := false }).setAllowed (s.lay.voltClass r isOpen) := by
  unfold State.voltReading
  dsimp only
  rw [if_pos first]
  rfl

section
variable (later : s.heat.firstReading = false)
include later

theorem voltReading_open : s.voltReading r true = (s.setHeat s.heat.fresh).setAllowed 0 := by
  unfold State.voltReading
  dsimp only
  rw [if_neg (by rw [later]; exact nofun), if_pos rfl]
  rfl

theorem voltReading_lower (below : s.lay.voltClass r false < s.heat.allowed) :
    s.voltReading r false = s.lowerReading (s.lay.voltClass r false) := by
  unfold State.voltReading
  dsimp only
  rw [if_neg (by rw [later]; exact nofun), if_neg nofun, if_pos below]

theorem voltReading_same (same : s.lay.voltClass r false = s.heat.allowed) : s.voltReading r false = s.setHeat s.heat.fresh := by
  unfold State.voltReading
  dsimp only
  rw [if_neg (by rw [later]; exact nofun), if_neg nofun, if_neg (by omega), if_pos same]
  rfl

theorem voltReading_higher (above : s.heat.allowed < s.lay.voltClass r false) :
    s.voltReading r false = s.higherReading (s.lay.voltClass r false) := by
  unfold State.voltReading
  dsimp only
  rw [if_neg (by rw [later]; exact nofun), if_neg nofun, if_neg (by omega), if_neg (by omega)]

end

end

section
variable {s : State} (running : s.part = .running) (distinct : s.holdsDistinct)
include running distinct

theorem voltReading_first_takes (r : Nat) (isOpen : Bool) (first : s.heat.firstReading = true) :
    TakesCount s (s.voltReading r isOpen) (s.lay.voltClass r isOpen) := by
  rw [voltReading_first r isOpen first]
  exact setAllowed_takes running distinct (h := { s.heat.fresh with firstReading := false }) rfl rfl rfl rfl _

theorem voltReading_open_takes (r : Nat) (later : s.heat.firstReading = false) : TakesCount s (s.voltReading r true) 0 := by
  rw [voltReading_open r later]
  exact setAllowed_takes running distinct (h := s.heat.fresh) rfl later rfl rfl 0

/-- R151: the third reading in a row below the allowed count. -/
theorem lowerReading_takes (cls : Nat) (later : s.heat.firstReading = false) (many : 3 ≤ s.heat.lowerRun + 1) :
    TakesCount s (s.lowerReading cls) (if s.heat.lowerRun = 0 then cls else max s.heat.lowerHighest cls) := by
  unfold State.lowerReading
  dsimp only
  rw [if_pos many]
  exact setAllowed_takes running distinct (h := s.heat.fresh) rfl later rfl rfl _

end

/-! ### The timers and the results -/

/-- R149: the stage-up timer's expiry. -/
theorem stageUpTimer_expires {s : State} {n : Nat} (running : s.part = .running) (timer : s.heat.stageUpTimer = some n)
    (due : n ≤ s.now) :
    (∀ i, s.heat.energised < s.stageLimit → s.heat.verify = none → lowestOff s.heat.stages = some i →
      ∃ t, exec .stageUpTimerExpiry s = .next t ∧ t.still = s.still ∧ t.governor = s.governor ∧ t.drive = s.drive ∧
        t.heat = { s.heat with
          stages := vset s.heat.stages i .on, stageUpTimer := some (s.now + 1000 * s.lay.stageInterval)
          verify := some { stage := i, baseline := s.heat.lastAmps.getD 0 } } ∧
        ∃ e ∈ t.scanner.queue, e.channel = 15 ∧ e.requesters.heat = true) ∧
    (s.stageLimit ≤ s.heat.energised ∨ s.heat.verify ≠ none → exec .stageUpTimerExpiry s =
      .next { s with heat := { s.heat with stageUpTimer := none } }) := by
  have reached : s.reached s.heat.stageUpTimer = true := reached_iff.2 ⟨n, timer, due⟩
  have expires : exec .stageUpTimerExpiry s = .next (s.setHeat { s.heat with stageUpTimer := none }).testStageUp :=
    congrArg Host.Outcome.next (if_pos ⟨running, reached⟩)
  rw [expires]
  refine ⟨fun i wanted verify off => ?_, fun stays => ?_⟩
  · have quiet := testStageUp_quiet (s.setHeat { s.heat with stageUpTimer := none })
    have still := testStageUp_still (s.setHeat { s.heat with stageUpTimer := none })
    have energised := testStageUp_energises (s := s.setHeat { s.heat with stageUpTimer := none }) wanted rfl verify off
    refine ⟨_, rfl, still, quiet.governor, quiet.drive, ?_, ?_⟩
    · rw [energised, energise_heat]
      rfl
    · rw [energised]
      exact asksFor_asked (energise_asks (s := s.setHeat { s.heat with stageUpTimer := none }) running i)
  · refine congrArg Host.Outcome.next (if_neg ?_)
    rintro ⟨wanted, -, verify⟩
    exact stays.elim (fun full => absurd wanted (Nat.not_lt.2 full)) fun waits => waits verify

/-- R151: the restore timer's expiry. -/
theorem restoreTimer_expires {s : State} {r : RestoreTimer} (running : s.part = .running) (timer : s.heat.restore = some r)
    (due : r.deadline ≤ s.now) (distinct : s.holdsDistinct) (bounded : s.stagesBounded) :
    ∃ t, exec .restoreTimerExpiry s = .next t ∧ t.base = s.base ∧
      t.heat.allowed = r.candidate ∧ t.heat.restore = none ∧ t.heat.energised ≤ r.candidate ∧
      (s.heat.allowed = 0 → r.candidate ≠ 0 → t.hasHold .heatShed = false) ∧
      (s.heat.allowed ≠ 0 → r.candidate = 0 → t.hasHold .heatShed = true) := by
  have reached : s.restoreDue = true := restoreDue_iff.2 ⟨r, timer, due⟩
  have expires : s.restoreExpires = (s.setHeat { s.heat with restore := none }).setAllowed r.candidate := by
    unfold State.restoreExpires
    rw [timer]
  have sound := (stagesBounded_iff s).1 bounded running
  have seen : HeatSees (s.setHeat { s.heat with restore := none }) := ⟨distinct, sound.2⟩
  have within := (setAllowed_heatSees r.candidate (s := s.setHeat { s.heat with restore := none }) running seen).2 sound.1
  have budget := setAllowed_budgeted r.candidate (s.setHeat { s.heat with restore := none })
  have base := setAllowed_base r.candidate (s.setHeat { s.heat with restore := none })
  obtain ⟨raised, released⟩ := setAllowed_sheds (s := s.setHeat { s.heat with restore := none }) running distinct r.candidate
  rw [show exec .restoreTimerExpiry s = .next s.restoreExpires from congrArg Host.Outcome.next (if_pos ⟨running, reached⟩), expires]
  generalize (s.setHeat { s.heat with restore := none }).setAllowed r.candidate = t at within budget base raised released
  unfold HeatUnit.budgeted at budget
  simp only [Prod.mk.injEq] at budget
  obtain ⟨allowed, -, -, -, restore⟩ := budget
  exact ⟨t, rfl, base, allowed, restore, allowed ▸ within.1, fun zero some => released some zero, fun some zero => raised zero some⟩

/-- Settles O43: each expiry and each reading comes to a re-judgement of the stages or to a new allowed count. -/
theorem stageUpAndRestoreTimersExpire : Obligations.StageUpAndRestoreTimersExpire := by
  refine ⟨fun s n running timer due => stageUpTimer_expires running timer due,
    fun s r running timer due distinct bounded => restoreTimer_expires running timer due distinct bounded,
    fun s r => ⟨fun idle => ?_, fun v verify => ?_⟩, fun s r isOpen running distinct => ?_⟩
  · unfold State.deliverHeat
    rw [idle]
  · intro u fails
    obtain ⟨passes, fails⟩ := deliverHeat_verifies s r v verify
    refine ⟨passes, fun failed => ⟨?_, deliverHeat_base r s, fails failed⟩⟩
    rw [fails failed]
    exact testStageUp_keeps_dead (stageDies_dead v.stage r.value u)
  · intro h a cls t idle takes
    have taken {n : Nat} (k : TakesCount s t n) : takes n :=
      ⟨k.base, k.allowed, k.first, k.run, k.restore, k.sheds, k.frees⟩
    refine ⟨fun first => taken ?_, fun later opened => taken ?_, fun later closed => ?_⟩
    · exact voltReading_first_takes running distinct r isOpen first
    · subst opened
      exact voltReading_open_takes running distinct r later
    · subst closed
      intro highest
      have lowers (below : cls < a) : t = s.lowerReading cls := voltReading_lower r later below
      have raises (above : a < cls) : t = s.higherReading cls := voltReading_higher r later above
      refine ⟨fun below few => ?_, fun below many => taken ?_, fun same => voltReading_same r later same, fun above none => ?_,
        fun n above some => ?_⟩
      · exact (lowers below).trans (if_neg (Nat.not_le.2 few))
      · rw [show t = _ from lowers below]
        exact lowerReading_takes running distinct cls later many
      · refine (raises above).trans ?_
        unfold State.higherReading
        dsimp only
        rw [none]
        rfl
      · refine (raises above).trans ?_
        unfold State.higherReading
        dsimp only
        rw [some]
        rfl

end Sys2Proof.Machine
end

section
/-! PROOFS. A completed conversion: its channel record, what it is handed to, and how the scanner goes on (R90 to R96, R100). -/

namespace Sys2Proof.Machine

/-! ### The channel record (R90 to R92) -/

section
variable (ch : Channel) (r : Nat) (o : Origin)

theorem Channel.take_rail_eq : ch.take r o true = { ch with
    last := some (r, o), railRun := min (ch.railRun + 1) 3, clearRun := 0
    isOpen := ch.isOpen || min (ch.railRun + 1) 3 == 3 } := rfl

theorem Channel.take_clear_eq : ch.take r o false =
    if (ch.isOpen && min (ch.clearRun + 1) 3 != 3) = true then { ch with
      last := some (r, o), clearRun := min (ch.clearRun + 1) 3, railRun := 0, isOpen := true }
    else { ch with
      last := some (r, o), clearRun := min (ch.clearRun + 1) 3, railRun := 0, isOpen := false
      window := if ch.isOpen then [r] else pushWindow ch.window r } := by
  let after (b : Bool) : Channel :=
    { ch with last := some (r, o), clearRun := min (ch.clearRun + 1) 3, railRun := 0, isOpen := b }
  show (if (!false && !(ch.isOpen && min (ch.clearRun + 1) 3 != 3)) = true
    then { after (ch.isOpen && min (ch.clearRun + 1) 3 != 3) with window := if ch.isOpen then [r] else pushWindow ch.window r }
    else after (ch.isOpen && min (ch.clearRun + 1) 3 != 3)) = _
  generalize (ch.isOpen && min (ch.clearRun + 1) 3 != 3) = b
  cases b <;> rfl

theorem Channel.take_last (rail : Bool) : (ch.take r o rail).last = some (r, o) := by
  cases rail with
  | true => rfl
  | false =>
    rw [take_clear_eq]
    split <;> rfl

/-- R90: a rail reading. -/
theorem Channel.take_rail : (ch.take r o true).railRun = min (ch.railRun + 1) 3 ∧ (ch.take r o true).clearRun = 0 ∧
    ((ch.take r o true).isOpen = true ↔ ch.isOpen = true ∨ 3 ≤ ch.railRun + 1) ∧ (ch.take r o true).window = ch.window := by
  rw [take_rail_eq]
  refine ⟨rfl, rfl, ?_, rfl⟩
  rw [Bool.or_eq_true, beq_iff_eq]
  exact or_congr_right (by omega)

theorem pushWindow_eq (w : List Nat) (r : Nat) : pushWindow w r = (w ++ [r]).drop (w.length + 1 - 4) := by
  unfold pushWindow
  rw [List.length_append]
  rfl

/-- R90, R91: a reading off the rail. -/
theorem Channel.take_clear : (ch.take r o false).clearRun = min (ch.clearRun + 1) 3 ∧ (ch.take r o false).railRun = 0 ∧
    ((ch.take r o false).isOpen = true ↔ ch.isOpen = true ∧ ¬ 3 ≤ ch.clearRun + 1) ∧
    (ch.isOpen = false → (ch.take r o false).window = (ch.window ++ [r]).drop (ch.window.length + 1 - 4)) ∧
    (ch.isOpen = true → (ch.take r o false).isOpen = false → (ch.take r o false).window = [r]) ∧
    ((ch.take r o false).isOpen = true → (ch.take r o false).window = ch.window) := by
  have stays : (ch.isOpen && min (ch.clearRun + 1) 3 != 3) = true ↔ ch.isOpen = true ∧ ¬ 3 ≤ ch.clearRun + 1 := by
    rw [Bool.and_eq_true, bne_iff_ne]
    exact and_congr_right fun _ => by omega
  rw [take_clear_eq]
  split
  next k =>
    have was := stays.1 k
    refine ⟨rfl, rfl, iff_of_true rfl was, fun closed => ?_, fun _ => nofun, fun _ => rfl⟩
    rw [was.1] at closed
    cases closed
  next k =>
    refine ⟨rfl, rfl, iff_of_false nofun fun h => k (stays.2 h), fun closed => ?_, fun opened _ => ?_, nofun⟩
    · rw [closed]
      exact pushWindow_eq _ _
    · rw [opened]
      rfl

end

/-! ### Hand-over (R87, R92) -/

/-- R92: the state with a completed conversion recorded. -/
def State.recorded (s : State) (c : Fin 16) (after : Channel) : State :=
  s.setScanner { s.scanner with conversion := none, channels := vset s.scanner.channels c after }

theorem recorded_channel (s : State) (c : Fin 16) (after : Channel) : (s.recorded c after).channel c = after :=
  vset_get_same _ _ _

/-- R92, R93: a recorded conversion with its image words and its event. -/
def State.converted (s : State) (c : Fin 16) (r : Nat) (after : Channel) (updated : Bool) : State :=
  ((s.recorded c after).putSense c updated).openEvent c r (s.channel c) after

theorem completeConversion_converted (c : Fin 16) (r : Nat) (s : State) :
    let rail := (s.lay.methods.get c).rail r
    let after := s.takenChannel c r
    s.completeConversion c r = ((s.converted c r after (after.updates rail)).handConversion c r rail (after.updates rail)).conversionFollowed
      c r (s.scanner.state == .spot) after.isOpen := rfl

theorem openEvent_eq (c : Fin 16) (r : Nat) (before after : Channel) (s : State) : s.openEvent c r before after =
    if after.isOpen = before.isOpen then s else s.emit
      { kind := if after.isOpen = true then .channelOpen else .channelRestored, subject := w16 c.val, value := w16 r } :=
  if_congr eq_comm rfl rfl

theorem openEvent_base (c : Fin 16) (r : Nat) (before after : Channel) (s : State) :
    (s.openEvent c r before after).base = s.base := by
  unfold State.openEvent
  split
  · rfl
  · exact emit_base _ _

theorem putSense_rest (c : Fin 16) (updated : Bool) (s : State) : ∃ p, s.putSense c updated = s.setPort { s.port with images := p } := by
  unfold State.putSense
  dsimp only
  split <;> exact ⟨_, rfl⟩

theorem putSense_recorded (s : State) (c : Fin 16) (after : Channel) (updated : Bool) :
    (s.recorded c after).putSense c updated =
      let raw := (s.recorded c after).putImage (s.lay.senseBase + 2 * c.val) after.rawWord
      if updated = true then raw.putImage (s.lay.senseBase + 2 * c.val + 1) after.filteredWord else raw := by
  unfold State.putSense
  rw [recorded_channel]
  rfl

theorem converted_base (s : State) (c : Fin 16) (r : Nat) (after : Channel) (updated : Bool) :
    (s.converted c r after updated).base = (s.recorded c after).base := by
  obtain ⟨p, put⟩ := putSense_rest c updated (s.recorded c after)
  unfold State.converted
  rw [openEvent_base, put]
  rfl

theorem converted_scanner (s : State) (c : Fin 16) (r : Nat) (after : Channel) (updated : Bool) :
    (s.converted c r after updated).scanner = (s.recorded c after).scanner := by
  obtain ⟨p, put⟩ := putSense_rest c updated (s.recorded c after)
  unfold State.converted State.openEvent
  rw [put]
  split
  · rfl
  · exact emit_scanner _ _

theorem conversionFollowed_base (c : Fin 16) (r : Nat) (spot isOpen : Bool) (s : State) :
    (s.conversionFollowed c r spot isOpen).base = s.base := by
  unfold State.conversionFollowed
  split
  · exact (State.base_of_below (afterSpot_below _)).trans
      (each_leaves State.base _ (fun q t => deliver_base q _ t) allRequesters s)
  · exact State.base_of_below (afterScan_below s)

/-- R92: a completed conversion changes nothing of the ground but the channel's record. -/
theorem completeConversion_ground (c : Fin 16) (r : Nat) (s : State) :
    (s.completeConversion c r).ground = (s.recorded c (s.takenChannel c r)).ground := by
  rw [completeConversion_converted]
  exact (State.ground_of_base (conversionFollowed_base _ _ _ _ _)).trans ((handConversion_ground _ _ _ _ _).trans
    (State.ground_of_base (converted_base _ _ _ _ _)))

theorem setAllowed_waits (n : Nat) (s : State) : Waits s (s.setAllowed n) := by
  unfold State.setAllowed
  dsimp only
  split
  · exact .of_scanner rfl
  · have set : Waits s ((s.setHeat { s.heat with allowed := n }).putHeatWord) := .of_scanner rfl
    refine Waits.trans (set.trans ?_) (rejudgeHeat_waits _)
    split
    · exact waits_lasting.takeRaise _ _ _
    · split
      · exact waits_lasting.takeRelease _ _
      · exact .of_scanner rfl

theorem voltReading_waits (r : Nat) (isOpen : Bool) (s : State) : Waits s (s.voltReading r isOpen) := by
  have sets (h : HeatUnit) (n : Nat) : Waits s ((s.setHeat h).setAllowed n) :=
    (Waits.of_scanner (t := s.setHeat h) rfl).trans (setAllowed_waits n _)
  unfold State.voltReading
  dsimp only
  split
  · exact sets _ _
  · split
    · exact sets _ _
    · split
      · unfold State.lowerReading
        dsimp only
        split
        · exact sets _ _
        · exact .of_scanner rfl
      · split
        · exact .of_scanner rfl
        · unfold State.higherReading
          dsimp only
          split <;> exact .of_scanner rfl

/-- R92, R95: the blocks' requests wait while a conversion is handed to them. -/
theorem handConversion_waits (c : Fin 16) (r : Nat) (rail updated : Bool) (s : State) :
    Waits s (s.handConversion c r rail updated) := by
  have governor (t : State) : Waits t (t.governorReading c updated) := by
    unfold State.governorReading
    split
    · exact waits_lasting.recomputeConversion _ t
    · split
      · exact waits_lasting.recomputeConversion _ t
      · exact .of_scanner rfl
  have heat (t : State) (isOpen : Bool) : Waits t (t.heatReading c r isOpen) := by
    unfold State.heatReading
    split
    · exact Waits.trans (.of_scanner (by exact rfl)) (rejudgeHeat_waits _)
    · split
      · exact voltReading_waits r isOpen t
      · split <;> exact .of_scanner rfl
  unfold State.handConversion
  dsimp only
  refine Waits.trans (Waits.trans ?_ (governor _)) (heat _ _)
  split
  · exact waits_lasting.graderReading _ _ _ _ s
  · exact .of_scanner rfl

/-! ### The scan goes on (R95, R96) -/

section
variable (s : State)

theorem afterScan_empty (empty : s.scanner.queue = []) : s.afterScan =
    if s.lay.scanLength ≤ s.scanner.position + 1 then s.endScan else s.scanAt (s.scanner.position + 1) := by
  unfold State.afterScan
  dsimp only
  rw [if_pos (by rw [empty]; rfl)]
  exact if_congr decide_eq_true_iff rfl rfl

theorem serveHead_spot {e : SpotEntry} {es : List SpotEntry} (queue : s.scanner.queue = e :: es) :
    s.serveHead = s.setScanner { s.scanner with
      state := .spot, position := 0, queue := { e with served := some e.requesters } :: es
      conversion := some { channel := e.channel, began := s.now } } := by
  unfold State.serveHead
  rw [queue]

theorem afterScan_spot (some : s.scanner.queue ≠ []) : s.afterScan.scanner.state = .spot ∧ s.afterScan.scanner.queue ≠ [] ∧
    s.afterScan.scanner.resume =
      if s.lay.scanLength ≤ s.scanner.position + 1 then .endOfPass else .at (s.scanner.position + 1) := by
  obtain ⟨e, es, queue⟩ := List.exists_cons_of_ne_nil some
  have serves (r : Resume) : s.enterSpot r = _ :=
    serveHead_spot (s.setScanner { s.scanner with resume := r, conversion := none }) (e := e) (es := es) queue
  unfold State.afterScan
  dsimp only
  rw [if_neg (by rw [queue]; exact nofun), serves]
  exact ⟨rfl, nofun, if_congr decide_eq_true_iff rfl rfl⟩

theorem endPass_waits (early : s.now - s.scanner.passStart.getD s.now < 100 * s.lay.scanPeriod) :
    s.endPass = s.setScanner { s.scanner with state := .waiting, position := 0, resume := .absent, conversion := none } :=
  if_pos early

theorem endPass_begins (late : ¬ s.now - s.scanner.passStart.getD s.now < 100 * s.lay.scanPeriod) : s.endPass = s.beginPass :=
  if_neg late

/-- R95, R96: the scan after its last conversion of a pass. -/
theorem endScan_goes : s.endScan.scanner.queue = s.scanner.queue ∧
    if s.now - s.scanner.passStart.getD s.now < 100 * s.lay.scanPeriod then s.endScan.scanner.state = .waiting
    else s.endScan.scanner.state = .scanning ∧ s.endScan.scanner.position = 0 ∧ s.endScan.scanner.passStart = some s.now := by
  have ends : s.endScan = if s.endPass.scanner.state = .scanning then
      s.endPass.setScanner { s.endPass.scanner with ended := some { moment := s.now, start := s.scanner.passStart } }
      else s.endPass := rfl
  by_cases early : s.now - s.scanner.passStart.getD s.now < 100 * s.lay.scanPeriod
  · rw [endPass_waits s early] at ends
    rw [if_pos early, ends]
    exact ⟨rfl, rfl⟩
  · rw [endPass_begins s early] at ends
    rw [if_neg early, ends]
    exact ⟨rfl, rfl, rfl, rfl⟩

/-- R95, R96: where the scanner stands after a scan conversion. -/
theorem afterScan_goes :
    let t := s.afterScan
    let p := s.scanner.position
    (t.scanner.queue ≠ [] → t.scanner.state = .spot ∧
      t.scanner.resume = if s.lay.scanLength ≤ p + 1 then .endOfPass else .at (p + 1)) ∧
    (t.scanner.queue = [] → p + 1 < s.lay.scanLength → t.scanner.state = .scanning ∧ t.scanner.position = p + 1 ∧
      t.scanner.conversion = some { channel := s.lay.scanned.getD (p + 1) 0, began := s.now }) ∧
    (t.scanner.queue = [] → s.lay.scanLength ≤ p + 1 →
      if s.now - s.scanner.passStart.getD s.now < 100 * s.lay.scanPeriod then t.scanner.state = .waiting
      else t.scanner.state = .scanning ∧ t.scanner.position = 0 ∧ t.scanner.passStart = some s.now) := by
  intro t p
  by_cases empty : s.scanner.queue = []
  · have goes : t = _ := afterScan_empty s empty
    by_cases last : s.lay.scanLength ≤ s.scanner.position + 1
    · rw [if_pos last] at goes
      obtain ⟨queue, ends⟩ := endScan_goes s
      rw [goes]
      exact ⟨fun some => absurd (queue.trans empty) some, fun _ before => absurd last (Nat.not_le.2 before), fun _ _ => ends⟩
    · rw [if_neg last] at goes
      rw [goes]
      exact ⟨fun some => absurd empty some, fun _ _ => ⟨rfl, rfl, rfl⟩, fun _ after => absurd after last⟩
  · obtain ⟨state, queue, resume⟩ := afterScan_spot s empty
    exact ⟨fun _ => ⟨state, resume⟩, fun none => absurd none queue, fun none => absurd none queue⟩

end

/-! ### The Spot Queue goes on (R100) -/

theorem RequesterSet.isEmpty_iff (q : RequesterSet) : q.isEmpty = true ↔ q = RequesterSet.none := by
  obtain ⟨⟨front, crew, screen⟩, purge, heat, service⟩ := q
  revert front crew screen purge heat service
  decide

theorem closeEntry_cons (e : SpotEntry) (es : List SpotEntry) :
    closeEntry (e :: es) = if e.requesters = RequesterSet.none then es else { e with served := none } :: es :=
  if_congr (RequesterSet.isEmpty_iff _) rfl rfl

section
variable (s : State) {e : SpotEntry} {es : List SpotEntry} (queue : s.scanner.queue = e :: es)
include queue

/-- R100: what stands after a spot conversion once its entry is closed. -/
theorem afterSpot_eq (closed : List SpotEntry)
    (closes : closed = if e.requesters = RequesterSet.none then es else { e with served := none } :: es) :
    s.afterSpot = if closed = [] then (s.setScanner { s.scanner with queue := closed }).leaveSpot
      else (s.setScanner { s.scanner with queue := closed }).serveHead := by
  unfold State.afterSpot
  rw [queue, closeEntry_cons, ← closes]
  exact if_congr List.isEmpty_iff rfl rfl

/-- R92, R100: the delivery of a result to a requester, by whether it is in the served set. -/
theorem deliver_eq {served : RequesterSet} (serves : e.served = some served) (q : Requester) (r : SpotResult) :
    s.deliver r q = if served.has q = true then (s.setScanner { s.scanner with queue :=
      { e with requesters := e.requesters.put q false, served := some (served.put q false) } :: es }).deliverTo q r else s := by
  have now : s.servedNow q = served.has q := by
    unfold State.servedNow
    rw [queue]
    dsimp only
    rw [serves]
    rfl
  have left : s.leaveEntry q = s.setScanner { s.scanner with queue :=
      { e with requesters := e.requesters.put q false, served := some (served.put q false) } :: es } := by
    unfold State.leaveEntry
    rw [queue]
    dsimp only
    rw [serves]
    rfl
  unfold State.deliver
  rw [now, left]

end

end Sys2Proof.Machine
end

section
/-! PROOFS. A completed conversion as a whole (R87 to R100). -/

namespace Sys2Proof.Machine

/-! ### The conversion taken (R92) -/

theorem conversionComplete_takes {s : State} {v : Conversion} (running : s.part = .running)
    (under : s.scanner.conversion = some v) (due : v.began + 3 ≤ s.now) (result : BitVec 12) :
    exec (.conversionComplete result) s = .next (s.completeConversion v.channel result.toNat) := by
  have done : s.conversionDue = true := conversionDue_iff.2 ⟨v, under, due⟩
  rw [show exec (.conversionComplete result) s = execConversionComplete result s from rfl]
  unfold execConversionComplete
  rw [under]
  exact congrArg Host.Outcome.next (if_pos ⟨running, done⟩)

theorem completeConversion_channels (c : Fin 16) (r : Nat) (s : State) :
    (s.completeConversion c r).scanner.channels = vset s.scanner.channels c (s.takenChannel c r) :=
  congrArg Ground.channels (completeConversion_ground c r s)

/-- R92: the images and the event of a conversion. -/
theorem converted_eq (s : State) (c : Fin 16) (r : Nat) (after : Channel) (updated : Bool) :
    s.converted c r after updated =
      let raw := (s.recorded c after).putImage (s.lay.senseBase + 2 * c.val) after.rawWord
      let imaged := if updated = true then raw.putImage (s.lay.senseBase + 2 * c.val + 1) after.filteredWord else raw
      if after.isOpen = (s.channel c).isOpen then imaged else imaged.emit
        { kind := if after.isOpen = true then .channelOpen else .channelRestored, subject := w16 c.val, value := w16 r } := by
  unfold State.converted
  rw [openEvent_eq, putSense_recorded]

/-- R92: the whole of a completed conversion, given whether its reading is a rail and whether it updates the window. -/
theorem completeConversion_eq_followed {s : State} {c : Fin 16} {r : Nat} {rail updated : Bool}
    (railed : rail = (s.lay.methods.get c).rail r) (updates : updated = (s.takenChannel c r).updates rail) :
    let handed := (s.converted c r (s.takenChannel c r) updated).handConversion c r rail updated
    s.completeConversion c r = if s.scanner.state = .spot
      then (handed.each allRequesters (State.deliver ⟨c, r, (s.takenChannel c r).isOpen⟩)).afterSpot else handed.afterScan := by
  subst updates railed
  rw [completeConversion_converted]
  exact if_congr beq_iff_eq rfl rfl

/-- R92, R95: where a scan conversion leaves the scanner. -/
theorem completeConversion_scans {s : State} (scanning : s.scanner.state = .scanning) (c : Fin 16) (r : Nat) :
    let t := s.completeConversion c r
    let p := s.scanner.position
    (t.scanner.queue ≠ [] → t.scanner.state = .spot ∧
      t.scanner.resume = if s.lay.scanLength ≤ p + 1 then .endOfPass else .at (p + 1)) ∧
    (t.scanner.queue = [] → p + 1 < s.lay.scanLength → t.scanner.state = .scanning ∧ t.scanner.position = p + 1 ∧
      t.scanner.conversion = some { channel := s.lay.scanned.getD (p + 1) 0, began := s.now }) ∧
    (t.scanner.queue = [] → s.lay.scanLength ≤ p + 1 →
      if s.now - s.scanner.passStart.getD s.now < 100 * s.lay.scanPeriod then t.scanner.state = .waiting
      else t.scanner.state = .scanning ∧ t.scanner.position = 0 ∧ t.scanner.passStart = some s.now) := by
  have whole := completeConversion_eq_followed (s := s) (c := c) (r := r) rfl rfl
  dsimp only at whole
  rw [if_neg (by rw [scanning]; exact nofun)] at whole
  generalize (s.lay.methods.get c).rail r = rail at whole
  generalize (s.takenChannel c r).updates rail = updated at whole
  have scanner := converted_scanner s c r (s.takenChannel c r) updated
  have base := converted_base s c r (s.takenChannel c r) updated
  generalize s.converted c r (s.takenChannel c r) updated = u at whole scanner base
  have waits := handConversion_waits c r rail updated u (by rw [scanner]; exact scanning) (by rw [scanner]; rfl)
  have ground := (handConversion_ground c r rail updated u).trans (State.ground_of_base base)
  generalize u.handConversion c r rail updated = h at whole waits ground
  have lay : h.lay = s.lay := congrArg (fun x : Ground => x.layout.getD .absent) ground
  have now : h.now = s.now := congrArg Ground.now ground
  have position : h.scanner.position = s.scanner.position := (congrArg Scanner.position waits).trans (by rw [scanner]; rfl)
  have start : h.scanner.passStart = s.scanner.passStart := (congrArg Scanner.passStart waits).trans (by rw [scanner]; rfl)
  have goes := afterScan_goes h
  rw [← whole, lay, now, position, start] at goes
  exact goes

/-! ### What a conversion is handed to (R87) -/

section
variable (u : State) (c : Fin 16) (r : Nat) (rail updated : Bool)

theorem handConversion_graded (g : Fin 6) (same : g.val = c.val) :
    u.handConversion c r rail updated = u.graderReading g r rail (u.channel c).isOpen := by
  unfold State.handConversion
  rw [graded_eq same.symm]
  have other {n : Fin 16} (high : 6 ≤ n.val) : c ≠ n := fun k => by
    subst k
    omega
  have governor (t : State) : t.governorReading c updated = t :=
    (if_neg (other (by decide))).trans (if_neg (by
      rintro (k | k | k | k)
      · exact other (n := 8) (by decide) k
      · exact other (n := 9) (by decide) k
      · exact other (n := 10) (by decide) k
      · exact other (n := 12) (by decide) k))
  have heat (t : State) (isOpen : Bool) : t.heatReading c r isOpen = t :=
    (if_neg (other (by decide))).trans ((if_neg (other (by decide))).trans (if_neg (other (by decide))))
  exact (heat _ _).trans (governor _)

theorem handConversion_coolant : u.handConversion 12 r rail updated =
    let w := u.recomputeConversion none
    ({ w with heat := { w.heat with coolant := (u.channel 12).filtered, coolantOpen := (u.channel 12).isOpen } } : State).rejudgeHeat := by
  have channels : (u.recomputeConversion none).channel 12 = u.channel 12 :=
    congrArg (fun x : Ground => x.channels.get 12)
      (State.ground_of_base (State.base_of_below (State.below_of_still (recomputeConversion_still u none))))
  have whole : u.handConversion 12 r rail updated = ((u.recomputeConversion none).setHeat { (u.recomputeConversion none).heat with
    coolant := ((u.recomputeConversion none).channel 12).filtered, coolantOpen := (u.channel 12).isOpen }).rejudgeHeat := rfl
  rw [channels] at whole
  exact whole

theorem handConversion_conditions (zone : c = 8 ∨ c = 9 ∨ c = 10) :
    u.handConversion c r rail updated = u.recomputeConversion none := by
  obtain rfl | rfl | rfl := zone <;> rfl

theorem handConversion_unread (unread : c = 7 ∨ c = 11 ∨ c = 13) : u.handConversion c r rail updated = u := by
  obtain rfl | rfl | rfl := unread <;> rfl

end

/-! ### The step after a spot (R100) -/

/-- R100: the scanner leaves SPOT by its resume point. -/
theorem leaveSpot_eq (s : State) :
    (s.scanner.resume = .absent → s.leaveSpot = s.stopScan) ∧
    (∀ p, s.scanner.resume = .at p → s.leaveSpot = s.scanAt p) ∧
    (s.scanner.resume = .endOfPass → s.leaveSpot = s.endPass) ∧
    (s.scanner.resume = .restart → s.leaveSpot = s.beginPass) := by
  unfold State.leaveSpot
  refine ⟨fun h => ?_, fun p h => ?_, fun h => ?_, fun h => ?_⟩ <;> rw [h]

/-- R100: where the scanner stands once the last spot is done. -/
theorem leaveSpot_goes (s : State) :
    let x := s.scanner
    let u := s.setScanner { x with queue := [] }
    let left := { x with position := 0, queue := [], resume := .absent, conversion := none }
    let begun := { left with
      state := .scanning, passStart := some s.now, ended := none
      conversion := some { channel := s.lay.scanned.getD 0 0, began := s.now } }
    (x.resume = .absent → u.leaveSpot = s.setScanner { left with state := .stopped, passStart := none, ended := none }) ∧
    (∀ p, x.resume = .at p → u.leaveSpot = s.setScanner { left with
      state := .scanning, position := p, conversion := some { channel := s.lay.scanned.getD p 0, began := s.now } }) ∧
    (x.resume = .endOfPass → s.now - x.passStart.getD s.now < 100 * s.lay.scanPeriod →
      u.leaveSpot = s.setScanner { left with state := .waiting }) ∧
    (x.resume = .endOfPass → 100 * s.lay.scanPeriod ≤ s.now - x.passStart.getD s.now → u.leaveSpot = s.setScanner begun) ∧
    (x.resume = .restart → u.leaveSpot = s.setScanner begun) := by
  intro x u left begun
  obtain ⟨stops, scans, ends, restarts⟩ := leaveSpot_eq u
  exact ⟨fun h => (stops h).trans rfl, fun p h => (scans p h).trans rfl, fun h early => (ends h).trans (endPass_waits u early),
    fun h late => (ends h).trans (endPass_begins u (Nat.not_lt.2 late)), fun h => (restarts h).trans rfl⟩

/-- Settles O28: the conversion's record, what it is handed to, what it is delivered to, and the scanner's next step. -/
theorem conversionUpdatesChannelAndGoesOn : Obligations.ConversionUpdatesChannelAndGoesOn := by
  refine ⟨fun s v result running under due => ?_, fun u c r rail updated => ?_, fun s q r e es served queue serves => ?_,
    fun s e es queue => ?_⟩
  · intro r c rail
    have judged : rail ↔ (s.lay.methods.get v.channel).rail r = true := by
      dsimp only [rail]
      cases s.lay.methods.get v.channel <;> simp [OpenWire.rail]
    have channels := completeConversion_channels v.channel r s
    have own : (s.completeConversion v.channel r).channel v.channel = s.takenChannel v.channel r :=
      (congrArg (fun x : Vector Channel 16 => x.get v.channel) channels).trans (vset_get_same _ _ _)
    have took : s.takenChannel v.channel r = c.take r (if s.scanner.state == .spot then .spot else .scan)
      ((s.lay.methods.get v.channel).rail r) := rfl
    refine ⟨_, conversionComplete_takes running under due result, ?_, fun d other => ?_, ?_, fun railed => ?_, fun clear => ?_,
      fun isRail updated railed updates => ?_, fun scanning _ => completeConversion_scans scanning v.channel r⟩
    · rw [channels]
      exact completeConversion_ground v.channel r s
    · exact (congrArg (fun x : Vector Channel 16 => x.get d) channels).trans (vset_get_other _ _ other)
    · rw [own, took, Channel.take_last]
      exact congrArg (fun o => some (r, o)) (if_congr beq_iff_eq rfl rfl)
    · rw [own, took, judged.1 railed]
      exact Channel.take_rail _ _ _
    · rw [own, took, Bool.eq_false_iff.2 fun k => clear (judged.2 k)]
      exact Channel.take_clear _ _ _
    · rw [own] at updates ⊢
      have isRailed : isRail = (s.lay.methods.get v.channel).rail r := Bool.eq_iff_iff.2 (railed.trans judged)
      have isUpdated : updated = (s.takenChannel v.channel r).updates isRail := by
        refine Bool.eq_iff_iff.2 (updates.trans ?_)
        unfold Channel.updates
        rw [Bool.and_eq_true, Bool.not_eq_true', Bool.not_eq_true', ← railed, Bool.not_eq_true]
      have whole := completeConversion_eq_followed isRailed isUpdated
      rw [converted_eq] at whole
      exact whole
  · exact ⟨handConversion_graded u c r rail updated, fun same => by subst same; rfl, handConversion_conditions u c r rail updated,
      fun same => by subst same; exact handConversion_coolant u r rail updated, fun same => by subst same; rfl,
      fun same => by subst same; rfl, handConversion_unread u c r rail updated⟩
  · intro left
    have delivers : s.deliver r q = if served.has q = true then left.deliverTo q r else s := deliver_eq s queue serves q r
    refine ⟨fun absent => delivers.trans (if_neg (Bool.eq_false_iff.1 absent)), fun present => ?_⟩
    rw [if_pos present] at delivers
    refine ⟨fun l lane => ?_, fun purge => ?_, fun heat => ?_, fun service => ?_⟩
    all_goals
      subst q
      exact delivers
  · intro t closed
    have goes := afterSpot_eq s queue closed rfl
    refine ⟨fun h hs some => ?_, fun none => ?_⟩
    · rw [if_neg (by rw [some]; exact nofun)] at goes
      rw [show t = _ from goes, serveHead_spot (s.setScanner { s.scanner with queue := closed }) some]
      rfl
    · rw [if_pos none, none] at goes
      intro left begun
      rw [show t = _ from goes]
      exact leaveSpot_goes s

end Sys2Proof.Machine
end

section
/-! PROOFS. The part's own cycles of the memory port: reads, the Record Queue and the Image Set in their turns, and the
flushes of a held read (R160 to R166). -/

namespace Sys2Proof.Machine

/-! ### Writes made (R160, R164, R165, R178) -/

/-- R155: the guards once an entry of the Record Queue has been written. -/
def EntryRole.freed (role : EntryRole) (gs : List (LaneId × Nat)) : List (LaneId × Nat) :=
  match role with
  | .endTag l slot => gs.erase (l, slot)
  | _ => gs

/-- R178: the writer record once an entry of the Record Queue has been written, in RUNNING and DRAINING or elsewhere. -/
def EntryRole.told (role : EntryRole) (up : Bool) (v : EventWriter) : EventWriter :=
  match role with
  | .eventValue i true => if up then { v with lastSignalled := some i } else v
  | _ => v

/-- R178: whether the records reached are signalled. -/
def State.signalsRecords (s : State) : Bool := decide (s.part = .running ∨ s.part = .draining)

/-- R155, R178: what reaches its end with an entry: a guard and the last-signalled record. -/
theorem recordReached_eq (role : EntryRole) (s : State) : s.recordReached role =
    { s with port := { s.port with guards := role.freed s.port.guards }, events := role.told s.signalsRecords s.events } := by
  cases role with
  | eventValue i signals =>
    cases signals with
    | false => rfl
    | true =>
      unfold State.recordReached EntryRole.told State.signalsRecords
      dsimp only
      by_cases up : s.part = .running ∨ s.part = .draining
      · rw [if_pos up, if_pos (decide_eq_true up)]
        rfl
      · rw [if_neg up, if_neg (by rw [decide_eq_false up]; exact nofun)]
        rfl
  | _ => rfl

theorem EntryRole.told_signals {s : State} {role : EntryRole} {i : Nat} (signals : role = .eventValue i true)
    (up : s.part = .running ∨ s.part = .draining) (v : EventWriter) :
    role.told s.signalsRecords v = { v with lastSignalled := some i } := by
  subst signals
  exact if_pos (decide_eq_true up)

theorem EntryRole.told_silent {role : EntryRole} (silent : ∀ i, role ≠ .eventValue i true) (up : Bool) (v : EventWriter) :
    role.told up v = v := by
  cases role with
  | eventValue i signals =>
    cases signals with
    | false => rfl
    | true => exact absurd rfl (silent i)
  | _ => rfl

theorem writeRecord_eq {s : State} {e : RecordEntry} {es : List RecordEntry} (records : s.port.records = e :: es) :
    s.writeRecord = { s with
      port := { s.port with
        records := es, ram := s.port.ram.write e.addr (.good e.data), guards := e.role.freed s.port.guards }
      events := e.role.told s.signalsRecords s.events } := by
  unfold State.writeRecord
  rw [records]
  dsimp only
  rw [recordReached_eq]
  rfl

theorem writeImage_eq {s : State} {e : ImageEntry} {es : List ImageEntry} (images : s.port.images = e :: es) :
    s.writeImage = s.setPort { s.port with images := es, ram := s.port.ram.write e.addr (.good e.data) } := by
  unfold State.writeImage
  rw [images]
  rfl

/-! ### Turns (R161, R162) -/

theorem turnOf_of_free {s : State} {x : Source} (free : s.port.held = none) (full : s.port.canAdmit = false)
    (turn : s.port.turn = some x) : s.turnOf x = true := turnOf_iff.2 ⟨free, full, turn⟩

section
variable {s : State} (free : s.port.held = none) (full : s.port.canAdmit = false)
include free full

theorem fetchReadDone_serves (turn : s.port.turn = some .fetch) : exec .fetchReadDone s = .next (s.passTurn .fetch).makeRead :=
  congrArg Host.Outcome.next (if_pos (turnOf_of_free free full turn))

theorem recordQueueWrite_serves (turn : s.port.turn = some .record) :
    exec .recordQueueWrite s = .next (s.passTurn .record).writeRecord :=
  congrArg Host.Outcome.next (if_pos (turnOf_of_free free full turn))

theorem imageSetWrite_serves (turn : s.port.turn = some .image) :
    exec .imageSetWrite s = .next (s.passTurn .image).writeImage :=
  congrArg Host.Outcome.next (if_pos (turnOf_of_free free full turn))

end

/-- Settles O47: each source's write in its turn, and a waiting write's entry. -/
theorem queuedWritesReachMemory : Obligations.QueuedWritesReachMemory := by
  refine ⟨fun s e es canonical free full records turn => ?_, fun s e es canonical free full images turn => ?_,
    fun s e es waiting room => ?_⟩
  · have written := writeRecord_eq (s := s.passTurn .record) (e := e) (es := es) records
    refine ⟨_, recordQueueWrite_serves free full turn, ?_⟩
    rw [written]
    refine ⟨Memory.read_write_same canonical _ _, fun a other => Memory.read_write_other _ _ other, rfl, rfl, rfl, rfl, rfl, rfl, ?_,
      fun i signals up => EntryRole.told_signals (s := s) signals up s.events, fun silent => EntryRole.told_silent silent _ _, rfl⟩
    cases e.role <;> rfl
  · refine ⟨_, imageSetWrite_serves free full turn, ?_⟩
    rw [writeImage_eq (s := s.passTurn .image) (e := e) (es := es) images]
    exact ⟨Memory.read_write_same canonical _ _, fun a other => Memory.read_write_other _ _ other, rfl, rfl, rfl, rfl, rfl, rfl⟩
  · have admits : s.port.canAdmit = true := canAdmit_iff.2 ⟨by rw [waiting]; exact nofun, room⟩
    have one : s.port.admitOne = { s.port with records := s.port.records ++ [e], waiting := es } := by
      unfold Port.admitOne
      rw [waiting]
    refine congrArg Host.Outcome.next ((if_pos admits).trans ?_)
    rw [one]

/-! ### Reads made (R163, R172) -/

theorem giveLane_fetches {s : State} {l : LaneId} {o : ActiveOrder} (w : RamWord) (running : s.part = .running)
    (fetching : (s.lanes.get l).state = .fetch) (ho : (s.lanes.get l).order = some o) :
    s.giveLane l w = s.setOrder l { o with words := o.words ++ [w] } := by
  unfold State.giveLane
  rw [ho]
  exact if_pos ⟨running, fetching⟩

theorem giveLane_discards {s : State} {l : LaneId} (w : RamWord) (down : s.part ≠ .running) : s.giveLane l w = s := by
  unfold State.giveLane
  split
  · exact if_neg fun k => down k.1
  · rfl

/-- R163: what a read given to its placer leaves. -/
theorem giveRead_rest (x : Placer) (w : RamWord) (s : State) : ∃ lanes loader reads, s.giveRead x w =
    { s with lanes := lanes, loader := loader, port := { s.port with reads := reads } } ∧ (x ≠ .abandoned → reads = s.port.reads) := by
  cases x with
  | lane l =>
    unfold State.giveRead State.giveLane
    dsimp only
    split
    · split
      · exact ⟨_, _, _, rfl, fun _ => rfl⟩
      · exact ⟨_, _, _, rfl, fun _ => rfl⟩
    · exact ⟨_, _, _, rfl, fun _ => rfl⟩
  | loader => exact ⟨_, _, _, rfl, fun _ => rfl⟩
  | abandoned =>
    unfold State.giveRead State.abandonedMade
    dsimp only
    split
    · exact ⟨_, _, _, rfl, fun k => absurd rfl k⟩
    · exact ⟨_, _, _, rfl, fun _ => rfl⟩

/-- Settles O46: the oldest read leaves the queue in its turn, and its word goes where its placer says. -/
theorem fetchReadGoesToItsPlacer : Obligations.FetchReadGoesToItsPlacer := by
  intro s r rs free full reads turn
  have made : (s.passTurn .fetch).makeRead =
      ((s.passTurn .fetch).setPort { (s.passTurn .fetch).port with reads := rs }).giveRead r.placer (s.port.ram.read r.addr) := by
    unfold State.makeRead
    rw [show (s.passTurn .fetch).port.reads = r :: rs from reads]
    rfl
  refine ⟨_, fetchReadDone_serves free full turn, ?_⟩
  rw [made]
  generalize hu : (s.passTurn .fetch).setPort { (s.passTurn .fetch).port with reads := rs } = u
  have own : u = { s with port := { s.port with pointer := .record, hostPassed := false, reads := rs } } := by rw [← hu]; rfl
  obtain ⟨lanes, loader, left, rest, kept⟩ := giveRead_rest r.placer (s.port.ram.read r.addr) u
  refine ⟨?_, ?_, ?_, ?_, ?_, fun other => ?_, fun l o placer running fetching ho => ?_, fun l placer down => ?_, fun placer => ?_,
    fun placer loading phase none => ?_, ?_, ?_, ?_, ?_, ?_, ?_, ?_, ?_, ?_, ?_⟩
  case refine_6 => rw [rest, kept other, own]
  case refine_7 =>
    rw [placer, State.giveRead, giveLane_fetches (o := o) _ (by rw [own]; exact running) (by rw [own]; exact fetching)
      (by rw [own]; exact ho), own]
    exact ⟨rfl, rfl⟩
  case refine_8 =>
    rw [placer, State.giveRead, giveLane_discards _ (by rw [own]; exact down), own]
    exact ⟨rfl, rfl⟩
  case refine_9 =>
    rw [placer, own]
    exact ⟨rfl, rfl⟩
  case refine_10 =>
    have made : u.abandonedMade = u.placeLayoutReads := if_pos ⟨by rw [own]; exact loading, by rw [own]; exact phase, by
      rw [own]
      show (!rs.any fun q => q.placer == .abandoned) = true
      rw [none]
      rfl⟩
    rw [placer, State.giveRead, made, own]
    exact ⟨rfl, rfl⟩
  all_goals
    rw [rest, own]
  all_goals rfl

end Sys2Proof.Machine
end

section
/-! PROOFS. A held read flushed and granted (R159, R164, R166). -/

namespace Sys2Proof.Machine

/-! ### Places taken (R164) -/

theorem Port.admitAll_writes (p : Port) : p.admitAll.writes = p.writes := by
  unfold Port.writes Port.admitAll
  rw [List.append_assoc, List.take_append_drop]

/-- R164: the waiting writes that find a place enter behind the head. -/
theorem Port.admitAll_cons {p : Port} {e : RecordEntry} {es : List RecordEntry} (records : p.records = e :: es) :
    ∃ fs, p.admitAll.records = e :: fs := by
  unfold Port.admitAll
  rw [records]
  exact ⟨_, rfl⟩

/-! ### Forwarded reads (R159) -/

/-- R159: what a forwarded read leaves, with the event of bad parity. -/
theorem forwardRead_rest (a : Nat) (s : State) : ∃ records waiting events, s.forwardRead a =
    { s with
      port := { s.port with lastRead := some (a, s.port.ram.read a), records := records, waiting := waiting }
      events := events } ∧
      ((s.port.ram.read a).parityOk = true → records = s.port.records ∧ waiting = s.port.waiting ∧ events = s.events) := by
  have reads : s.forwardRead a = if (s.port.ram.read a).parityOk = true
      then s.setPort { s.port with lastRead := some (a, s.port.ram.read a) }
      else (s.setPort { s.port with lastRead := some (a, s.port.ram.read a) }).emit
        { kind := .busParity, qualifier := 1, subject := w16 a, value := (s.port.ram.read a).data } := rfl
  by_cases parity : (s.port.ram.read a).parityOk = true
  · rw [if_pos parity] at reads
    exact ⟨_, _, _, reads, fun _ => ⟨rfl, rfl, rfl⟩⟩
  · rw [if_neg parity, emit_eq] at reads
    exact ⟨_, _, _, reads, fun k => absurd k parity⟩

/-! ### Flushes (R166) -/

theorem readFlushWrite_flushes {s : State} {h : HeldRead} (held : s.port.held = some h) :
    exec .readFlushWrite s = .next (s.flush h) := by
  rw [show exec .readFlushWrite s = execReadFlushWrite s from rfl]
  unfold execReadFlushWrite
  rw [held]

theorem flushImage_eq {s : State} (h : HeldRead) {e : ImageEntry}
    (found : s.port.images.find? (fun x => x.addr == h.addr) = some e) : s.flushImage h =
      s.setPort { s.port with
        hostPassed := false, held := some { h with imageOwed := false }
        images := s.port.images.filter (fun x => x.addr != h.addr), ram := s.port.ram.write h.addr (.good e.data) } := by
  have own : e.addr = h.addr := eq_of_beq (List.find?_some (p := fun x : ImageEntry => x.addr == h.addr) found)
  unfold State.flushImage
  dsimp only
  rw [show (s.flushGranted { h with imageOwed := false }).port.images = s.port.images from rfl, found]
  dsimp only
  rw [own]
  rfl

/-- R166: a flush of the record queue's head. -/
theorem flushRecord_eq {s : State} (h : HeldRead) {e : RecordEntry} {es : List RecordEntry} (records : s.port.records = e :: es) :
    ∃ records waiting, records ++ waiting = s.port.writes.tail ∧ s.flushRecord h = { s with
      port := { s.port with
        hostPassed := false, held := some { h with recordsOwed := h.recordsOwed - 1 }, records := records, waiting := waiting
        ram := s.port.ram.write e.addr (.good e.data), guards := e.role.freed s.port.guards }
      events := e.role.told s.signalsRecords s.events } := by
  obtain ⟨fs, front⟩ := Port.admitAll_cons (p := s.port) records
  have writes : e :: fs ++ s.port.admitAll.waiting = s.port.writes := front ▸ s.port.admitAll_writes
  generalize hu : (s.flushGranted { h with recordsOwed := h.recordsOwed - 1 }).admitWaiting = u
  have head : u.port.records = e :: fs := by rw [← hu]; exact front
  have waiting : u.port.waiting = s.port.admitAll.waiting := by rw [← hu]; rfl
  have whole : s.flushRecord h = u.writeRecord.admitWaiting := by rw [← hu]; rfl
  rw [writeRecord_eq head] at whole
  have left : u.writeRecord.port.writes = s.port.writes.tail := by
    rw [writeRecord_eq head, ← writes]
    show fs ++ u.port.waiting = _
    rw [waiting]
    rfl
  refine ⟨u.writeRecord.port.admitAll.records, u.writeRecord.port.admitAll.waiting,
    (Port.admitAll_writes _).trans left, ?_⟩
  rw [whole, writeRecord_eq head, ← hu]
  rfl

theorem heldReadGranted_grants {s : State} {h : HeldRead} (held : s.port.held = some h) (image : h.imageOwed = false)
    (records : h.recordsOwed = 0) : exec .heldReadGranted s = .next (s.grantHeld h) := by
  have owes : ¬ h.owes = true := by
    rw [HeldRead.owes, image, records]
    exact nofun
  rw [show exec .heldReadGranted s = execHeldReadGranted s from rfl]
  unfold execHeldReadGranted
  rw [held]
  exact congrArg Host.Outcome.next (if_neg owes)

/-- Settles O48: the flushes in their order, then the grant. -/
theorem heldReadFlushedThenGranted : Obligations.HeldReadFlushedThenGranted := by
  intro s h canonical held
  refine ⟨fun e owed found => ?_, fun e es paid owed records => ?_, fun image records => ?_⟩
  · refine ⟨_, readFlushWrite_flushes held, ?_⟩
    rw [show s.flush h = s.flushImage h from if_pos owed, flushImage_eq h found]
    exact ⟨Memory.read_write_same canonical _ _, fun a other => Memory.read_write_other _ _ other, rfl, rfl, rfl, rfl, rfl, rfl⟩
  · refine ⟨_, readFlushWrite_flushes held, ?_⟩
    have flushes : s.flush h = s.flushRecord h := (if_neg (by rw [paid]; exact nofun)).trans (if_pos owed)
    obtain ⟨left, waits, writes, eq⟩ := flushRecord_eq h records
    rw [flushes, eq]
    exact ⟨Memory.read_write_same canonical _ _, fun a other => Memory.read_write_other _ _ other, writes, rfl, rfl, rfl, rfl, rfl⟩
  · refine ⟨_, heldReadGranted_grants held image records, ?_⟩
    obtain ⟨left, waits, events, eq, sound⟩ :=
      forwardRead_rest h.addr (({ s with port := { s.port with held := none } } : State).hostGranted)
    rw [show s.grantHeld h = _ from eq]
    refine ⟨rfl, rfl, rfl, rfl, rfl, rfl, fun parity => ?_⟩
    obtain ⟨sameRecords, sameWaits, sameEvents⟩ := sound parity
    exact ⟨sameEvents, by
      show left ++ waits = _
      rw [sameRecords, sameWaits]
      rfl⟩

end Sys2Proof.Machine
end

section
/-! PROOFS. The event consumer word (R176, R178). -/

namespace Sys2Proof.Machine

/-! ### Distances in a ring -/

theorem ring_distance {a b n : Nat} (ha : a < n) (hb : b < n) : (a + n - b) % n = if b ≤ a then a - b else a + n - b := by
  split
  next le => rw [show a + n - b = a - b + n by omega, Nat.add_mod_right, Nat.mod_eq_of_lt (by omega)]
  next gt => exact Nat.mod_eq_of_lt (by omega)

/-- A place passed by at most the records that stand leaves the rest of them. -/
theorem ring_advance {p c v n : Nat} (hp : p < n) (hc : c < n) (hv : v < n) (within : (v + n - c) % n ≤ (p + n - c) % n) :
    (p + n - v) % n = (p + n - c) % n - (v + n - c) % n := by
  rw [ring_distance hp hc, ring_distance hv hc] at within ⊢
  rw [ring_distance hp hv]
  split at within <;> split at within <;> split <;> omega

/-! ### The advance (R176) -/

theorem advanceConsumer_eq (v : Nat) (s : State) : s.advanceConsumer v = { s with
    port := { s.port with
      records := (s.advanceConsumer v).port.records, waiting := (s.advanceConsumer v).port.waiting }
    events := { s.events with
      consumer := v
      lastSignalled := s.events.lastSignalled.filter (fun i => !decide (s.fromConsumer i < s.fromConsumer v)) } } := by
  have last : (s.advanceConsumer v).events.lastSignalled =
      s.events.lastSignalled.filter (fun i => !decide (s.fromConsumer i < s.fromConsumer v)) := by
    unfold State.advanceConsumer
    dsimp only
    cases s.events.lastSignalled with
    | none => rfl
    | some i => cases passed : decide (s.fromConsumer i < s.fromConsumer v) <;> simp [passed, Option.filter]
  rw [← last]
  rfl

/-- R176: the unread records after an advance. -/
theorem advanceConsumer_unread {s : State} {v : Nat} (producer : s.events.producer < s.lay.eventSize)
    (consumer : s.events.consumer < s.lay.eventSize) (taken : v < s.lay.eventSize) (within : s.fromConsumer v ≤ s.unread) :
    (s.advanceConsumer v).unread = s.unread - s.fromConsumer v := ring_advance producer consumer taken within

theorem consumerTaken_iff {s : State} {v : Nat} : s.consumerTaken v = true ↔ v < s.lay.eventSize ∧ s.fromConsumer v ≤ s.unread := by
  rw [State.consumerTaken, Bool.and_eq_true, decide_eq_true_iff, decide_eq_true_iff]

/-- R176: the events and the writes of an advance, with the report of lost events where it is due. -/
structure Advances (s t : State) : Prop where
  lower : t.lower = s.lower
  rest : ({ t with port := s.port, events := s.events } : State) = s
  images : t.port.images = s.port.images
  reads : t.port.reads = s.port.reads
  guards : t.port.guards = s.port.guards

theorem advanceConsumer_advances (v : Nat) (s : State) : Advances s (s.advanceConsumer v) := by
  rw [advanceConsumer_eq]
  exact ⟨rfl, rfl, rfl, rfl, rfl⟩

theorem emit_advances (s : State) (e : Event) : Advances s (s.emit e) := by
  have lower := emit_lower s e
  rw [emit_eq] at lower ⊢
  exact ⟨lower, rfl, rfl, rfl, rfl⟩

theorem Advances.trans {s t u : State} (h : Advances s t) (k : Advances t u) : Advances s u := by
  have rest := congrArg (fun x : State => ({ x with port := s.port, events := s.events } : State)) k.rest
  exact ⟨k.lower.trans h.lower, rest.trans h.rest, k.images.trans h.images, k.reads.trans h.reads, k.guards.trans h.guards⟩

theorem reportOverrun_advances (s : State) : Advances s s.reportOverrun := by
  unfold State.reportOverrun
  split
  · exact Advances.trans (t := { s with events := { s.events with overrun := 0 } }) ⟨rfl, rfl, rfl, rfl, rfl⟩ (emit_advances _ _)
  · exact ⟨rfl, rfl, rfl, rfl, rfl⟩

theorem reportOverrun_none {s : State} (none : s.events.overrun = 0) : s.reportOverrun = s := if_neg (by omega)

/-- R176: the record of lost events. -/
theorem reportOverrun_reports {s : State} (running : s.part = .running) (lost : 0 < s.events.overrun)
    (room : s.unread + 1 < s.lay.eventSize) :
    let p := s.events.producer
    let next := (p + 1) % s.lay.eventSize
    let base := s.lay.eventBase + 2 + 4 * p
    s.reportOverrun.events = { s.events with overrun := 0, producer := next } ∧
      s.reportOverrun.port.writes = s.port.writes ++
        [⟨base, 28, .plain⟩, ⟨base + 1, 0, .plain⟩, ⟨base + 2, s.tagClock, .plain⟩,
         ⟨base + 3, w16 s.events.overrun, .eventValue p (s.lay.signals .overrun)⟩, ⟨s.lay.eventBase, w16 next, .plain⟩] := by
  intro p next base
  rw [reportOverrun_appends running lost room]
  refine ⟨?_, appendRecord_writes _ _⟩
  rw [appendRecord_eq]
  rfl

/-- Settles O45: the value judged against the ring, the advance, and the record of the events lost before it. -/
theorem consumerWriteTakenOrAbsorbed : Obligations.ConsumerWriteTakenOrAbsorbed := by
  intro s L v takes bounded
  have writes := hostWritePlaced_consumer takes v
  have lay := takesHost_lay takes
  have running := atGrant_running takes.2.2
  rw [show exec (.eventConsumerWrite v) s = .next (s.hostWritePlaced (fun L => L.eventBase + 1) v) from rfl, writes]
  generalize s.atGrant = g at bounded lay running
  intro g n w passed writes advanced p base next
  obtain ⟨-, producer, consumer⟩ := bounded running
  subst lay
  have judged : g.consumerTaken v.toNat = true ↔ v.toNat < g.lay.eventSize ∧ n ≤ g.unread := consumerTaken_iff
  refine ⟨fun inside within => ?_, fun beyond => congrArg Host.Outcome.next (if_neg fun k => beyond (judged.1 k))⟩
  have taken : g.writeConsumer (g.lay.eventBase + 1) (.good v) =
      if 0 < n then (w.advanceConsumer v.toNat).reportOverrun else w.advanceConsumer v.toNat := if_pos (judged.2 ⟨inside, within⟩)
  have moved := advanceConsumer_advances v.toNat w
  have unread : (w.advanceConsumer v.toNat).unread = g.unread - n :=
    advanceConsumer_unread (s := w) producer consumer inside within
  have events : (w.advanceConsumer v.toNat).events = advanced := by
    rw [advanceConsumer_eq]
    rfl
  have queued : (w.advanceConsumer v.toNat).port.writes = writes := advanceConsumer_writes v.toNat w
  have runs : (w.advanceConsumer v.toNat).part = .running := (congrArg (fun x : Lower => x.part) moved.lower).trans running
  have clock : (w.advanceConsumer v.toNat).tagClock = g.tagClock := congrArg (fun x : Lower => x.tagClock) moved.lower
  have lay : (w.advanceConsumer v.toNat).lay = g.lay := congrArg (fun x : Lower => x.layout.getD .absent) moved.lower
  rw [taken]
  generalize w.advanceConsumer v.toNat = t at moved unread events queued runs clock lay
  have whole : Advances w (if 0 < n then t.reportOverrun else t) := by
    split
    · exact moved.trans (reportOverrun_advances t)
    · exact moved
  refine ⟨_, rfl, whole.lower, whole.images, whole.reads, whole.guards, whole.rest, fun quiet => ?_, fun some lost => ?_⟩
  · have same : (if 0 < n then t.reportOverrun else t) = t := by
      split
      next some => exact reportOverrun_none (by rw [events]; exact quiet.resolve_left (by omega))
      · rfl
    rw [same]
    exact ⟨events, queued⟩
  · have size : g.unread < g.lay.eventSize := Nat.mod_lt _ (Nat.zero_lt_of_lt producer)
    have left {u m k : Nat} (_ : 0 < m) (_ : m ≤ u) (_ : u < k) : u - m + 1 < k := by omega
    have reports := reportOverrun_reports runs (by rw [events]; exact lost) (by rw [unread, lay]; exact left some within size)
    rw [if_pos some]
    rw [lay, clock, queued, events] at reports
    exact reports

end Sys2Proof.Machine
end

section
/-! PROOFS. What the memory port brings to its end before a host cycle (R13, R161, R167, R169, R170): taken one by one or all
at once it comes to the same, and it leaves the RAM, the held read and a cleared host-passed mark (log 10). -/

namespace Sys2Proof.Machine

/-! ### Fetches (R13) -/

theorem fetchReturned_of_still {x y : Lane} (h : y.still = x.still) : y.fetchReturned = x.fetchReturned := by
  have unfetched {z : Lane} (engaged : z.engaged = true) : z.fetchReturned = false := by
    unfold Lane.engaged at engaged
    unfold Lane.fetchReturned
    cases state : z.state <;> simp_all
  have same : y.engaged = x.engaged := congrArg LaneStill.engaged h
  have rest := congrArg LaneStill.rest h
  unfold Lane.still at rest
  dsimp only at rest
  cases engaged : x.engaged with
  | true => rw [unfetched (same.trans engaged), unfetched engaged]
  | false =>
    rw [if_neg (by rw [same, engaged]; exact nofun), if_neg (by rw [engaged]; exact nofun)] at rest
    rw [Option.some.inj rest]

theorem afterEnd_fetchReturned (x : Lane) (size rest : Nat) (stops : Bool) : (x.afterEnd size rest stops).fetchReturned = false := by
  unfold Lane.afterEnd
  dsimp only
  split
  · rfl
  · split <;> rfl

/-- R13, R14: a completed fetch has either started its order or ended it. -/
theorem completeFetch_either (l : LaneId) (o : ActiveOrder) (s : State) :
    (∃ code fails, s.completeFetch l o = s.endOrder l code fails) ∨ ∃ f, s.completeFetch l o = s.startOrder l f := by
  unfold State.completeFetch
  split
  · exact .inl ⟨_, _, rfl⟩
  · split
    · exact .inl ⟨_, _, rfl⟩
    · exact .inr ⟨_, rfl⟩

theorem completeFetch_fetched {s : State} {l : LaneId} {o : ActiveOrder} (ho : (s.lanes.get l).order = some o) :
    ((s.completeFetch l o).lanes.get l).fetchReturned = false ∧
      ∀ m, m ≠ l → ((s.completeFetch l o).lanes.get m).fetchReturned = (s.lanes.get m).fetchReturned := by
  obtain ⟨code, fails, ends⟩ | ⟨f, starts⟩ := completeFetch_either l o s
  · rw [ends, endOrder_lane ho]
    exact ⟨afterEnd_fetchReturned _ _ _ _, fun m hm => fetchReturned_of_still (endOrder_other ho code fails hm)⟩
  · obtain ⟨p, others, -, -, -, -, -, -, settled⟩ := startOrder_starts ho f
    rw [starts]
    refine ⟨?_, fun m hm => fetchReturned_of_still (others m hm)⟩
    unfold Lane.fetchReturned
    obtain ⟨state, -⟩ | ⟨state, -⟩ := settled <;> rw [state] <;> rfl

theorem finishFetch_idle {s : State} {l : LaneId} (waits : (s.lanes.get l).fetchReturned = false) : s.finishFetch l = s :=
  finishFetch_before fun k => by rw [waits] at k; exact absurd k.2 nofun

theorem finishFetch_fetched (l : LaneId) {s : State} (running : s.part = .running) :
    ((s.finishFetch l).lanes.get l).fetchReturned = false ∧
      ∀ m, m ≠ l → ((s.finishFetch l).lanes.get m).fetchReturned = (s.lanes.get m).fetchReturned := by
  by_cases due : (s.lanes.get l).fetchReturned = true
  · obtain ⟨-, o, ho, -⟩ := fetchReturned_iff.1 due
    have finishes : s.finishFetch l = s.completeFetch l o := by
      unfold State.finishFetch
      rw [ho]
      exact if_pos ⟨running, due⟩
    rw [finishes]
    exact completeFetch_fetched ho
  · have waits := Bool.eq_false_iff.2 due
    rw [finishFetch_idle waits]
    exact ⟨waits, fun _ _ => rfl⟩

/-- R13: the fetches that have returned. -/
abbrev State.finishFetches (s : State) : State := s.each allLanes State.finishFetch

theorem finishFetches_idle {s : State} (waits : ∀ l, (s.lanes.get l).fetchReturned = false) : s.finishFetches = s := by
  unfold State.finishFetches State.each
  simp only [allLanes, List.foldl_cons, List.foldl_nil, finishFetch_idle (waits _)]

/-- R13: where one lane alone has fetched, its completion is all that is taken. -/
theorem finishFetches_one {s : State} {l : LaneId} (running : s.part = .running)
    (others : ∀ m, m ≠ l → (s.lanes.get m).fetchReturned = false) :
    s.finishFetches = s.finishFetch l ∧ (s.finishFetch l).finishFetches = s.finishFetch l := by
  obtain ⟨own, rest⟩ := finishFetch_fetched l running
  have settled (m : LaneId) : ((s.finishFetch l).lanes.get m).fetchReturned = false := by
    by_cases same : m = l
    · rw [same, own]
    · rw [rest m same, others m same]
  refine ⟨?_, finishFetches_idle settled⟩
  unfold State.finishFetches State.each
  cases l with
  | front =>
    simp only [allLanes, List.foldl_cons, List.foldl_nil]
    rw [finishFetch_idle (settled .crew), finishFetch_idle (settled .screen)]
  | crew =>
    simp only [allLanes, List.foldl_cons, List.foldl_nil]
    rw [finishFetch_idle (others .front nofun), finishFetch_idle (settled .screen)]
  | screen =>
    simp only [allLanes, List.foldl_cons, List.foldl_nil]
    rw [finishFetch_idle (others .front nofun), finishFetch_idle (others .crew nofun)]

/-! ### One thing taken (R161, log 10) -/

theorem finishDraining_idle {s : State} (other : s.part ≠ .draining) : s.finishDraining = s := finishDraining_not fun k => other k.1

theorem finishLayoutRead_idle {s : State} (other : s.part ≠ .loading ∨ s.loader.phase ≠ .layout) : s.finishLayoutRead = s :=
  if_neg fun k => other.elim (fun h => h (loaderReturned_iff.1 k).1) fun h => h (loaderReturned_iff.1 k).2.1

theorem finishThresholdRead_idle {s : State} (other : s.part ≠ .loading ∨ s.loader.phase ≠ .thresholds) :
    s.finishThresholdRead = s :=
  if_neg fun k => other.elim (fun h => h (loaderReturned_iff.1 k).1) fun h => h (loaderReturned_iff.1 k).2.1

theorem finishInitialWrites_idle {s : State} (other : s.part ≠ .loading ∨ s.loader.phase ≠ .writes) :
    s.finishInitialWrites = s :=
  if_neg fun k => other.elim (fun h => h (runningReady_iff.1 k).1) fun h => h (runningReady_iff.1 k).2.1

/-- R161: what is taken once draining is settled. -/
def State.settleLoader (s : State) : State := s.finishLayoutRead.finishThresholdRead.finishInitialWrites.finishFetches

theorem settlePort_eq (s : State) : s.settlePort = s.finishDraining.settleLoader := rfl

theorem finishDraining_twice (s : State) : s.finishDraining.finishDraining = s.finishDraining := by
  by_cases due : s.part = .draining ∧ s.port.drained = true
  · rw [show s.finishDraining = s.enterLoading from if_pos due]
    exact finishDraining_idle (by rw [(enterLoading_entered s).part]; exact nofun)
  · rw [finishDraining_not due, finishDraining_not due]

theorem settlePort_finishDraining (s : State) : s.finishDraining.settlePort = s.settlePort := by
  rw [settlePort_eq, finishDraining_twice, settlePort_eq]

/-- R169: the part once its layout has been judged. -/
theorem judgeLayout_judged (s : State) : s.judgeLayout.part = .fault ∨
    s.judgeLayout.part = s.part ∧ s.judgeLayout.loader.phase = .thresholds := by
  unfold State.judgeLayout
  split
  · rw [enterFault_eq]
    exact .inl rfl
  · exact .inr ⟨rfl, rfl⟩

theorem settlePort_finishLayoutRead (s : State) : s.finishLayoutRead.settlePort = s.settlePort := by
  by_cases due : s.loaderReturned .layout 64 = true
  · obtain ⟨loading, -, -⟩ := loaderReturned_iff.1 due
    have drains := finishDraining_idle (s := s) (by rw [loading]; exact nofun)
    have taken : s.finishLayoutRead = s.judgeLayout := if_pos due
    rw [settlePort_eq, settlePort_eq, drains, State.settleLoader, State.settleLoader, taken]
    obtain down | ⟨up, phase⟩ := judgeLayout_judged s
    · rw [finishDraining_idle (by rw [down]; exact nofun), finishLayoutRead_idle (.inl (by rw [down]; exact nofun))]
    · rw [finishDraining_idle (by rw [up, loading]; exact nofun), finishLayoutRead_idle (.inr (by rw [phase]; exact nofun))]
  · rw [show s.finishLayoutRead = s from if_neg due]

theorem settlePort_finishThresholdRead (s : State) : s.finishThresholdRead.settlePort = s.settlePort := by
  by_cases due : s.loaderReturned .thresholds 24 = true
  · obtain ⟨loading, phase, -⟩ := loaderReturned_iff.1 due
    have drains := finishDraining_idle (s := s) (by rw [loading]; exact nofun)
    have layout := finishLayoutRead_idle (s := s) (.inr (by rw [phase]; exact nofun))
    obtain ⟨p, ends, -, -⟩ := finishThresholdRead_ends due
    have taken : s.finishThresholdRead = s.entriesJudged p := Host.Outcome.next.inj ends
    rw [settlePort_eq, settlePort_eq, drains, State.settleLoader, State.settleLoader, layout, taken,
      finishDraining_idle (show (s.entriesJudged p).part ≠ .draining by rw [show (s.entriesJudged p).part = _ from loading]; exact nofun),
      finishLayoutRead_idle (s := s.entriesJudged p) (.inr (by exact nofun)),
      finishThresholdRead_idle (s := s.entriesJudged p) (.inr (by exact nofun))]
  · rw [show s.finishThresholdRead = s from if_neg due]

theorem enterRunning_running (s : State) : s.enterRunning.part = .running := (Moves.part (enterRunning_moves s)).trans rfl

theorem settlePort_running {s : State} (running : s.part = .running) : s.settlePort = s.finishFetches :=
  settlePort_fetches (by rw [running]; exact nofun) (by rw [running]; exact nofun)

theorem settlePort_finishInitialWrites (s : State) : s.finishInitialWrites.settlePort = s.settlePort := by
  by_cases due : s.runningReady = true
  · obtain ⟨loading, phase, -⟩ := runningReady_iff.1 due
    have drains := finishDraining_idle (s := s) (by rw [loading]; exact nofun)
    have layout := finishLayoutRead_idle (s := s) (.inr (by rw [phase]; exact nofun))
    have thresholds := finishThresholdRead_idle (s := s) (.inr (by rw [phase]; exact nofun))
    have taken : s.finishInitialWrites = s.enterRunning := if_pos due
    rw [settlePort_eq s, drains, State.settleLoader, layout, thresholds, taken, settlePort_running (enterRunning_running s)]
  · rw [show s.finishInitialWrites = s from if_neg due]

theorem settlePort_finishFetch {s : State} {l : LaneId} (others : ∀ m, m ≠ l → (s.lanes.get m).fetchReturned = false) :
    (s.finishFetch l).settlePort = s.settlePort := by
  by_cases running : s.part = .running
  · have part : (s.finishFetch l).part = .running := (congrArg (fun x : Lower => x.part) (finishFetch_lower l s)).trans running
    obtain ⟨one, after⟩ := finishFetches_one running others
    rw [settlePort_running running, settlePort_running part, one, after]
  · rw [finishFetch_before fun k => running k.1]

theorem admitAll_of_full {p : Port} (full : p.canAdmit = false) : p.admitAll = p := by
  have none : p.waiting = [] ∨ 32 ≤ p.records.length := by
    refine Classical.byContradiction fun h => ?_
    rw [not_or, Nat.not_le] at h
    rw [canAdmit_iff.2 h] at full
    cases full
  unfold Port.admitAll
  dsimp only
  obtain empty | full := none
  · rw [empty, List.take_nil, List.drop_nil, List.append_nil, ← empty]
  · rw [show Config.recordQueueSize - p.records.length = 0 from Nat.sub_eq_zero_of_le full, List.take_zero, List.drop_zero,
      List.append_nil]

theorem admitWaiting_of_full {s : State} (full : s.port.canAdmit = false) : s.admitWaiting = s :=
  congrArg s.setPort (admitAll_of_full full)

/-- Log 10: one thing taken or not, the arriving host cycle meets the same state. -/
theorem atArrival_of_takes {s t : State} (h : s.PortTakes t) : t.atArrival = s.atArrival := by
  obtain ⟨full, fullAfter, c, takes, which⟩ := h
  have settled : t.settlePort = s.settlePort := by
    obtain rfl | rfl | rfl | rfl | ⟨l, rfl, others⟩ := which
    · rw [← show s.finishDraining = t from Host.Outcome.next.inj takes]
      exact settlePort_finishDraining s
    · rw [← show s.finishLayoutRead = t from Host.Outcome.next.inj takes]
      exact settlePort_finishLayoutRead s
    · rw [← show s.finishThresholdRead = t from Host.Outcome.next.inj takes]
      exact settlePort_finishThresholdRead s
    · rw [← show s.finishInitialWrites = t from Host.Outcome.next.inj takes]
      exact settlePort_finishInitialWrites s
    · rw [← show s.finishFetch l = t from Host.Outcome.next.inj takes]
      exact settlePort_finishFetch others
  unfold State.atArrival
  rw [admitWaiting_of_full full, admitWaiting_of_full fullAfter, settled]

end Sys2Proof.Machine
end

section
/-! PROOFS. What a host cycle finds at the port: the RAM, the held read and the mark through what is taken before it, the
pending writes of a word, and the part cycle that goes first (R161, R164, R166). -/

namespace Sys2Proof.Machine

/-! ### The RAM, the held read and a cleared mark -/

/-- What leaves the RAM, the held read and a cleared host-passed mark. -/
structure PortHolds (s t : State) : Prop where
  ram : t.port.ram = s.port.ram
  held : t.port.held = s.port.held
  passed : s.port.hostPassed = false → t.port.hostPassed = false

section
variable {s t u : State}

theorem PortHolds.refl (s : State) : PortHolds s s := ⟨rfl, rfl, id⟩

theorem PortHolds.trans (h : PortHolds s t) (k : PortHolds t u) : PortHolds s u :=
  ⟨k.ram.trans h.ram, k.held.trans h.held, k.passed ∘ h.passed⟩

theorem PortHolds.of_ground (h : t.ground = s.ground) : PortHolds s t :=
  ⟨congrArg Ground.ram h, congrArg Ground.held h, fun passed => (congrArg Ground.hostPassed h).trans passed⟩

theorem PortHolds.of_base (h : t.base = s.base) : PortHolds s t := .of_ground (State.ground_of_base h)

theorem PortHolds.of_lower (h : t.lower = s.lower) : PortHolds s t := .of_base (State.base_of_below (State.below_of_lower h))

end

/-- R170: the words, holds and recomputes of the entry to RUNNING change none of the base. -/
theorem startHolds_base (s : State) : s.startHolds.base = s.startBlocks.base := by
  have of_still {t u : State} (h : u.still = t.still) : u.base = t.base := State.base_of_below (State.below_of_still h)
  have consumers (t : State) : t.startConsumerWords.base = t.base :=
    each_leaves State.base (fun l t => t.offer (t.laneWord l 2) 0)
      (fun l t => State.base_of_below (State.below_of_lower (offer_lower t _ _))) allLanes t
  have levels (t : State) : t.startLevelWords.base = t.base := by
    refine each_leaves State.base _ (fun c t => ?_) allGraded t
    split <;> rfl
  have words : (s.startBlocks.putPartState.startConsumerWords.startLevelWords).base = s.startBlocks.base :=
    (levels _).trans ((consumers _).trans (State.base_of_below (State.below_of_lower (offer_lower s.startBlocks _ _))))
  have holds (t : State) : t.initialHolds.base = t.base :=
    (takeRaise_base _ _ _).trans ((takeRaise_base _ _ _).trans (takeRaise_base _ _ t))
  have refusals (t : State) : t.startRefusals.base = t.base := by
    refine each_leaves State.base _ (fun c t => ?_) allGraded t
    split
    · exact thresholdEvent_base c _ t
    · rfl
  unfold State.startHolds
  exact (emit_base _ _).trans ((refusals _).trans ((holds _).trans ((of_still (recomputeEntry_still _)).trans
    ((of_still (grant_still recompute_still none _)).trans words))))

theorem enterRunning_port (s : State) : s.enterRunning.port = s.startHolds.port := by
  have switches (t : State) : t.startSwitches.port = t.port := 
    each_leaves State.port (fun i t => t.setSwitch i { t.switch i with debounce := t.debounceFor i (t.switch i) })
      (fun i t => setSwitch_port t i _) allSwitches t
  rw [enterRunning_eq]
  generalize s.startHolds = u
  rw [relamp_eq]
  exact (switches u.beginPass).trans rfl

theorem enterRunning_holds (s : State) : PortHolds s s.enterRunning := by
  obtain ⟨ram, held, passed⟩ := PortHolds.of_base (startHolds_base s)
  rw [← enterRunning_port] at ram held passed
  exact ⟨ram, held, passed⟩

theorem enterLoading_holds (s : State) : PortHolds s s.enterLoading := by
  obtain ⟨-, passed, -, ram, -, held, -⟩ := (enterLoading_entered s).port
  exact ⟨ram, held, fun _ => passed⟩

theorem judgeLayout_holds (s : State) : PortHolds s s.judgeLayout := by
  unfold State.judgeLayout
  split
  · rw [enterFault_eq]
    exact ⟨by simp [Port.offer_ram], by simp [Port.offer_held], by simp [Port.offer_hostPassed]⟩
  · exact ⟨rfl, rfl, id⟩

theorem offerInitial_holds (s : State) : PortHolds s s.offerInitial := by
  unfold State.offerInitial
  exact .of_lower ((offerAs_lower _ _ _ _).trans (each_leaves State.lower
    (fun (w : Nat × Word) t => t.offer w.1 w.2) (fun w t => offer_lower t _ _) _ s))

/-- R161: what is taken before a host cycle leaves the RAM, the held read and a cleared mark. -/
theorem settlePort_holds (s : State) : PortHolds s s.settlePort := by
  have draining : PortHolds s s.finishDraining := by
    unfold State.finishDraining
    split
    · exact enterLoading_holds s
    · exact .refl s
  have layout (t : State) : PortHolds t t.finishLayoutRead := by
    unfold State.finishLayoutRead
    split
    · exact judgeLayout_holds t
    · exact .refl t
  have thresholds (t : State) : PortHolds t t.finishThresholdRead := by
    unfold State.finishThresholdRead
    split
    · exact PortHolds.trans (t := { t with
        grader := startGrader t.loader.words, loader := { phase := .writes, words := [] } }) ⟨rfl, rfl, id⟩ (offerInitial_holds _)
    · exact .refl t
  have writes (t : State) : PortHolds t t.finishInitialWrites := by
    unfold State.finishInitialWrites
    split
    · exact enterRunning_holds t
    · exact .refl t
  have fetches (t : State) : PortHolds t t.finishFetches := .of_lower (each_leaves State.lower _ finishFetch_lower allLanes t)
  exact draining.trans ((layout _).trans ((thresholds _).trans ((writes _).trans (fetches _))))

/-! ### Pending writes (R166) -/

/-- R166: the entries owed for a word of a list of writes. -/
def owedIn (xs : List RecordEntry) (a : Nat) : Nat := xs.length - (xs.reverse.takeWhile (fun e => e.addr != a)).length

theorem recordsOwed_eq (p : Port) (a : Nat) : p.recordsOwed a = owedIn p.writes a := rfl

theorem owedIn_snoc_other {e : RecordEntry} {a : Nat} (other : e.addr ≠ a) (xs : List RecordEntry) :
    owedIn (xs ++ [e]) a = owedIn xs a := by
  unfold owedIn
  rw [List.reverse_append, List.reverse_singleton, List.singleton_append, List.takeWhile_cons_of_pos (by simpa using other)]
  simp

theorem owedIn_snoc_same {e : RecordEntry} {a : Nat} (same : e.addr = a) (xs : List RecordEntry) :
    owedIn (xs ++ [e]) a = xs.length + 1 := by
  unfold owedIn
  rw [List.reverse_append, List.reverse_singleton, List.singleton_append, List.takeWhile_cons_of_neg (by simp [same])]
  simp

/-- R166: the writes owed are those up to and including the last for the word. -/
theorem owedIn_owes (xs : List RecordEntry) (a : Nat) : OwesRecords xs a (owedIn xs a) ∧
    (0 < owedIn xs a ↔ ∃ e ∈ xs, e.addr = a) := by
  induction xs using snocInduction with
  | nil => exact ⟨⟨Nat.le_refl _, nofun, nofun⟩, nofun, nofun⟩
  | append_singleton xs e ih =>
    obtain ⟨⟨within, behind, last⟩, some⟩ := ih
    by_cases same : e.addr = a
    · rw [owedIn_snoc_same same]
      refine ⟨⟨by simp, ?_, fun _ => ⟨e, ?_, same⟩⟩, fun _ => ⟨e, by simp, same⟩, fun _ => Nat.succ_pos _⟩
      · rw [List.drop_of_length_le (by simp)]
        exact nofun
      · rw [Nat.add_sub_cancel, List.getElem?_concat_length]
    · rw [owedIn_snoc_other same]
      refine ⟨⟨by rw [List.length_append]; omega, fun x mem => ?_, fun pos => ?_⟩, some.trans ?_⟩
      · rw [List.drop_append_of_le_length within, List.mem_append, List.mem_singleton] at mem
        exact mem.elim (behind x) fun own => by rw [own]; exact same
      · obtain ⟨x, at_, addr⟩ := last pos
        exact ⟨x, by rw [List.getElem?_append_left (by omega)]; exact at_, addr⟩
      · constructor
        · exact fun ⟨x, mem, addr⟩ => ⟨x, List.mem_append_left _ mem, addr⟩
        · rintro ⟨x, mem, addr⟩
          rw [List.mem_append, List.mem_singleton] at mem
          exact mem.elim (fun h => ⟨x, h, addr⟩) fun own => absurd (own ▸ addr) same

theorem imageOwed_iff {p : Port} {a : Nat} : p.imageOwed a = true ↔ ∃ e ∈ p.images, e.addr = a := by
  simp [Port.imageOwed, List.any_eq_true]

/-- R166: a word has a pending write where an image or a record waits for it. -/
theorem pendingWrite_iff {p : Port} {a : Nat} :
    p.pendingWrite a = true ↔ (∃ e ∈ p.images, e.addr = a) ∨ ∃ e ∈ p.writes, e.addr = a := by
  unfold Port.pendingWrite
  rw [Bool.or_eq_true, decide_eq_true_iff, imageOwed_iff, recordsOwed_eq, (owedIn_owes _ _).2]

theorem pendingWrite_of_less {p q : Port} {a : Nat} (images : ∀ e ∈ q.images, e ∈ p.images) (writes : ∀ e ∈ q.writes, e ∈ p.writes)
    (free : p.pendingWrite a = false) : q.pendingWrite a = false := by
  rw [Bool.eq_false_iff, ne_eq, pendingWrite_iff] at free ⊢
  exact fun pending => free (pending.imp (fun ⟨e, mem, addr⟩ => ⟨e, images e mem, addr⟩) fun ⟨e, mem, addr⟩ => ⟨e, writes e mem, addr⟩)

/-! ### The part cycle that goes first (R161, R162) -/

/-- R162: a part cycle holds no read and leaves no new write. -/
theorem servePart_serves (x : Source) (s : State) : (s.servePart x).port.held = s.port.held ∧
    ∀ a, s.port.pendingWrite a = false → (s.servePart x).port.pendingWrite a = false := by
  cases x with
  | fetch =>
    rw [show s.servePart .fetch = (s.passTurn .fetch).makeRead from rfl]
    unfold State.makeRead
    split
    · exact ⟨rfl, fun _ => id⟩
    next r rs _ =>
      obtain ⟨lanes, loader, reads, rest, -⟩ := giveRead_rest r.placer ((s.passTurn .fetch).port.ram.read r.addr)
        ((s.passTurn .fetch).setPort { (s.passTurn .fetch).port with reads := rs })
      rw [show ∀ w, ({ (s.passTurn .fetch) with port := { (s.passTurn .fetch).port with reads := rs } } : State).giveRead r.placer w =
        ((s.passTurn .fetch).setPort { (s.passTurn .fetch).port with reads := rs }).giveRead r.placer w from fun _ => rfl, rest]
      exact ⟨rfl, fun _ => id⟩
  | record =>
    rw [show s.servePart .record = (s.passTurn .record).writeRecord from rfl]
    cases records : s.port.records with
    | nil =>
      have idle : (s.passTurn .record).writeRecord = s.passTurn .record := by
        unfold State.writeRecord
        rw [show (s.passTurn .record).port.records = [] from records]
      rw [idle]
      exact ⟨rfl, fun _ => id⟩
    | cons e es =>
      rw [writeRecord_eq (s := s.passTurn .record) records]
      refine ⟨rfl, fun a => pendingWrite_of_less (fun _ => id) fun x mem => ?_⟩
      rw [Port.writes, records]
      exact List.mem_cons_of_mem _ mem
  | image =>
    rw [show s.servePart .image = (s.passTurn .image).writeImage from rfl]
    cases images : s.port.images with
    | nil =>
      have idle : (s.passTurn .image).writeImage = s.passTurn .image := by
        unfold State.writeImage
        rw [show (s.passTurn .image).port.images = [] from images]
      rw [idle]
      exact ⟨rfl, fun _ => id⟩
    | cons e es =>
      rw [writeImage_eq (s := s.passTurn .image) images]
      refine ⟨rfl, fun a => pendingWrite_of_less (fun x mem => ?_) fun _ => id⟩
      rw [images]
      exact List.mem_cons_of_mem _ mem

/-- R161: the part cycle made first is the one whose turn it is. -/
theorem State.PortYields.serves {s t : State} (h : s.PortYields t) : ∃ x, s.port.turn = some x ∧ t = s.servePart x := by
  obtain ⟨-, -, -, passed, cleared, c, makes, which⟩ := h
  have served {x : Source} (k : (.next (if s.turnOf x then s.servePart x else s) : Host.Outcome State Fault Refusal) = .next t) :
      ∃ x, s.port.turn = some x ∧ t = s.servePart x := by
    have made := Host.Outcome.next.inj k
    by_cases turn : s.turnOf x = true
    · rw [if_pos turn] at made
      exact ⟨x, (turnOf_iff.1 turn).2.2, made.symm⟩
    · rw [if_neg turn] at made
      rw [← made, passed] at cleared
      cases cleared
  obtain rfl | rfl | rfl := which
  · exact served (x := .fetch) makes
  · exact served (x := .record) makes
  · exact served (x := .image) makes

theorem finishHeld_free {s : State} (free : s.port.held = none) : s.finishHeld = s := by
  unfold State.finishHeld
  rw [free]

theorem yieldPort_unpassed {s : State} (clear : s.port.hostPassed = false) : s.yieldPort = s :=
  if_neg (by rw [clear]; exact nofun)

/-- R161, R162: how a host cycle finds the port where a part cycle goes before it. -/
theorem State.PortYields.arrives {s t : State} (h : s.PortYields t) :
    s.atArrival = s ∧ s.yieldPort = t.admitWaiting.settlePort ∧ t.atArrival = t.admitWaiting.settlePort ∧
      t.atArrival.yieldPort = t.atArrival ∧ t.admitWaiting.settlePort.port.held = none := by
  obtain ⟨x, turn, made⟩ := h.serves
  obtain ⟨settled, full, free, passed, cleared, -⟩ := h
  have heldAfter : t.port.held = none := by rw [made, (servePart_serves x s).1, free]
  obtain ⟨-, held, mark⟩ := settlePort_holds t.admitWaiting
  have freed : t.admitWaiting.settlePort.port.held = none := held.trans heldAfter
  have arrives : t.atArrival = t.admitWaiting.settlePort := finishHeld_free freed
  refine ⟨?_, ?_, arrives, ?_, freed⟩
  · unfold State.atArrival
    rw [admitWaiting_of_full full, settlePort_of_settled settled, finishHeld_free free]
  · unfold State.yieldPort
    rw [if_pos passed, turn, made]
  · rw [arrives]
    exact yieldPort_unpassed (mark cleared)

end Sys2Proof.Machine
end

section
/-! PROOFS. Host reads (R159, R161, R164, R166, R167). -/

namespace Sys2Proof.Machine

/-! ### The end of draining (R167) -/

theorem LoadingEntered.settled {s t : State} (h : LoadingEntered s t) : t.portSettled := by
  have phase : t.loader = ⟨.abandoned, []⟩ ∨ t.loader = ⟨.layout, []⟩ := by
    have reads := h.reads
    split at reads
    · exact .inl reads.2
    · exact .inr reads.2
  refine ⟨fun k => ?_, fun k => ?_, fun k => ?_, fun k => ?_, fun k => ?_⟩
  · rw [h.part] at k
    exact absurd k.1 nofun
  · obtain ⟨-, -, words⟩ := k
    obtain e | e := phase <;> rw [e] at words <;> cases words
  · obtain ⟨-, -, words⟩ := k
    obtain e | e := phase <;> rw [e] at words <;> cases words
  · obtain ⟨-, writes, -⟩ := k
    obtain e | e := phase <;> rw [e] at writes <;> cases writes
  · rw [h.part] at k
    cases k

/-- R168: with no read left from before, the entry to LOADING reads the Layout Block. -/
theorem LoadingEntered.loads {s t : State} (h : LoadingEntered s t) (noReads : s.port.reads = []) :
    t.port.reads = (List.range 64).map (fun a => ⟨a, .loader⟩) := by
  have reads := h.reads
  rw [Port.abandonedLeft, noReads] at reads
  exact reads.1

/-- R167: a host cycle that arrives once draining is complete finds the part in LOADING. -/
theorem atArrival_drained {s : State} (free : s.port.held = none) (draining : s.part = .draining)
    (drained : s.port.drained = true) : s.atArrival = s.enterLoading := by
  obtain ⟨-, waiting, -⟩ := drained_iff.1 drained
  have full : s.port.canAdmit = false := by
    rw [Port.canAdmit, waiting]
    rfl
  have enters : s.finishDraining = s.enterLoading := if_pos ⟨draining, drained⟩
  have settles : s.settlePort = s.enterLoading := by
    rw [← settlePort_finishDraining, enters, settlePort_of_settled (enterLoading_entered s).settled]
  unfold State.atArrival
  rw [admitWaiting_of_full full, settles, finishHeld_free ((enterLoading_holds s).held.trans free)]

/-- R161, R167: the host cycle granted there leaves the mark set, for the reads of the Layout Block wait. -/
theorem enterLoading_granted {s : State} (drained : s.port.drained = true) :
    s.enterLoading.yieldPort.hostGranted = s.enterLoading.setPort { s.enterLoading.port with hostPassed := true } := by
  obtain ⟨-, -, -, noReads⟩ := drained_iff.1 drained
  have entered := enterLoading_entered s
  obtain ⟨-, passed, -⟩ := entered.port
  have waits : s.enterLoading.port.partWaiting = true := by
    rw [Port.partWaiting, entered.loads noReads]
    rfl
  rw [yieldPort_unpassed passed]
  unfold State.hostGranted
  rw [waits, Bool.or_true]
  rfl

/-! ### A read granted (R159, R161) -/

theorem forwardRead_silent {s : State} (down : s.part ≠ .running) (a : Nat) :
    s.forwardRead a = s.setPort { s.port with lastRead := some (a, s.port.ram.read a) } := by
  have reads : s.forwardRead a = if (s.port.ram.read a).parityOk = true
      then s.setPort { s.port with lastRead := some (a, s.port.ram.read a) }
      else (s.setPort { s.port with lastRead := some (a, s.port.ram.read a) }).emit
        { kind := .busParity, qualifier := 1, subject := w16 a, value := (s.port.ram.read a).data } := rfl
  rw [reads, emit_dropped (s := s.setPort { s.port with lastRead := some (a, s.port.ram.read a) }) down]
  exact ite_self _

/-- R176, R177: an event's record does not depend on the port. -/
theorem emit_setPort_events (s : State) (p : Port) (e : Event) : ((s.setPort p).emit e).events = (s.emit e).events := by
  by_cases running : s.part = .running
  · by_cases room : s.unread + 1 < s.lay.eventSize
    · rw [emit_appended (s := s.setPort p) running room, emit_appended running room, appendRecord_eq, appendRecord_eq]
      rfl
    · rw [emit_counted (s := s.setPort p) running room, emit_counted running room]
      rfl
  · rw [emit_dropped (s := s.setPort p) running, emit_dropped running]
    rfl

theorem forwardRead_faulty {s : State} {a : Nat} (parity : (s.port.ram.read a).parityOk = false) : (s.forwardRead a).events =
    (s.emit { kind := .busParity, qualifier := 1, subject := w16 a, value := (s.port.ram.read a).data }).events := by
  have reads : s.forwardRead a = (s.setPort { s.port with lastRead := some (a, s.port.ram.read a) }).emit
      { kind := .busParity, qualifier := 1, subject := w16 a, value := (s.port.ram.read a).data } :=
    if_neg (by rw [parity]; exact nofun)
  rw [reads, emit_setPort_events]

/-! ### A read arriving (R161, R166) -/

section
variable {s : State} {a : Nat}

theorem hostReadAt_held (pending : s.atArrival.port.pendingWrite a = true) : s.hostReadAt a = s.atArrival.holdRead a := if_pos pending

theorem hostReadAt_granted (free : s.atArrival.port.pendingWrite a = false) :
    s.hostReadAt a = s.atArrival.yieldPort.hostGranted.forwardRead a := if_neg (by rw [free]; exact nofun)

end

theorem atArrival_settled {s : State} (free : s.port.held = none) (settled : s.portSettled) : s.atArrival = s.admitWaiting := by
  unfold State.atArrival
  rw [settlePort_of_settled (admitWaiting_settled settled)]
  exact finishHeld_free free

theorem admitAll_pendingWrite (p : Port) (a : Nat) : p.admitAll.pendingWrite a = p.pendingWrite a := by
  rw [Bool.eq_iff_iff, pendingWrite_iff, pendingWrite_iff, Port.admitAll_writes]
  rfl

theorem admitAll_recordsOwed (p : Port) (a : Nat) : p.admitAll.recordsOwed a = p.recordsOwed a := by
  rw [recordsOwed_eq, recordsOwed_eq, Port.admitAll_writes]

/-- R167: a read that arrives once draining is complete. -/
theorem hostRead_drained {s : State} (free : s.port.held = none) (draining : s.part = .draining) (drained : s.port.drained = true)
    (addr : Word) :
    let u := s.enterLoading
    let t := s.hostReadAt addr.toNat
    (addr = 0x42 → t = u.setPort { u.port with held := some ⟨0x42, false, 1⟩ }) ∧
      (addr = 0x43 → t = u.setPort { u.port with held := some ⟨0x43, false, 2⟩ }) ∧
      (addr ≠ 0x42 → addr ≠ 0x43 → t = u.setPort { u.port with
        hostPassed := true, lastRead := some (addr.toNat, s.port.ram.read addr.toNat) }) := by
  intro u t
  have arrives := atArrival_drained free draining drained
  obtain ⟨records, waiting, images, -⟩ := drained_iff.1 drained
  have entered := enterLoading_entered s
  have writes : u.port.writes = [⟨0x42, 1, .plain⟩, ⟨0x43, 0, .plain⟩] := by
    rw [show u.port.writes = _ from entered.writes, Port.writes, records, waiting]
    rfl
  obtain ⟨-, -, -, ram, image, -⟩ := entered.port
  have loading : u.part ≠ .running := by
    rw [show u.part = _ from entered.part]
    exact nofun
  have noImages : u.port.images = [] := image.trans images
  have holds (n : Nat) (a : Nat) (owed : owedIn [⟨0x42, 1, .plain⟩, ⟨0x43, 0, .plain⟩] a = n) (pos : 0 < n) (at_ : addr.toNat = a) :
      t = u.setPort { u.port with held := some ⟨a, false, n⟩ } := by
    have owes : u.port.recordsOwed a = n := by rw [recordsOwed_eq, writes, owed]
    have clean : u.port.imageOwed a = false := by
      rw [Port.imageOwed, noImages]
      rfl
    have pending : s.atArrival.port.pendingWrite addr.toNat = true := by
      rw [arrives, at_, Port.pendingWrite, show s.enterLoading.port.recordsOwed a = n from owes]
      simp [pos]
    rw [show t = _ from hostReadAt_held pending, arrives, at_]
    show u.holdRead a = _
    unfold State.holdRead
    rw [owes, clean]
    rfl
  refine ⟨fun at_ => holds 1 0x42 rfl (by decide) (by rw [at_]; rfl), fun at_ => holds 2 0x43 rfl (by decide) (by rw [at_]; rfl),
    fun other another => ?_⟩
  have free : s.atArrival.port.pendingWrite addr.toNat = false := by
    rw [arrives, Bool.eq_false_iff, ne_eq, pendingWrite_iff, show s.enterLoading.port.images = [] from noImages,
      show s.enterLoading.port.writes = _ from writes]
    rintro (⟨_, mem, -⟩ | ⟨e, mem, addrs⟩)
    · cases mem
    · simp only [List.mem_cons, List.not_mem_nil, or_false] at mem
      obtain rfl | rfl := mem
      · exact other (BitVec.eq_of_toNat_eq addrs.symm)
      · exact another (BitVec.eq_of_toNat_eq addrs.symm)
  rw [show t = _ from hostReadAt_granted free, arrives, enterLoading_granted drained]
  rw [forwardRead_silent (s := u.setPort { u.port with hostPassed := true }) loading]
  show u.setPort { u.port with hostPassed := true, lastRead := some (addr.toNat, u.port.ram.read addr.toNat) } = _
  rw [show u.port.ram = s.port.ram from ram]

/-- R161, R166: a read before which a part cycle is made finds no write pending after it. -/
theorem hostReadAt_yields {s t : State} (h : s.PortYields t) {a : Nat} (free : s.port.pendingWrite a = false) :
    s.hostReadAt a = t.admitWaiting.settlePort.hostGranted.forwardRead a ∧ (t.portSettled → s.hostReadAt a = t.hostReadAt a) := by
  obtain ⟨arrives, yields, arrivesAfter, yielded, -⟩ := h.arrives
  obtain ⟨x, -, made⟩ := h.serves
  have reads : s.hostReadAt a = t.admitWaiting.settlePort.hostGranted.forwardRead a := by
    rw [hostReadAt_granted (by rw [arrives]; exact free), arrives, yields]
  refine ⟨reads, fun settled => ?_⟩
  have freed : t.atArrival.port.pendingWrite a = false := by
    rw [arrivesAfter, settlePort_of_settled (admitWaiting_settled settled)]
    exact (admitAll_pendingWrite t.port a).trans (made ▸ (servePart_serves x s).2 a free)
  rw [reads, hostReadAt_granted freed, yielded, arrivesAfter]

/-- R166: a read that finds a write pending is held for the writes up to the last for its word. -/
theorem hostRead_holds {s : State} {a : Nat} (free : s.port.held = none) (settled : s.portSettled)
    (pending : s.port.pendingWrite a = true) :
    s.hostReadAt a = s.setPort { s.port.admitAll with held := some ⟨a, s.port.imageOwed a, s.port.recordsOwed a⟩ } := by
  have arrives := atArrival_settled free settled
  rw [hostReadAt_held (by rw [arrives]; exact (admitAll_pendingWrite s.port a).trans pending), arrives]
  show s.setPort { s.port.admitAll with held := some ⟨a, s.port.admitAll.imageOwed a, s.port.admitAll.recordsOwed a⟩ } = _
  rw [admitAll_recordsOwed]
  rfl

/-- R161: a read that finds no write pending is granted. -/
theorem hostRead_grants {s : State} {a : Nat} (free : s.port.held = none) (settled : s.portSettled)
    (clean : s.port.pendingWrite a = false) (unpassed : s.port.hostPassed = false) :
    s.hostReadAt a = (s.setPort { s.port.admitAll with hostPassed := s.port.admitAll.partWaiting }).forwardRead a := by
  have arrives := atArrival_settled free settled
  have clear : s.admitWaiting.port.hostPassed = false := unpassed
  rw [hostReadAt_granted (by rw [arrives]; exact (admitAll_pendingWrite s.port a).trans clean), arrives, yieldPort_unpassed clear]
  unfold State.hostGranted
  rw [clear, Bool.false_or]
  rfl

/-- R166: a read held. -/
theorem holdRead_facts (s : State) (a : Nat) :
    let p := { s.port.admitAll with held := some ⟨a, s.port.imageOwed a, s.port.recordsOwed a⟩ }
    (s.setPort p).waitLine = true ∧ p.ram = s.port.ram ∧ p.writes = s.port.writes ∧ p.images = s.port.images ∧
      p.lastRead = s.port.lastRead ∧ ({ s.setPort p with port := s.port } : State) = s :=
  ⟨rfl, rfl, Port.admitAll_writes s.port, rfl, rfl, rfl⟩

/-- R159, R161: a read granted to a port that holds none. -/
theorem grantRead_facts {s : State} (free : s.port.held = none) (a : Nat) :
    let t := (s.setPort { s.port.admitAll with hostPassed := s.port.admitAll.partWaiting }).forwardRead a
    t.port.held = none ∧ t.port.lastRead = some (a, s.port.ram.read a) ∧ t.port.ram = s.port.ram ∧
      t.port.hostPassed = s.port.admitAll.partWaiting ∧ ({ t with port := s.port, events := s.events } : State) = s ∧
      ((s.port.ram.read a).parityOk = true → t.events = s.events ∧ t.port.writes = s.port.writes) ∧
      ((s.port.ram.read a).parityOk = false → t.events =
        (s.emit { kind := .busParity, qualifier := 1, subject := w16 a, value := (s.port.ram.read a).data }).events) := by
  intro t
  obtain ⟨records, waiting, events, made, sound⟩ :=
    forwardRead_rest a (s.setPort { s.port.admitAll with hostPassed := s.port.admitAll.partWaiting })
  refine ⟨?_, ?_, ?_, ?_, ?_, fun parity => ?_, fun parity => ?_⟩
  · exact (congrArg (fun u : State => u.port.held) made).trans free
  · exact (congrArg (fun u : State => u.port.lastRead) made).trans rfl
  · exact (congrArg (fun u : State => u.port.ram) made).trans rfl
  · exact (congrArg (fun u : State => u.port.hostPassed) made).trans rfl
  · exact (congrArg (fun u : State => ({ u with port := s.port, events := s.events } : State)) made).trans rfl
  · obtain ⟨sameRecords, sameWaiting, sameEvents⟩ := sound parity
    refine ⟨(congrArg State.events made).trans sameEvents, (congrArg (fun u : State => u.port.writes) made).trans ?_⟩
    rw [sameRecords, sameWaiting]
    exact Port.admitAll_writes s.port
  · have faulty := forwardRead_faulty
      (s := s.setPort { s.port.admitAll with hostPassed := s.port.admitAll.partWaiting }) (a := a) parity
    exact faulty.trans (emit_setPort_events s _ _)

/-- Settles O49: what a read finds pending once the arbiter has made its own cycles decides between hold and grant. -/
theorem hostReadHeldOrForwarded : Obligations.HostReadHeldOrForwarded := by
  unfold Obligations.HostReadHeldOrForwarded
  refine ⟨fun s addr free draining drained => ?_, fun s t addr h => ?_, fun s t addr h clean => ?_, fun s addr free settled => ?_⟩
  · exact ⟨s.enterLoading, _, enterLoading_entered s, rfl, hostRead_drained free draining drained addr⟩
  · show Host.Outcome.next (s.hostReadAt addr.toNat) = .next (t.hostReadAt addr.toNat)
    unfold State.hostReadAt
    rw [atArrival_of_takes h]
  · obtain ⟨reads, same⟩ := hostReadAt_yields h clean
    obtain ⟨-, -, -, -, freed⟩ := h.arrives
    obtain ⟨ram, -, -⟩ := settlePort_holds t.admitWaiting
    refine ⟨fun settled => congrArg Host.Outcome.next (same settled), _, congrArg Host.Outcome.next reads, ?_, ?_⟩
    all_goals
      generalize t.admitWaiting.settlePort = v at freed ram
      obtain ⟨records, waiting, events, made, -⟩ := forwardRead_rest addr.toNat v.hostGranted
    · exact (congrArg (fun u : State => u.port.held) made).trans freed
    · refine (congrArg (fun u : State => u.port.lastRead) made).trans ?_
      rw [show t.port.ram = v.port.ram from ram.symm]
      rfl
  · intro a image record
    refine ⟨fun some => ?_, fun noImage noRecord unpassed => ?_⟩
    · have held := hostRead_holds free settled (pendingWrite_iff.2 some)
      obtain ⟨waits, ram, writes, images, lastRead, rest⟩ := holdRead_facts s a
      exact ⟨_, _, congrArg Host.Outcome.next held, rfl, waits, rfl, imageOwed_iff, (owedIn_owes s.port.writes a).1,
        ram, writes, images, lastRead, rest⟩
    · have clean : s.port.pendingWrite a = false := by
        rw [Bool.eq_false_iff, ne_eq, pendingWrite_iff]
        exact fun pending => pending.elim noImage noRecord
      exact ⟨_, congrArg Host.Outcome.next (hostRead_grants free settled clean unpassed), grantRead_facts free a⟩

end Sys2Proof.Machine
end

section
/-! PROOFS. Host writes (R155 to R159): the class of every word, the arbiter before the write, and its treatment. -/

namespace Sys2Proof.Machine

/-! ### The regions of a sound layout (R169, test 4) -/

/-- Two blocks of words that share none. -/
def Apart (a b : Region) : Prop := a.1 + a.2 ≤ b.1 ∨ b.1 + b.2 ≤ a.1

section
variable {L : Layout}

theorem fixedRegions_sublist (L : Layout) : List.Sublist [(L.laneBase, 12), (L.eventBase, 2 + L.eventSize * 4), (L.senseBase, 32),
    (L.statusBase, 96), (L.thresholdBase, 24)] L.regions := by
  have tail (xs ys : List Region) : List.Sublist ys (xs ++ ys) := List.sublist_append_right xs ys
  have placed : L.regions = (L.laneBase, 12) :: ((L.rings.front.region ++ L.rings.crew.region ++ L.rings.screen.region) ++
      [(L.eventBase, 2 + L.eventSize * 4), (L.senseBase, 32), (L.statusBase, 96), (L.thresholdBase, 24)]) := by
    simp [Layout.regions]
  rw [placed]
  exact (tail _ _).cons_cons _

/-- R169, test 4: the Sense and Status Images apart from the lane control block and the event ring. -/
theorem images_apart (ok : L.regionsOk = true) :
    Apart (L.laneBase, 12) (L.senseBase, 32) ∧ Apart (L.laneBase, 12) (L.statusBase, 96) ∧
      Apart (L.eventBase, 2 + L.eventSize * 4) (L.senseBase, 32) ∧ Apart (L.eventBase, 2 + L.eventSize * 4) (L.statusBase, 96) := by
  obtain ⟨-, -, -, -, pairs⟩ := (regionsOk_iff L).1 ok
  have fixed := pairs.sublist (fixedRegions_sublist L)
  obtain ⟨lane, rest⟩ := List.pairwise_cons.1 fixed
  obtain ⟨event, -⟩ := List.pairwise_cons.1 rest
  exact ⟨lane _ (by simp), lane _ (by simp), event _ (by simp), event _ (by simp)⟩

theorem ring_region_mem {l : LaneId} (present : (L.rings.get l).size ≠ 0) :
    ((L.rings.get l).base, (L.rings.get l).size * 8) ∈
      L.rings.front.region ++ L.rings.crew.region ++ L.rings.screen.region := by
  have own : ((L.rings.get l).base, (L.rings.get l).size * 8) ∈ (L.rings.get l).region := by
    rw [Ring.region, if_neg present]
    exact List.mem_singleton_self _
  rw [List.mem_append, List.mem_append]
  cases l with
  | front => exact .inl (.inl own)
  | crew => exact .inl (.inr own)
  | screen => exact .inr own

/-- R169, test 4: an order ring apart from the words that the host writes. -/
theorem ring_apart (ok : L.regionsOk = true) {l : LaneId} (present : (L.rings.get l).size ≠ 0) :
    0x4F < (L.rings.get l).base ∧
      Apart (L.laneBase, 12) ((L.rings.get l).base, (L.rings.get l).size * 8) ∧
      Apart ((L.rings.get l).base, (L.rings.get l).size * 8) (L.eventBase, 2 + L.eventSize * 4) ∧
      Apart ((L.rings.get l).base, (L.rings.get l).size * 8) (L.thresholdBase, 24) := by
  obtain ⟨-, -, -, low, pairs⟩ := (regionsOk_iff L).1 ok
  have mem := ring_region_mem present
  have placed : L.regions = (L.laneBase, 12) :: ((L.rings.front.region ++ L.rings.crew.region ++ L.rings.screen.region) ++
      [(L.eventBase, 2 + L.eventSize * 4), (L.senseBase, 32), (L.statusBase, 96), (L.thresholdBase, 24)]) := by
    simp [Layout.regions]
  rw [placed] at pairs low
  obtain ⟨lane, rest⟩ := List.pairwise_cons.1 pairs
  obtain ⟨-, -, rings⟩ := List.pairwise_append.1 rest
  exact ⟨(low _ (List.mem_cons_of_mem _ (List.mem_append_left _ mem))).1, lane _ (List.mem_append_left _ mem),
    rings _ mem _ (by simp), rings _ mem _ (by simp)⟩

end

/-! ### The class of a word (R155) -/

theorem inBlock_iff {base n a : Nat} : inBlock base n a = true ↔ base ≤ a ∧ a < base + n := by
  simp [inBlock]

theorem slotGuarded_iff {s : State} {a : Nat} : s.slotGuarded a = true ↔
    ∃ g ∈ s.port.guards, s.slotWord g.1 g.2 0 ≤ a ∧ a < s.slotWord g.1 g.2 0 + 8 := by
  simp only [State.slotGuarded, List.any_eq_true, inBlock_iff]

section
variable {s : State} {a : Nat}

theorem wordClass_layout (low : a < 0x40) : s.wordClass a = .layout := if_pos low

theorem wordClass_status (s : State) : s.wordClass 0x42 = .guarded ∧ s.wordClass 0x43 = .guarded := by
  constructor <;> simp [State.wordClass]

/-- R155: above the four fixed words the layout's regions and the guarded slots decide. -/
theorem wordClass_placed (high : 0x44 ≤ a) : s.wordClass a =
    if inBlock s.lay.laneBase 12 a then laneWordClass (laneAt (a - s.lay.laneBase)) ((a - s.lay.laneBase) % 4)
    else if a = s.lay.eventBase + 1 then .snooped .consumer
    else if inBlock s.lay.eventBase (2 + 4 * s.lay.eventSize) a then .guarded
    else if inBlock s.lay.senseBase 32 a || inBlock s.lay.statusBase 96 a then .guarded
    else if h : s.lay.thresholdBase ≤ a ∧ a < s.lay.thresholdBase + 24 then
      .snooped (.threshold ⟨a - s.lay.thresholdBase, by omega⟩)
    else if s.slotGuarded a then .guarded
    else .plain := by
  unfold State.wordClass
  rw [if_neg (by omega : ¬ a < 0x40), if_neg (by omega : ¬ (a = 0x40 ∨ a = 0x41)), if_neg (by omega : ¬ (a = 0x42 ∨ a = 0x43))]

/-- R155: what the part writes is guarded where the host writes no word of its own. -/
theorem wordClass_guarded (high : 0x44 ≤ a) (lane : a < s.lay.laneBase ∨ s.lay.laneBase + 12 ≤ a)
    (consumer : a ≠ s.lay.eventBase + 1) (threshold : a < s.lay.thresholdBase ∨ s.lay.thresholdBase + 24 ≤ a)
    (block : inBlock s.lay.eventBase (2 + 4 * s.lay.eventSize) a = true ∨ inBlock s.lay.senseBase 32 a = true ∨
      inBlock s.lay.statusBase 96 a = true ∨ s.slotGuarded a = true) : s.wordClass a = .guarded := by
  rw [wordClass_placed high, if_neg (by rw [inBlock_iff]; omega), if_neg consumer, dif_neg (by omega)]
  obtain event | sense | status | slot := block
  · exact if_pos event
  · rw [sense]
    exact ite_self _
  · rw [status, Bool.or_true]
    exact ite_self _
  · rw [if_pos slot, ite_self, ite_self]

theorem wordClass_plain (high : 0x44 ≤ a) (lane : a < s.lay.laneBase ∨ s.lay.laneBase + 12 ≤ a)
    (event : a < s.lay.eventBase ∨ s.lay.eventBase + (2 + 4 * s.lay.eventSize) ≤ a)
    (sense : a < s.lay.senseBase ∨ s.lay.senseBase + 32 ≤ a) (status : a < s.lay.statusBase ∨ s.lay.statusBase + 96 ≤ a)
    (threshold : a < s.lay.thresholdBase ∨ s.lay.thresholdBase + 24 ≤ a)
    (slots : ∀ g ∈ s.port.guards, a < s.slotWord g.1 g.2 0 ∨ s.slotWord g.1 g.2 0 + 8 ≤ a) : s.wordClass a = .plain := by
  have unguarded : ¬ s.slotGuarded a = true := by
    rw [slotGuarded_iff]
    rintro ⟨g, mem, first, last⟩
    exact (slots g mem).elim (fun h => by omega) fun h => by omega
  rw [wordClass_placed high, if_neg (by rw [inBlock_iff]; omega), if_neg (by omega), if_neg (by rw [inBlock_iff]; omega),
    if_neg (by rw [Bool.or_eq_true, inBlock_iff, inBlock_iff]; omega), dif_neg (by omega), if_neg unguarded]

end

section
variable {s : State}

/-- R155: the two words of a lane that the part writes. -/
theorem wordClass_lane (ok : s.lay.regionsOk = true) (l : LaneId) {k : Nat} (two : 2 ≤ k) (three : k ≤ 3) :
    s.wordClass (s.lay.laneBase + 4 * l.index + k) = .guarded := by
  obtain ⟨base, -⟩ := regions_of_ok ok
  have index : l.index ≤ 2 := by cases l <;> decide
  have rem : (s.lay.laneBase + 4 * l.index + k - s.lay.laneBase) % 4 = k := by omega
  rw [wordClass_placed (by omega), if_pos (by rw [inBlock_iff]; omega), rem]
  unfold laneWordClass
  rw [if_neg (by omega), if_neg (by omega)]

theorem wordClass_event (ok : s.lay.regionsOk = true) {i : Nat} (within : i < 2 + 4 * s.lay.eventSize) (own : i ≠ 1) :
    s.wordClass (s.lay.eventBase + i) = .guarded := by
  obtain ⟨-, base, -, -, -, -, lane, -, threshold, -⟩ := regions_of_ok ok
  exact wordClass_guarded (by omega) (by omega) (by omega) (by omega) (.inl (by rw [inBlock_iff]; omega))

theorem wordClass_sense (ok : s.lay.regionsOk = true) {i : Nat} (within : i < 32) :
    s.wordClass (s.lay.senseBase + i) = .guarded := by
  obtain ⟨-, -, base, -, -, -, -, -, -, threshold, -⟩ := regions_of_ok ok
  obtain ⟨lane, -, event, -⟩ := images_apart ok
  unfold Apart at lane event
  exact wordClass_guarded (by omega) (by omega) (by omega) (by omega) (.inr (.inl (by rw [inBlock_iff]; omega)))

theorem wordClass_statusImage (ok : s.lay.regionsOk = true) {i : Nat} (within : i < 96) :
    s.wordClass (s.lay.statusBase + i) = .guarded := by
  obtain ⟨-, -, -, base, -, -, -, -, -, -, threshold⟩ := regions_of_ok ok
  obtain ⟨-, lane, -, event⟩ := images_apart ok
  unfold Apart at lane event
  exact wordClass_guarded (by omega) (by omega) (by omega) (by omega) (.inr (.inr (.inl (by rw [inBlock_iff]; omega))))

/-- R155: the words of a slot whose order the lane has not left. -/
theorem wordClass_slot (ok : s.lay.regionsOk = true) {g : LaneId × Nat} (mem : g ∈ s.port.guards)
    (slot : g.2 < (s.lay.rings.get g.1).size) {i : Nat} (within : i < 8) :
    s.wordClass ((s.lay.rings.get g.1).base + 8 * g.2 + i) = .guarded := by
  obtain ⟨base, lane, event, threshold⟩ := ring_apart ok (l := g.1) (by omega)
  unfold Apart at lane event threshold
  refine wordClass_guarded (by omega) (by omega) (by omega) (by omega) (.inr (.inr (.inr (slotGuarded_iff.2 ⟨g, mem, ?_⟩))))
  show (s.lay.rings.get g.1).base + 8 * g.2 + 0 ≤ _ ∧ _ < (s.lay.rings.get g.1).base + 8 * g.2 + 0 + 8
  omega

end

/-! ### The arbiter before a write (R161, R167) -/

theorem atGrant_drained {s : State} (free : s.port.held = none) (draining : s.part = .draining) (drained : s.port.drained = true) :
    s.atGrant = s.enterLoading.setPort { s.enterLoading.port with hostPassed := true } := by
  unfold State.atGrant
  rw [atArrival_drained free draining drained, enterLoading_granted drained]

/-- Log 10, R161: one thing taken or the part cycle made first, the write meets the same state. -/
theorem atGrant_of_earlier {s t : State} (h : s.PortTakes t ∨ s.PortYields t) : s.atGrant = t.atGrant := by
  unfold State.atGrant
  obtain takes | yields := h
  · rw [atArrival_of_takes takes]
  · obtain ⟨arrives, yielded, arrivesAfter, still, -⟩ := yields.arrives
    rw [arrives, yielded, still, arrivesAfter]

/-! ### The treatment of a granted write (R155 to R159) -/

section
variable {s : State} {a : Nat} {w : RamWord}

theorem writeGranted_reset (part : s.part = .reset) : s.writeGranted a w = s.forwardWrite a w := by
  unfold State.writeGranted
  rw [part]

theorem writeStarting_other (other : a ≠ 0x40) : s.writeStarting a w = s.forwardWrite a w := if_neg fun h => other h.1

theorem writeGranted_loading (part : s.part = .loading) (other : a ≠ 0x40) : s.writeGranted a w = s.forwardWrite a w := by
  unfold State.writeGranted
  rw [part]
  exact writeStarting_other other

theorem writeGranted_fault (part : s.part = .fault) (other : a ≠ 0x40) :
    s.writeGranted a w = if a = 0x42 ∨ a = 0x43 then s else s.forwardWrite a w := by
  unfold State.writeGranted
  rw [part]
  dsimp only
  rw [writeStarting_other other]

theorem writeGranted_running (part : s.part = .running) : s.writeGranted a w = s.writeRunning a w := by
  unfold State.writeGranted
  rw [part]

theorem writeGranted_draining (part : s.part = .draining) :
    s.writeGranted a w = if s.wordClass a = .guarded then s else s.forwardWrite a w := by
  unfold State.writeGranted
  rw [part]

theorem writeRunning_plain (words : s.wordClass a = .plain ∨ s.wordClass a = .layout) : s.writeRunning a w =
    if w.parityOk = true then s.forwardWrite a w else (s.forwardWrite a w).emit (busParityWrite a w) := by
  unfold State.writeRunning
  obtain e | e := words <;> rw [e]

theorem writeRunning_guarded (word : s.wordClass a = .guarded) : s.writeRunning a w =
    s.emit { kind := .trespass, subject := w16 a, value := w.data } := by
  unfold State.writeRunning
  rw [word]

/-- R159: a write with bad parity is forwarded and has no other effect than its event. -/
theorem writeRunning_faulty (word : s.wordClass a ≠ .guarded) (parity : w.parityOk = false) :
    s.writeRunning a w = (s.forwardWrite a w).emit (busParityWrite a w) := by
  unfold State.writeRunning
  cases k : s.wordClass a with
  | guarded => exact absurd k word
  | plain | layout | service | snooped => 
    dsimp only
    rw [parity]
    exact if_neg nofun

theorem writeRunning_argument (v : Word) : s.writeRunning 0x41 (.good v) = { s.forwardWrite 0x41 (.good v) with serviceArg := v } := by
  unfold State.writeRunning
  rw [(wordClass_service s).2]
  dsimp only
  rw [RamWord.good_parityOk]
  rfl

end

/-- Settles O44: the class of every word follows from the regions that test 4 keeps apart; the write goes by part state and class. -/
theorem hostWritesForwardedOrAbsorbed : Obligations.HostWritesForwardedOrAbsorbed := by
  unfold Obligations.HostWritesForwardedOrAbsorbed
  refine ⟨fun s L latched ok slots => ?_, fun s free _ draining drained => ?_, fun s => atGrant_of_free, fun s t addr w h => ?_,
    fun s addr w => ?_, fun s v running => ?_⟩
  · have lay : s.lay = L := by rw [State.lay, latched]; rfl
    subst lay
    obtain ⟨service, argument⟩ := wordClass_service s
    obtain ⟨state, reason⟩ := wordClass_status s
    refine ⟨fun a => wordClass_layout, service, argument, state, reason, fun l => ⟨wordClass_producer ok l, wordClass_command ok l,
      wordClass_lane ok l (by decide) (by decide), wordClass_lane ok l (by decide) (by decide)⟩,
      wordClass_event ok (i := 0) (by omega) nofun, wordClass_consumer ok, fun i within => ?_, fun i => wordClass_sense ok,
      fun i => wordClass_statusImage ok, wordClass_threshold ok, fun g mem i => wordClass_slot ok mem (slots g mem), ?_⟩
    · rw [Nat.add_assoc]
      exact wordClass_event ok (by omega) (by omega)
    · intro a high regions guards
      simp only [List.forall_mem_cons, List.not_mem_nil, false_imp_iff, implies_true, and_true] at regions
      obtain ⟨lane, event, sense, status, threshold⟩ := regions
      exact wordClass_plain high lane event sense status threshold guards
  · exact ⟨s.enterLoading, enterLoading_entered s, atGrant_drained free draining drained⟩
  · show Host.Outcome.next (s.atGrant.writeGranted addr.toNat w) = .next (t.atGrant.writeGranted addr.toNat w)
    rw [atGrant_of_earlier h]
  · intro g a forwarded
    have writes {t : State} (h : g.writeGranted a w = t) : exec (.hostWrite addr w) s = .next t := congrArg Host.Outcome.next h
    have trespasses {t : State} (h : g.writeGranted a w = t) : exec (.trespass addr w) s = .next t := congrArg Host.Outcome.next h
    refine ⟨fun part => writes (writeGranted_reset part), fun part other => writes (writeGranted_loading part other),
      fun part other state reason => writes ((writeGranted_fault part other).trans (if_neg (by simp [state, reason]))),
      fun part status => writes ((writeGranted_fault part (by omega)).trans (if_pos status)),
      fun part words => writes ((writeGranted_running part).trans (writeRunning_plain words)),
      fun part word parity => writes ((writeGranted_running part).trans (writeRunning_faulty word parity)),
      fun part word => trespasses ((writeGranted_running part).trans (writeRunning_guarded word)),
      fun part word => trespasses ((writeGranted_draining part).trans (if_pos word)),
      fun part word => writes ((writeGranted_draining part).trans (if_neg word)),
      fun canonical => Memory.read_write_same canonical a w, fun b other => Memory.read_write_other g.port.ram w other⟩
  · show Host.Outcome.next (s.atGrant.writeGranted 0x41 (.good v)) = _
    rw [writeGranted_running (atGrant_running running), writeRunning_argument]

end Sys2Proof.Machine
end

section
/-! PROOFS. What the entry to RUNNING brings about once the blocks have their starting states (R170): recomputes, raises and
events while no order is under way, no purge runs and no damper's opening is known. -/

namespace Sys2Proof.Machine

/-! ### Dampers not yet homed (R131, R140) -/

/-- R140: no damper's opening is known. -/
def State.unhomed (s : State) : Prop :=
  ∀ d, (s.damper d).estimate = none ∧ ((s.damper d).state = .homing ∨ (s.damper d).state = .waiting)

/-- A damper record but for its target. -/
def Damper.unaimed (x : Damper) : Damper := { x with target := 0 }

/-- What gives dampers that are not yet homed at most new targets. -/
def Aims (s t : State) : Prop := s.unhomed → ∀ d, (t.damper d).unaimed = (s.damper d).unaimed

section
variable {s t u : State}

theorem State.unhomed.of_unaimed (h : s.unhomed) (same : ∀ d, (t.damper d).unaimed = (s.damper d).unaimed) : t.unhomed := by
  intro d
  have estimate : (t.damper d).estimate = (s.damper d).estimate := by
    have x := congrArg Damper.estimate (same d)
    exact x
  have state : (t.damper d).state = (s.damper d).state := by
    have x := congrArg Damper.state (same d)
    exact x
  rw [estimate, state]
  exact h d

theorem Aims.of_drive (h : t.drive = s.drive) : Aims s t := fun _ d => by
  unfold State.damper
  rw [h]

theorem Aims.refl (s : State) : Aims s s := .of_drive rfl

theorem Aims.trans (h : Aims s t) (k : Aims t u) : Aims s u := fun hs d =>
  (k (hs.of_unaimed (h hs)) d).trans (h hs d)

/-- The last of two steps first. -/
theorem Aims.behind (k : Aims t u) (h : Aims s t) : Aims s u := h.trans k

theorem each_aims {α : Type} {f : α → State → State} (h : ∀ x t, Aims t (f x t)) (xs : List α) (s : State) :
    Aims s (s.each xs f) := by
  unfold State.each
  induction xs generalizing s with
  | nil => exact .refl s
  | cons x xs ih => exact (h x s).trans (ih (f x s))

end

/-- R131: a damper that is not yet homed takes a target and no more. -/
theorem takeTarget_unhomed {s : State} (h : s.unhomed) (again : State → State) (e : Option LaneId) (d : Fin 8) (g : Nat) :
    s.takeTarget again e d g = s.setDamper d { s.damper d with target := g } := by
  obtain ⟨estimate, state⟩ := h d
  unfold State.takeTarget
  dsimp only
  rw [damper_setDamper]
  dsimp only
  rw [estimate]
  obtain homing | waiting := state
  · rw [homing]
  · rw [waiting]

theorem setDamper_target_aims (s : State) (d : Fin 8) (g : Nat) : Aims s (s.setDamper d { s.damper d with target := g }) := by
  intro _ c
  by_cases own : c = d
  · rw [own, damper_setDamper]
    rfl
  · exact congrArg Damper.unaimed (vset_get_other s.drive.dampers _ own)

theorem handTarget_aims (again : State → State) (e : Option LaneId) (entry : Bool) (old new : Mix) (d : Fin 8) (s : State) :
    Aims s (s.handTarget again e entry old new d) := by
  unfold State.handTarget
  split
  · intro h
    rw [takeTarget_unhomed h]
    exact setDamper_target_aims s d _ h
  · exact .refl s

/-- R32: a recompute before any homing gives targets and starts no motion. -/
theorem recomputeOnce_aims (again : State → State) (e : Option LaneId) (entry : Bool) (dp : Option Nat) (s : State) :
    Aims s (s.recomputeOnce again e entry dp) := by
  have worded : Aims s ((s.mixed dp).putMixWords s.governor.mix (s.nextMix dp).1) := by
    rw [putMixWords_state]
    exact .of_drive rfl
  have targets := worded.trans (each_aims (fun d t => handTarget_aims again e entry s.governor.mix (s.nextMix dp).1 d t) allDampers _)
  have blows (t : State) (v : Nat) : Aims t (t.handBlower v) := by
    obtain ⟨w, eq⟩ := handBlower_eq t v
    rw [eq]
    exact .of_drive rfl
  rw [recomputeOnce_eq]
  unfold State.handed
  dsimp only
  refine Aims.behind (.of_drive (tellDenied_each_quiet _ _).drive) (Aims.behind (.of_drive (handHeat_quiet _ _).drive) ?_)
  split
  · exact (blows _ _).behind targets
  · exact targets

theorem recomputeAt_aims (e : Option LaneId) (n : Nat) (entry : Bool) (dp : Option Nat) (s : State) :
    Aims s (State.recomputeAt e n entry dp s) := by
  cases n with
  | zero => exact recomputeOnce_aims _ e entry dp s
  | succ n => exact recomputeOnce_aims _ e entry dp s

/-! ### Blocks at rest (R170) -/

/-- R25, R70, R140: no order is under way, no purge runs and no damper's opening is known. -/
structure State.Resting (s : State) : Prop where
  lanes : ∀ l, (s.lanes.get l).engaged = false
  purge : s.purge.state = .idle
  dampers : s.unhomed

/-- What leaves the blocks at rest: writes are offered and dampers get targets. -/
structure Opens (s t : State) : Prop where
  below : t.below = s.below
  lanes : t.lanes = s.lanes
  reads : t.port.reads = s.port.reads
  guards : t.port.guards = s.port.guards
  writes : s.port.writes <+: t.port.writes
  dampers : ∀ d, (t.damper d).unaimed = (s.damper d).unaimed

section
variable {s t u : State}

theorem Opens.refl (s : State) : Opens s s := ⟨rfl, rfl, rfl, rfl, List.prefix_refl _, fun _ => rfl⟩

theorem Opens.trans (h : Opens s t) (k : Opens t u) : Opens s u where
  below := k.below.trans h.below
  lanes := k.lanes.trans h.lanes
  reads := k.reads.trans h.reads
  guards := k.guards.trans h.guards
  writes := h.writes.trans k.writes
  dampers d := (k.dampers d).trans (h.dampers d)

/-- The last of two steps first. -/
theorem Opens.behind (k : Opens t u) (h : Opens s t) : Opens s u := h.trans k

theorem Opens.resting (h : Opens s t) (rest : s.Resting) : t.Resting where
  lanes l := by rw [h.lanes]; exact rest.lanes l
  purge := by rw [show t.purge = s.purge from congrArg Below.purge h.below]; exact rest.purge
  dampers := rest.dampers.of_unaimed h.dampers

theorem Opens.part (h : Opens s t) : t.part = s.part := congrArg (fun x : Below => x.part) h.below

theorem Opens.layout (h : Opens s t) : t.layout = s.layout := congrArg (fun x : Below => x.layout) h.below

/-- What is left where neither the lanes nor the drive nor a read or guard is touched. -/
theorem Opens.of_below (below : t.below = s.below) (lanes : t.lanes = s.lanes := by rfl) (drive : t.drive = s.drive := by rfl)
    (reads : t.port.reads = s.port.reads := by rfl) (guards : t.port.guards = s.port.guards := by rfl)
    (writes : s.port.writes <+: t.port.writes := by exact List.prefix_refl _) : Opens s t :=
  ⟨below, lanes, reads, guards, writes, fun d => by unfold State.damper; rw [drive]⟩

theorem each_opens {α : Type} {f : α → State → State} (h : ∀ x t, Opens t (f x t)) (xs : List α) (s : State) :
    Opens s (s.each xs f) := by
  unfold State.each
  induction xs generalizing s with
  | nil => exact .refl s
  | cons x xs ih => exact (h x s).trans (ih (f x s))

theorem State.Resting.inForce (h : s.Resting) (l : LaneId) : (s.lanes.get l).inForce = none := by
  unfold Lane.inForce
  rw [h.lanes l]
  rfl

/-- R17: lanes without an order under way stand through what is still to them. -/
theorem lanes_of_still (still : t.still = s.still) (idle : ∀ l, (s.lanes.get l).engaged = false) : t.lanes = s.lanes := by
  have lane (l : LaneId) : t.lanes.get l = s.lanes.get l := by
    have same : (t.lanes.get l).still = (s.lanes.get l).still := by
      have all := congrArg (fun x : Still => x.lanes.get l) still
      cases l <;> exact all
    have engaged : (t.lanes.get l).engaged = false := (congrArg LaneStill.engaged same).trans (idle l)
    have rest : (if (t.lanes.get l).engaged = true then none else some (t.lanes.get l)) =
        if (s.lanes.get l).engaged = true then none else some (s.lanes.get l) := congrArg LaneStill.rest same
    rw [engaged, idle l] at rest
    exact Option.some.inj rest
  have front := lane .front
  have crew := lane .crew
  have screen := lane .screen
  generalize t.lanes = x at front crew screen ⊢
  generalize s.lanes = y at front crew screen ⊢
  obtain ⟨_, _, _⟩ := x
  obtain ⟨_, _, _⟩ := y
  cases front
  cases crew
  cases screen
  rfl

theorem Opens.of_still (rest : s.Resting) (still : t.still = s.still) (follows : Follows s t) (aims : Aims s t) : Opens s t where
  below := State.below_of_still still
  lanes := lanes_of_still still rest.lanes
  reads := congrArg Still.reads still
  guards := congrArg Still.guards still
  writes := follows.writes
  dampers := aims rest.dampers

/-! ### Recomputes, events and raises -/

theorem recomputeAt_opens (rest : s.Resting) (e : Option LaneId) (n : Nat) (entry : Bool) (dp : Option Nat) :
    Opens s (State.recomputeAt e n entry dp s) :=
  .of_still rest (recomputeAt_still e n entry dp s) (recomputeAt_follows e n entry dp s) (recomputeAt_aims e n entry dp s)

theorem recompute_opens (rest : s.Resting) : Opens s s.recompute := by
  unfold State.recompute State.recomputeFor
  split
  · exact recomputeAt_opens rest _ _ _ _
  · exact .refl s

theorem recomputeEntry_opens (rest : s.Resting) : Opens s s.recomputeEntry := by
  unfold State.recomputeEntry
  split
  · exact recomputeAt_opens rest _ _ _ _
  · exact .refl s

theorem emit_opens (s : State) (e : Event) : Opens s (s.emit e) := by
  have below := emit_below s e
  have writes := (emit_tells s e).writes
  rw [emit_eq] at below writes ⊢
  exact .of_below below (writes := writes)

theorem putStatus_opens (s : State) (n : Nat) (w : Word) : Opens s (s.putStatus n w) := .of_below rfl

theorem offer_opens (s : State) (a : Nat) (w : Word) : Opens s (s.offer a w) :=
  .of_below (State.below_of_lower (offer_lower s a w)) rfl rfl (Port.offer_reads _ _) (Port.offer_guards _ _) (offer_tells (f := id) s a w).writes

theorem relamp_opens (s : State) : Opens s s.relamp := by
  rw [relamp_eq]
  exact .of_below rfl

theorem offerHold_resting (rest : s.Resting) (k : HoldKey) : s.each allLanes (State.offerHold k) = s := by
  have one (l : LaneId) : s.offerHold k l = s := offerHold_free (rest.inForce l)
  show ((s.offerHold k .front).offerHold k .crew).offerHold k .screen = s
  rw [one, one, one]

/-- R54: the record of a raise, with its image words and its event, before the recompute. -/
def State.holdAdded (k : HoldKey) (cause : HoldCause) (phase : Option PurgeState) (s : State) : State :=
  let r : HoldRecord := { key := k, cause := cause, raised := s.tagClock, notBefore := none, phase := phase }
  (({ s with holds := s.holds ++ [r] }).putHoldCount.putHoldEntry s.holds.length (some r)).emit
    { kind := .holdRaised, subject := r.word, value := w16 cause.code }

theorem holdAdded_opens (k : HoldKey) (cause : HoldCause) (phase : Option PurgeState) (s : State) :
    Opens s (s.holdAdded k cause phase) :=
  (emit_opens _ _).behind (.of_below rfl)

theorem createHold_resting (rest : s.Resting) (k : HoldKey) (cause : HoldCause) (phase : Option PurgeState) :
    s.createHold k cause phase = (s.holdAdded k cause phase).recompute :=
  have added := (holdAdded_opens k cause phase s).resting rest
  offerHold_resting ((recompute_opens added).resting added) k

theorem createHold_opens (rest : s.Resting) (k : HoldKey) (cause : HoldCause) (phase : Option PurgeState) :
    Opens s (s.createHold k cause phase) := by
  rw [createHold_resting rest]
  exact (recompute_opens ((holdAdded_opens k cause phase s).resting rest)).behind (holdAdded_opens k cause phase s)

end

end Sys2Proof.Machine
end

section
/-! PROOFS. The first grants and the first raises of the entry to RUNNING (R66, R133, R170). -/

namespace Sys2Proof.Machine

/-! ### The first grants (R133, R140) -/

theorem tellLane_idle {s : State} {l : LaneId} (idle : (s.lanes.get l).engaged = false) (again : State → State)
    (e : Option LaneId) (d : Fin 8) : s.tellLane again e d l = s := by
  unfold State.tellLane
  cases k : (s.lanes.get l).state with
  | settle | dwell | check => simp [Lane.engaged, k] at idle
  | _ => exact ite_self _

theorem handOnDamper_idle {s : State} (idle : ∀ l, (s.lanes.get l).engaged = false) (again : State → State) (e : Option LaneId)
    (d : Fin 8) : s.handOnDamper again e d = s.putStatus (25 + d.val) (s.damper d).word := by
  have one (l : LaneId) : (s.putStatus (25 + d.val) (s.damper d).word).tellLane again e d l =
      s.putStatus (25 + d.val) (s.damper d).word := tellLane_idle (by exact idle l) again e d
  unfold State.handOnDamper
  generalize s.putStatus (25 + d.val) (s.damper d).word = u at one ⊢
  show State.tellLane again e d .screen (State.tellLane again e d .crew (State.tellLane again e d .front u)) = u
  rw [one, one, one]

/-- R129, R140: the first `n` dampers have their grants and home, the others wait for theirs. -/
structure State.HomesFirst (n : Nat) (s : State) : Prop where
  lanes : ∀ l, (s.lanes.get l).engaged = false
  queue : s.drive.queue = (allDampers.drop n).map (fun d => { damper := d, homing := true })
  dampers : ∀ d, (s.damper d).estimate = none ∧ (s.damper d).state = if d.val < n then .homing else .waiting

theorem toList_eq_map {α : Type} {n : Nat} (v : Vector α n) : v.toList = (List.finRange n).map v.get := by
  refine List.ext_getElem (by simp) fun i hi _ => ?_
  simp [Vector.get]

theorem countP_first {n : Nat} (le : n ≤ 8) : (List.finRange 8).countP (fun d => decide (d.val < n)) = n := by
  match n, le with
  | 0, _ | 1, _ | 2, _ | 3, _ | 4, _ | 5, _ | 6, _ | 7, _ | 8, _ => rfl
  | n + 9, le => omega

section
variable {n : Nat} {s : State}

theorem State.HomesFirst.grantsInUse (h : s.HomesFirst n) (le : n ≤ 8) : s.grantsInUse = n := by
  have granted (d : Fin 8) : Damper.granted (s.drive.dampers.get d) = decide (d.val < n) := by
    obtain ⟨-, state⟩ := h.dampers d
    unfold Damper.granted
    rw [show (s.drive.dampers.get d).state = _ from state]
    by_cases first : d.val < n <;> simp [first]
  unfold State.grantsInUse
  rw [toList_eq_map, List.countP_map, ← countP_first le]
  exact List.countP_congr fun d _ => by rw [Function.comp, granted]

/-- R133: a grant to the head of the queue. -/
theorem State.HomesFirst.grantHead (h : s.HomesFirst n) (lt : n < 8) (again : State → State) (e : Option LaneId) :
    (s.grantHead again e).HomesFirst (n + 1) := by
  have heads : ∀ d : Fin 8, allDampers.drop d.val = d :: allDampers.drop (d.val + 1) := by decide
  have head : s.drive.queue = { damper := ⟨n, lt⟩, homing := true } ::
      (allDampers.drop (n + 1)).map (fun d => { damper := d, homing := true }) := by
    rw [h.queue, heads ⟨n, lt⟩]
    rfl
  have grants : s.grantHead again e = ({ s with drive := { s.drive with
      queue := (allDampers.drop (n + 1)).map (fun d => { damper := d, homing := true }) } }).startHoming again e ⟨n, lt⟩ := by
    unfold State.grantHead
    rw [head]
    rfl
  rw [grants]
  unfold State.startHoming
  dsimp only
  rw [handOnDamper_idle (by exact h.lanes)]
  refine ⟨h.lanes, rfl, fun d => ?_⟩
  by_cases own : d = ⟨n, lt⟩
  · subst own
    obtain ⟨estimate, -⟩ := h.dampers ⟨n, lt⟩
    have record : ∀ (v : Vector Damper 8) (x : Damper), (vset v ⟨n, lt⟩ x).get ⟨n, lt⟩ = x := fun v x => vset_get_same v _ x
    refine ⟨(congrArg Damper.estimate (record _ _)).trans estimate, (congrArg Damper.state (record _ _)).trans ?_⟩
    exact (if_pos (Nat.lt_succ_self n)).symm
  · obtain ⟨estimate, state⟩ := h.dampers d
    have record : ∀ (v : Vector Damper 8) (x : Damper), (vset v ⟨n, lt⟩ x).get d = v.get d := fun v x => vset_get_other v x own
    have differ : d.val ≠ n := fun k => own (Fin.ext k)
    refine ⟨(congrArg Damper.estimate (record _ _)).trans estimate, (congrArg Damper.state (record _ _)).trans (state.trans ?_)⟩
    exact if_congr (by omega) rfl rfl

theorem giveGrants_homes {m : Nat} (k : Nat) (h : s.HomesFirst n) (limit : s.lay.motionGrants = m) (le : n ≤ m) (most : m ≤ 8)
    (enough : m ≤ n + k) : (State.giveGrants State.recompute none k s).HomesFirst m := by
  induction k generalizing n s with
  | zero =>
    obtain rfl : n = m := by omega
    exact h
  | succ k ih =>
    unfold State.giveGrants
    rw [h.grantsInUse (by omega), limit]
    by_cases less : n < m
    · rw [if_pos less]
      have layout : (s.grantHead State.recompute none).layout = s.layout :=
        congrArg (fun x : Still => x.layout) (grantHead_still recompute_still none s)
      refine ih (h.grantHead (by omega) _ _) ?_ less (by omega)
      unfold State.lay
      rw [layout]
      exact limit
    · rw [if_neg less]
      obtain rfl : n = m := by omega
      exact h

end

/-- R129, R133: as many dampers home at the entry to RUNNING as there are motion grants. -/
theorem grant_homes {s : State} (h : s.HomesFirst 0) (most : s.lay.motionGrants ≤ 8) :
    (s.grant State.recompute none).HomesFirst s.lay.motionGrants := by
  unfold State.grant
  rw [show s.drive.queue.length = 8 by rw [h.queue]; rfl]
  exact giveGrants_homes 8 h rfl (Nat.zero_le _) most (by omega)

/-! ### The first raises (R54, R66) -/

/-- R143: the heat unit has the blower value of the Mix Record. -/
def State.blows (s : State) : Prop := s.heat.blower = s.governor.mix.blower

section
variable {s : State}

theorem recompute_blows (running : s.part = .running) (h : s.blows) : s.recompute.blows := by
  have made := recompute_recomputed running
  have mix : s.recompute.governor.mix = (s.nextMix none).1 := congrArg Governor.mix made.governor
  unfold State.blows
  rw [made.blower, mix, Bool.false_or]
  by_cases same : (s.nextMix none).1.blower = s.governor.mix.blower
  · rw [if_neg (by simp [same]), same]
    exact h
  · exact if_pos (by simpa using same)

theorem recomputeEntry_blows (running : s.part = .running) : s.recomputeEntry.blows := by
  have made := recomputeEntry_recomputed running
  have mix : s.recomputeEntry.governor.mix = (s.nextMix none).1 := congrArg Governor.mix made.governor
  unfold State.blows
  rw [made.blower, mix]
  exact if_pos rfl

theorem emit_blows (e : Event) (h : s.blows) : (s.emit e).blows := by
  rw [emit_eq]
  exact h

theorem purgeRejudge_idle (idle : s.purge.state = .idle) : s.purgeRejudge = s := by
  unfold State.purgeRejudge
  dsimp only
  rw [idle]

/-- A raise that the entry to RUNNING brings about. -/
structure Raises (k : HoldKey) (s t : State) : Prop where
  opens : Opens s t
  holds : t.holds = s.holds ++ [s.newRecord k .start none]
  blows : s.blows → t.blows

theorem createHold_raises (running : s.part = .running) (rest : s.Resting) (k : HoldKey) :
    Raises k s (s.createHold k .start none) where
  opens := createHold_opens rest k .start none
  holds := createHold_holds k .start none s
  blows h := by
    rw [createHold_resting rest]
    exact recompute_blows ((holdAdded_opens k .start none s).part.trans running) (emit_blows _ (by exact h))

theorem takeRaise_raises (running : s.part = .running) (rest : s.Resting) {k : HoldKey} (absent : s.hasHold k = false)
    (initial : (∃ i, k = .inletBarred i) ∨ k = .engineOff) : Raises k s (s.takeRaise k .start) := by
  have made := createHold_raises running rest k
  rw [takeRaise_absent running absent]
  obtain ⟨i, rfl⟩ | rfl := initial
  · have told : (s.createHold (.inletBarred i) .start none).tellFollowers (.inletBarred i) true =
        s.createHold (.inletBarred i) .start none := by
      rw [tellFollowers_eq]
      exact purgeRejudge_idle (made.opens.resting rest).purge
    rw [told]
    exact made
  · generalize s.createHold .engineOff .start none = u at made ⊢
    have told : u.tellFollowers .engineOff true = (u.setHeat { u.heat with seesEngineOff := true }).rejudgeHeat := rfl
    have judged := rejudgeHeat_quiet (u.setHeat { u.heat with seesEngineOff := true })
    have still := rejudgeHeat_still (u.setHeat { u.heat with seesEngineOff := true })
    have follows := rejudgeHeat_follows (u.setHeat { u.heat with seesEngineOff := true })
    rw [told]
    have opens : Opens (u.setHeat { u.heat with seesEngineOff := true }) _ :=
      .of_still (by exact ⟨(made.opens.resting rest).lanes, (made.opens.resting rest).purge, (made.opens.resting rest).dampers⟩)
        still follows (.of_drive judged.drive)
    refine ⟨opens.behind (made.opens.trans (.of_below rfl)), ?_, fun h => ?_⟩
    · exact (congrArg (fun x : Still => x.holds) still).trans made.holds
    · have blown := made.blows h
      exact judged.blower.trans (blown.trans (congrArg (fun g : Governor => g.mix.blower) judged.governor.symm))

end

end Sys2Proof.Machine
end

section
/-! PROOFS. The Mix Record after the initial holds (R35 to R48, R66): both inlets barred, no order in force. -/

namespace Sys2Proof.Machine

/-- R66: both inlets are barred, the engine is off, and nothing else is held or under way. -/
structure State.Barred (s : State) : Prop where
  holds : s.holds.map HoldRecord.key = [.inletBarred .roof, .inletBarred .bumper, .engineOff]
  idle : ∀ l, (s.lanes.get l).engaged = false
  view : s.governor.view = .reset

section
variable {s : State} (h : s.Barred)
include h

theorem State.Barred.hasHold (k : HoldKey) : s.hasHold k = true ↔ k = .inletBarred .roof ∨ k = .inletBarred .bumper ∨ k = .engineOff := by
  rw [hasHold_iff, h.holds]
  simp

theorem State.Barred.inForce (l : LaneId) : (s.lanes.get l).inForce = none := by
  unfold Lane.inForce
  rw [h.idle l]
  rfl

theorem State.Barred.not_purging : ¬ s.purging = true := by
  rw [purging_iff, h.hasHold]
  simp

theorem State.Barred.not_doorHold : ¬ s.doorHold = true := by
  rw [doorHold_iff]
  rintro ⟨d, held⟩
  simp [h.hasHold] at held

theorem State.Barred.sourceFree : s.SourceFree where
  flush := by rw [flushing_iff, h.hasHold]; simp
  scrub := by rw [scrubbing_iff, h.hasHold]; simp
  door := h.not_doorHold

theorem State.Barred.not_allowed (i : Inlet) : ¬ s.InletAllowed i := by
  intro allowed
  have held : s.hasHold (.inletBarred i) = true := by
    rw [h.hasHold]
    cases i <;> simp
  rw [State.InletAllowed, held] at allowed
  cases allowed.1

/-- R40, R66: the default source is recirculation while both inlets are barred. -/
theorem State.Barred.sourceChoice :
    s.sourceChoice = { source := .recirc, owner := .default, order := none, blends := true } := by
  have lanes : s.firstSatisfied s.ranked = none := firstSatisfied_none fun k g mem => by
    have force := mem_ranked_inForce mem
    rw [h.inForce] at force
    cases force
  rw [sourceChoice_default h.sourceFree lanes]
  have default : (s.satisfy s.lay.defaultSource).getD .recirc = .recirc := by
    cases s.lay.defaultSource with
    | recirc => rfl
    | freshRoof => exact congrArg (Option.getD · .recirc) (satisfy_none (r := .freshRoof) (h.not_allowed .roof))
    | freshBumper => exact congrArg (Option.getD · .recirc) (satisfy_none (r := .freshBumper) (h.not_allowed .bumper))
    | freshAny =>
      exact congrArg (Option.getD · .recirc) (satisfy_none (r := .freshAny) (not_or.2 ⟨h.not_allowed .roof, h.not_allowed .bumper⟩))
  rw [default]

theorem State.Barred.filter : s.nextFilter s.sourceChoice 0 0 = .bypass := by
  have clear : ¬ s.airFouled 0 0 := by
    unfold State.airFouled
    rw [h.hasHold, h.view]
    simp [h.not_purging, h.not_doorHold, GovernorView.reset, InletView.reset, InletView.mayLeak]
  have asks := mt (nextFilter_unasked s (c := s.sourceChoice) (by rw [h.sourceChoice]) 0 0).1 clear
  cases k : s.nextFilter s.sourceChoice 0 0 with
  | through => exact absurd k asks
  | bypass => rfl

theorem State.Barred.blower : s.nextBlower = min s.lay.idleBlower s.lay.engineOffCap := by
  have value : s.nextBlower = _ := nextMix_blower s none
  rw [value, if_pos ((h.hasHold _).2 (.inr (.inr rfl))), baseBlower_idle h.inForce, raiseBlower_free _ h.not_doorHold h.not_purging]

theorem State.Barred.zone (l : LaneId) (rest : (s.lanes.get l).state ≠ .fetch) : s.nextZone l = s.lay.rest.get l := by
  obtain ⟨-, zone⟩ := nextMix_zones s none l
  obtain ⟨-, free⟩ := zone h.not_purging
  rw [← nextMix_zone s none, free (h.inForce l), if_neg rest]

theorem State.Barred.laneHeat (l : LaneId) : s.laneHeat l = 0 := by
  unfold State.laneHeat
  rw [h.inForce l]

theorem State.Barred.denied (c : ChosenSource) (l : LaneId) : s.deniedLane c l = false := by
  unfold State.deniedLane
  rw [h.inForce l]

/-- R31, R66: the Mix Record that the initial holds leave. -/
theorem State.Barred.nextMix (rest : ∀ l, (s.lanes.get l).state ≠ .fetch) : s.nextMix none =
    ({ roof := 0, bumper := 0, recirc := 100, filter := .bypass, blower := min s.lay.idleBlower s.lay.engineOffCap
       relief := 0, zones := s.lay.rest, heat := 0, owner := .default, denied := ⟨false, false, false⟩ }, .recirc) := by
  have filter := h.filter
  have relief : s.nextRelief .recirc none = 0 := by
    have value := nextMix_relief_recirc s none h.not_doorHold h.not_purging (congrArg SourceChoice.source h.sourceChoice)
    rw [show (s.nextMix none).1.relief = s.nextRelief s.sourceChoice.source none from rfl, h.sourceChoice] at value
    exact value
  unfold State.nextMix
  dsimp only
  rw [h.sourceChoice] at filter ⊢
  simp only [openings, filter, h.blower, relief, h.zone _ (rest _), h.denied, List.map, allLanes, h.laneHeat]
  rfl

end

end Sys2Proof.Machine
end

section
/-! PROOFS. The entry to RUNNING as a whole (R170). -/

namespace Sys2Proof.Machine

/-! ### The switches compared (R121) -/

theorem index_injective : Function.Injective SwitchId.index := by
  intro i j
  cases i <;> cases j <;> decide

section
variable {s : State}

theorem switch_setSwitch (s : State) (i j : SwitchId) (x : Switch) : (s.setSwitch i x).switch j = if j = i then x else s.switch j := by
  by_cases same : j = i
  · rw [if_pos same, same]
    exact vset_get_same _ _ _
  · rw [if_neg same]
    exact vset_get_other _ _ fun e => same (index_injective e)

/-- R121: the timer that a switch gets where its raw level differs from the accepted one. -/
def State.compared (s : State) (i : SwitchId) : Switch := { s.switch i with debounce := s.debounceFor i (s.switch i) }

theorem compared_of_same {s t : State} {i : SwitchId} (switch : t.switch i = s.switch i) (now : t.now = s.now)
    (layout : t.layout = s.layout) : t.compared i = s.compared i := by
  unfold State.compared State.debounceFor State.lay
  rw [switch, now, layout]

theorem each_compared (is : List SwitchId) (distinct : is.Nodup) (s : State) (i : SwitchId) :
    (s.each is (fun i t => t.setSwitch i (t.compared i))).switch i = if i ∈ is then s.compared i else s.switch i := by
  induction is generalizing s with
  | nil => rfl
  | cons j js ih =>
    obtain ⟨new, distinct⟩ := List.nodup_cons.1 distinct
    have rest := ih distinct (s.setSwitch j (s.compared j))
    refine Eq.trans rest ?_
    have own := switch_setSwitch s j i (s.compared j)
    by_cases same : i = j
    · subst same
      rw [if_neg new, own, if_pos rfl, if_pos List.mem_cons_self]
    · rw [if_neg same] at own
      have compared : (s.setSwitch j (s.compared j)).compared i = s.compared i := compared_of_same own rfl rfl
      rw [compared, own]
      exact if_congr (by simp [same]) rfl rfl

theorem startSwitches_switch (s : State) (i : SwitchId) : s.startSwitches.switch i = s.compared i := by
  have all : i ∈ allSwitches := by cases i <;> decide
  exact (each_compared allSwitches (by decide) s i).trans (if_pos all)

theorem startSwitches_rest (s : State) : s.startSwitches = { s with switches := s.startSwitches.switches } := by
  have rest := each_leaves (fun t : State => fun w : Switches => ({ t with switches := w } : State))
    (fun i t => t.setSwitch i { t.switch i with debounce := t.debounceFor i (t.switch i) }) (fun _ _ => rfl) allSwitches s
  exact congrFun rest s.startSwitches.switches

end

/-! ### The first words (R4, R27, R170) -/

theorem startBlocks_resting (s : State) : s.startBlocks.Resting where
  lanes l := by
    have idle (k : LaneId) : (s.lay.startLane k).engaged = false := by
      unfold Lane.engaged Layout.startLane
      dsimp only
      split <;> rfl
    cases l <;> exact idle _
  purge := rfl
  dampers d := by
    have record : s.startBlocks.damper d = .reset := by
      show (Vector.replicate 8 Damper.reset).get d = _
      simp [Vector.get]
    rw [record]
    exact ⟨rfl, .inr rfl⟩

/-- R170: the part state word and the three consumer words. -/
def Layout.startEntries (L : Layout) : List RecordEntry :=
  [⟨0x42, 2, .plain⟩, ⟨L.laneBase + 2, 0, .plain⟩, ⟨L.laneBase + 6, 0, .plain⟩, ⟨L.laneBase + 10, 0, .plain⟩]

/-- R170: the blocks' starting states with the words that they queue. -/
def State.startWords (s : State) : State := s.startBlocks.putPartState.startConsumerWords.startLevelWords

theorem startLevelWords_opens (s : State) : Opens s s.startLevelWords := by
  refine each_opens (fun c t => ?_) allGraded s
  split
  · exact putStatus_opens t _ _
  · exact .refl t

theorem startConsumerWords_writes (s : State) : s.startConsumerWords.port.writes = s.port.writes ++
    [⟨s.lay.laneBase + 2, 0, .plain⟩, ⟨s.lay.laneBase + 6, 0, .plain⟩, ⟨s.lay.laneBase + 10, 0, .plain⟩] := by
  have lay (t : State) (a : Nat) (w : Word) : (t.offer a w).lay = t.lay := rfl
  show (((s.offer (s.laneWord .front 2) 0).offer _ 0).offer _ 0).port.writes = _
  rw [offer_writes, offer_writes, offer_writes]
  unfold State.laneWord
  rw [lay, lay, lay]
  simp [LaneId.index]

section
variable (s : State)

theorem startConsumerWords_opens : Opens s s.startConsumerWords := each_opens (fun _ t => offer_opens t _ _) allLanes s

theorem startWords_opens : Opens s.startBlocks s.startWords :=
  (startLevelWords_opens _).behind ((startConsumerWords_opens _).behind (offer_opens s.startBlocks _ _))

theorem startWords_writes : s.port.writes ++ s.lay.startEntries <+: s.startWords.port.writes := by
  have written : s.startBlocks.putPartState.startConsumerWords.port.writes = s.port.writes ++ s.lay.startEntries := by
    rw [startConsumerWords_writes, State.putPartState, offer_writes, List.append_assoc]
    rfl
  rw [← written]
  exact (startLevelWords_opens _).writes

theorem startWords_drive : s.startWords.drive = .start := by
  have levels (t : State) : t.startLevelWords.drive = t.drive := by
    refine each_leaves State.drive _ (fun c t => ?_) allGraded t
    split <;> rfl
  have consumers (t : State) : t.startConsumerWords.drive = t.drive :=
    each_leaves State.drive (fun l t => t.offer (t.laneWord l 2) 0) (fun _ _ => rfl) allLanes t
  exact (levels _).trans ((consumers _).trans rfl)

theorem startWords_holds : s.startWords.holds = [] := by
  have levels (t : State) : t.startLevelWords.holds = t.holds := by
    refine each_leaves State.holds _ (fun c t => ?_) allGraded t
    split <;> rfl
  have consumers (t : State) : t.startConsumerWords.holds = t.holds :=
    each_leaves State.holds (fun l t => t.offer (t.laneWord l 2) 0) (fun _ _ => rfl) allLanes t
  exact (levels _).trans ((consumers _).trans rfl)

theorem startWords_lay : s.startWords.lay = s.lay := by
  have layout : s.startWords.layout = s.layout := (startWords_opens s).layout.trans rfl
  unfold State.lay
  rw [layout]

theorem startWords_homes : s.startWords.HomesFirst 0 where
  lanes := ((startWords_opens s).resting (startBlocks_resting s)).lanes
  queue := by
    rw [startWords_drive]
    rfl
  dampers d := by
    have record : s.startWords.damper d = .reset := by
      unfold State.damper
      rw [startWords_drive]
      show (Vector.replicate 8 Damper.reset).get d = _
      simp [Vector.get]
    rw [record]
    exact ⟨rfl, rfl⟩

end

end Sys2Proof.Machine
end

section
/-! PROOFS. The entry to RUNNING: every block takes its starting state, the initial holds are raised and the scan begins
(R170). -/

namespace Sys2Proof.Machine

/-! ### The first holds raised (R66) -/

/-- R66: the three initial holds. -/
def initialRecords : List HoldRecord :=
  [{ key := .inletBarred .roof, cause := .start, raised := 0, notBefore := none, phase := none },
   { key := .inletBarred .bumper, cause := .start, raised := 0, notBefore := none, phase := none },
   { key := .engineOff, cause := .start, raised := 0, notBefore := none, phase := none }]

/-- R66: the raises of the initial holds. -/
theorem initialHolds_raises {s : State} (running : s.part = .running) (rest : s.Resting) (empty : s.holds = [])
    (clock : s.tagClock = 0) :
    Opens s s.initialHolds ∧ s.initialHolds.holds = initialRecords ∧ (s.blows → s.initialHolds.blows) := by
  have keyed {t : State} {rs : List HoldRecord} (h : t.holds = rs) (k : HoldKey) (new : k ∉ rs.map HoldRecord.key) :
      t.hasHold k = false := by
    rw [Bool.eq_false_iff, ne_eq, hasHold_iff, h]
    exact new
  have clocked {t : State} (h : Opens s t) : t.tagClock = 0 := (congrArg (fun x : Below => x.tagClock) h.below).trans clock
  have first := takeRaise_raises running rest (k := .inletBarred .roof) (keyed empty _ (by decide)) (.inl ⟨_, rfl⟩)
  unfold State.initialHolds
  generalize s.takeRaise (.inletBarred .roof) .start = t at first ⊢
  have holds := first.holds
  rw [empty, State.newRecord, clock] at holds
  have second := takeRaise_raises (first.opens.part.trans running) (first.opens.resting rest) (k := .inletBarred .bumper)
    (keyed holds _ (by decide)) (.inl ⟨_, rfl⟩)
  generalize t.takeRaise (.inletBarred .bumper) .start = u at second ⊢
  have opens := first.opens.trans second.opens
  have more := second.holds
  rw [holds, State.newRecord, clocked first.opens] at more
  have third := takeRaise_raises (opens.part.trans running) (opens.resting rest) (k := .engineOff)
    (keyed more _ (by decide)) (.inr rfl)
  refine ⟨opens.trans third.opens, ?_, third.blows ∘ second.blows ∘ first.blows⟩
  have all := third.holds
  rw [more, State.newRecord, clocked opens] at all
  exact all

/-! ### What is noted behind them (R110, R170) -/

/-- What offers writes and changes the event writer alone. -/
structure Notes (s t : State) : Prop where
  opens : Opens s t
  holds : t.holds = s.holds
  blows : s.blows → t.blows

theorem Notes.trans {s t u : State} (h : Notes s t) (k : Notes t u) : Notes s u :=
  ⟨h.opens.trans k.opens, k.holds.trans h.holds, k.blows ∘ h.blows⟩

theorem emit_notes (s : State) (e : Event) : Notes s (s.emit e) :=
  ⟨emit_opens s e, congrArg Lower.holds (emit_lower s e), emit_blows e⟩

theorem startRefusals_notes (s : State) : Notes s s.startRefusals := by
  have one (c : Fin 6) (t : State) : Notes t (match (t.grading c).copy with
      | some copy => t.thresholdEvent c copy
      | none => t) := by
    unfold State.thresholdEvent
    split
    · split
      · exact emit_notes t _
      · exact ⟨.refl t, rfl, id⟩
    · exact ⟨.refl t, rfl, id⟩
  unfold State.startRefusals State.each
  induction allGraded generalizing s with
  | nil => exact ⟨.refl s, rfl, id⟩
  | cons c cs ih => exact (one c s).trans (ih _)

theorem startDone_notes (s : State) : Notes s s.startDone := emit_notes s _

/-! ### The part before its first pass -/

/-- R170: the blocks at the end of the entry to RUNNING, before the first pass. -/
structure Began (s u : State) : Prop where
  below : u.below = s.startBlocks.below
  lanes : u.lanes = s.startBlocks.lanes
  reads : u.port.reads = s.port.reads
  guards : u.port.guards = s.port.guards
  writes : s.port.writes ++ s.lay.startEntries <+: u.port.writes
  dampers : ∀ d, (u.damper d).estimate = none ∧ (u.damper d).state = if d.val < s.lay.motionGrants then .homing else .waiting
  holds : u.holds = initialRecords
  blows : u.blows

/-- R133, R170: blocks at rest once the first grants are given. -/
theorem grant_rests {s : State} (homes : s.HomesFirst 0) (rests : s.Resting) (most : s.lay.motionGrants ≤ 8) :
    (s.grant State.recompute none).HomesFirst s.lay.motionGrants ∧ (s.grant State.recompute none).Resting := by
  have still := grant_still recompute_still none s
  have given := grant_homes homes most
  generalize s.grant State.recompute none = t at still given ⊢
  refine ⟨given, given.lanes, ?_, fun d => ?_⟩
  · rw [show t.purge = s.purge from congrArg (fun x : Still => x.purge) still]
    exact rests.purge
  · obtain ⟨estimate, state⟩ := given.dampers d
    refine ⟨estimate, ?_⟩
    rw [state]
    by_cases first : d.val < s.lay.motionGrants
    · exact .inl (if_pos first)
    · exact .inr (if_neg first)

theorem startHolds_began {s : State} (most : s.lay.motionGrants ≤ 8) : Began s s.startHolds := by
  have words := startWords_opens s
  have written := startWords_writes s
  have noHolds := startWords_holds s
  have lay := startWords_lay s
  have homing := startWords_homes s
  have resting := words.resting (startBlocks_resting s)
  have eq : s.startHolds = (s.startWords.grant State.recompute none).recomputeEntry.initialHolds.startRefusals.startDone := rfl
  rw [eq]
  generalize s.startWords = w at *
  rw [← lay] at most
  obtain ⟨homes, rests⟩ := grant_rests homing resting most
  rw [lay] at homes
  have still := grant_still recompute_still none w
  have follows := grant_follows recompute_follows none w
  have lanes := lanes_of_still still resting.lanes
  generalize w.grant State.recompute none = v at *
  have part : v.part = .running := (congrArg (fun x : Still => x.part) still).trans (words.part.trans rfl)
  have entry := recomputeEntry_opens rests
  have blown := recomputeEntry_blows part
  have empty : v.recomputeEntry.holds = [] :=
    (congrArg (fun x : Still => x.holds) ((recomputeEntry_still v).trans still)).trans noHolds
  have below : v.below = s.startBlocks.below := (State.below_of_still still).trans words.below
  generalize v.recomputeEntry = x at *
  have clock : x.tagClock = 0 := congrArg (fun b : Below => b.tagClock) (entry.below.trans below)
  obtain ⟨raised, records, blows⟩ := initialHolds_raises (entry.part.trans part) (entry.resting rests) empty clock
  have noted := (startRefusals_notes x.initialHolds).trans (startDone_notes _)
  generalize x.initialHolds.startRefusals.startDone = u at noted ⊢
  have opens := (entry.trans raised).trans noted.opens
  refine ⟨opens.below.trans below, opens.lanes.trans (lanes.trans words.lanes), ?_, ?_, ?_, fun d => ?_,
    noted.holds.trans records, noted.blows (blows blown)⟩
  · exact opens.reads.trans ((congrArg Still.reads still).trans words.reads)
  · exact opens.guards.trans ((congrArg Still.guards still).trans words.guards)
  · exact written.trans (follows.writes.trans opens.writes)
  · obtain ⟨estimate, state⟩ := homes.dampers d
    have same := opens.dampers d
    have estimates := congrArg Damper.estimate same
    have states := congrArg Damper.state same
    exact ⟨estimates.trans estimate, states.trans state⟩

/-! ### The first pass and the switches (R96, R121) -/

/-- R170: past the initial holds only the scanner, the switches and the lamp change. -/
theorem enterRunning_rest (s : State) : ∃ events, s.enterRunning =
    { s.startHolds.beginPass with switches := s.startHolds.beginPass.startSwitches.switches, events := events } := by
  rw [enterRunning_eq]
  generalize s.startHolds.beginPass = u
  rw [relamp_eq, startSwitches_rest]
  exact ⟨_, rfl⟩

theorem scanned_first {L : Layout} (ok : L.scanListOk = true) : L.scanned.getD 0 0 = L.scanList.get 0 := by
  obtain ⟨some, -, -⟩ := (scanListOk_iff L).1 ok
  unfold Layout.scanned
  generalize L.scanList = v
  obtain ⟨n, hn⟩ : ∃ n, L.scanLength = n + 1 := ⟨L.scanLength - 1, by omega⟩
  rw [hn]
  obtain ⟨⟨xs⟩, size⟩ := v
  cases xs with
  | nil => cases size
  | cons x xs => rfl

/-- R121: the switches at the end of the entry to RUNNING. -/
theorem startSwitches_compared {s u : State} (below : u.below = s.startBlocks.below) (i : SwitchId) :
    let x := u.beginPass.startSwitches.switch i
    x.accepted = false ∧ x.raw = (s.switch i).raw ∧
      x.debounce = if (s.switch i).raw = true then some (s.now + s.lay.debounce i) else none := by
  have own : u.beginPass.switch i = { raw := (s.switch i).raw, accepted := false, debounce := none } := by
    have switches : u.switches = s.switches.rest := congrArg (fun x : Below => x.switches) below
    show u.switches.inputs.get i.index = _
    rw [switches, rest_switch]
  have now : u.beginPass.now = s.now := congrArg (fun x : Below => x.now) below
  have layout : u.beginPass.layout = s.layout := congrArg (fun x : Below => x.layout) below
  rw [startSwitches_switch, State.compared, own, State.debounceFor, State.lay, now, layout]
  refine ⟨rfl, rfl, ?_⟩
  cases (s.switch i).raw <;> rfl

/-! ### The mix and the heat unit (R31, R142, R148) -/

theorem enterRunning_mix (s : State) : s.enterRunning.mixFollows :=
  mixCurrent_invariant.moves (enterRunning_moves s) rfl (fun current => by cases current) rfl (enterRunning_running s)

theorem startHolds_allowed (s : State) : s.startHolds.heat.allowed = 0 :=
  (scanner_of_unasked (startHolds_moves (A := Unasked) rfl s) rfl rfl rfl).1

/-- R145, R148: no stage is allowed before the first class of the supply, and none is ON. -/
theorem startHolds_cold (s : State) : s.startHolds.heat.allowed = 0 ∧ s.startHolds.heat.energised = 0 := by
  have allowed := startHolds_allowed s
  obtain ⟨-, within, -⟩ := enterRunning_heatKeeps s
  obtain ⟨events, rest⟩ := enterRunning_rest s
  rw [rest] at within
  generalize s.startHolds = u at *
  have unlit : u.beginPass.heat.energised ≤ 0 := allowed ▸ within
  exact ⟨allowed, Nat.le_zero.1 unlit⟩

end Sys2Proof.Machine
end

section
/-! PROOFS. The entry to RUNNING, settled (R170). -/

namespace Sys2Proof.Machine

section
variable {s u : State}

theorem Began.below_layout (h : Began s u) : u.layout = s.layout := congrArg (fun x : Below => x.layout) h.below

theorem Began.lane (h : Began s u) (l : LaneId) : u.lanes.get l = s.lay.startLane l := by
  rw [h.lanes]
  cases l <;> rfl

/-- R66, R170: the inputs of the Governor at the end of the entry to RUNNING. -/
theorem Began.barred (h : Began s u) : u.Barred where
  holds := by
    rw [h.holds]
    rfl
  idle l := by
    rw [h.lanes]
    exact (startBlocks_resting s).lanes l
  view := congrArg Below.view h.below

theorem Began.unfetched (h : Began s u) (l : LaneId) : (u.lanes.get l).state ≠ .fetch := by
  rw [h.lane]
  unfold Layout.startLane
  dsimp only
  split <;> exact nofun

/-- R31, R66: the record that the initial holds leave. -/
theorem Began.mix (h : Began s u) (follows : u.mixFollows) : u.governor.chosen = .recirc ∧ u.governor.mix =
    { roof := 0, bumper := 0, recirc := 100, filter := .bypass, blower := min s.lay.idleBlower s.lay.engineOffCap
      relief := 0, zones := s.lay.rest, heat := 0, owner := .default, denied := ⟨false, false, false⟩ } := by
  have lay : u.lay = s.lay := by
    unfold State.lay
    rw [h.below_layout]
  have made : (u.governor.mix, u.governor.chosen) = _ := follows.symm.trans (h.barred.nextMix h.unfetched)
  rw [lay] at made
  exact ⟨congrArg Prod.snd made, congrArg Prod.fst made⟩

theorem Began.channel (h : Began s u) (c : Fin 16) : u.channel c = .reset := by
  have channels : u.scanner.channels = Vector.replicate 16 .reset := congrArg (fun x : Below => x.channels) h.below
  unfold State.channel
  rw [channels]
  simp [Vector.get]

theorem Began.conversion (h : Began s u) (scan : s.lay.scanListOk = true) :
    u.beginPass.scanner.conversion = some { channel := s.lay.scanList.get 0, began := s.now } := by
  have lay : u.lay = s.lay := by
    unfold State.lay
    rw [h.below_layout]
  have now : u.now = s.now := congrArg (fun x : Below => x.now) h.below
  have first := scanned_first scan
  rw [← lay] at first
  have begins : u.beginPass.scanner.conversion = some { channel := u.lay.scanned.getD 0 0, began := u.now } := rfl
  rw [begins, first, lay, now]

end

theorem initialRecords_start : ∀ r ∈ initialRecords, r.cause = .start ∧ r.raised = 0 ∧ r.notBefore = none := by decide

/-- Settles O9: the blocks' starting states through the first grants and raises; the Mix Record is the one that the barred
inlets give. -/
theorem runningEntryStartsEveryBlock : Obligations.RunningEntryStartsEveryBlock := by
  intro s L loading phase left latched ranges scan
  have lay : s.lay = L := by rw [State.lay, latched]; rfl
  subst lay
  have ready : s.finishInitialWrites = s.enterRunning := if_pos (runningReady_iff.2 ⟨loading, phase, left⟩)
  obtain ⟨settings, -⟩ := (rangesOk_iff s.lay).1 ranges
  obtain ⟨-, most⟩ := settings (1, s.lay.motionGrants, 4) (by simp [Layout.ranges])
  have began := startHolds_began (s := s) (Nat.le_trans (show s.lay.motionGrants ≤ 4 from most) (by decide))
  have follows := enterRunning_mix s
  have queue := startHolds_queue s
  obtain ⟨allowed, energised⟩ := startHolds_cold s
  obtain ⟨events, rest⟩ := enterRunning_rest s
  refine ⟨s.enterRunning, congrArg Host.Outcome.next ready, ?_⟩
  rw [rest] at follows ⊢
  generalize s.startHolds = u at *
  have same : u.mixFollows := mixFollows_of_unread follows rfl rfl rfl rfl rfl
  obtain ⟨chosen, mix⟩ := began.mix same
  have blower : u.heat.blower = min s.lay.idleBlower s.lay.engineOffCap :=
    Eq.trans began.blows (congrArg Mix.blower mix)
  have below {α : Type} (f : Below → α) : f u.below = f s.startBlocks.below := congrArg f began.below
  have compared := startSwitches_compared began.below
  generalize u.beginPass.startSwitches = v at *
  refine ⟨below (fun x => x.part), began.below_layout.trans latched, below (fun x => x.tagClock), below (fun x => x.lastTick),
    below (fun x => x.ram), began.reads, began.guards, began.writes, began.lane, ?_, ?_, mix, chosen, below Below.purge,
    below (fun x => x.grader), began.channel, rfl, rfl, congrArg some (below (fun x => x.now)), queue, began.conversion scan,
    compared, began.dampers, blower, energised, allowed⟩
  · exact began.barred.holds
  · show ∀ r ∈ u.holds, _
    rw [began.holds]
    exact initialRecords_start

end Sys2Proof.Machine
end
